-- ==== Sys2Proof/Word.lean ====
section
/-! DEFINITION. The number and name types every other file uses: wire bytes, the indices of arms,
lanes, slots and probe channels (spec/00_scope.md section 3), and the bit sets in which the links
carry flags (R164). -/

namespace Sys2Proof

/-- A byte of a link frame or of a monitor packet (R164, R182). -/
abbrev Byte := BitVec 8

/-- Arms are numbered 0 to 7 (00_scope section 3). -/
abbrev ArmId := Fin 8

/-- Lanes are numbered 0 to 3; arm `a` belongs to lane floor(a/2) (00_scope section 3). -/
abbrev LaneId := Fin 4

/-- Injector slots are numbered 0 to 2 within each arm (00_scope section 3). -/
abbrev SlotId := Fin 3

/-- Probe channel 2a measures arm a's gasoline and 2a+1 its ethanol (00_scope section 3). -/
abbrev Channel := Fin 16

/-- A name: 12 character codes (Table 6-3, R164). -/
abbrev Name := Vector Byte 12

/-- The five links (00_scope section 1.2). -/
inductive Port where
  | lane (l : LaneId)
  | supervisor
deriving DecidableEq, Repr

/-- The two components of an arm, each with a meter and a probe (00_scope section 3). -/
inductive Component where
  | gasoline
  | ethanol
deriving DecidableEq, Repr

end Sys2Proof
end

