-- ==== Sys2Proof/Syntax.lean ====
section
/-! DEFINITION. The commands of the block: one constructor of `Instr` for every row of
spec/opcode_table.json, with the row's operands, and the data types those operands are made of
(arm configs, recipe records, the items of the recipe store). Numeric operands of a link request
are the numbers its frame fields carry (R164), in range or not: the range checks are the request's
own rules. -/

namespace Sys2Proof

/-! ## Settings carried by supervisor requests -/

/-- One injector slot's configuration (Table 8-1). -/
structure SlotConfig where
  code : Nat
  strokeVolume : Nat
  pulseWidth : Nat
  verifyTimeout : Nat
deriving DecidableEq, Repr

/-- The calibration of one probe channel (Table 4-1). -/
structure Calibration where
  offset : Int
  span : Nat
deriving DecidableEq, Repr

/-- The whole config of one arm, as SET ARM CONFIG carries it (R174). -/
structure ArmConfig where
  factorG : Nat
  factorE : Nat
  trimPeriod : Nat
  drainTime : Nat
  smoothing : Nat
  pwmPeriod : Nat
  slots : Vector SlotConfig 3
  probeG : Calibration
  probeE : Calibration
deriving DecidableEq, Repr

/-- The fields of SET WINDOW (Table 6-5). `enable` and `withheld` are the bytes of the frame, 1 for
enabled or set (R164). -/
structure WindowFields where
  enable : Nat
  base : Nat
  mask : Nat
  withheld : Nat
  alphaG : Nat
  mainFlow : Nat
  holdLimit : Nat
  name : Name
deriving DecidableEq, Repr

/-- The scanner settings that SET SCAN carries (R67). -/
structure ScanSettings where
  first : Nat
  last : Nat
  low : Int
  high : Int
  staleLimit : Nat
deriving DecidableEq, Repr

/-- Parameters 20 to 22: an additive code and its rate in µL per litre (Table 6-4). -/
structure Additive where
  code : Nat
  rate : Nat
deriving DecidableEq, Repr

/-- The numeric recipe parameters of Table 6-4, in parameter order; parameter 19, the fault action,
is a named value and stands beside them. -/
structure Params where
  target : Nat
  tolerance : Nat
  excursion : Nat
  flush : Nat
  alphaG : Nat
  alphaE : Nat
  gain : Nat
  stepLimit : Nat
  uLo : Nat
  uHi : Nat
  u0 : Nat
  nSat : Nat
  lowStart : Nat
  lowFlow : Nat
  mainFlow : Nat
  topOffVolume : Nat
  topOffFlow : Nat
  holdLimit : Nat
  missLimit : Nat
  additives : Vector Additive 3
  precision : Nat
deriving DecidableEq, Repr

/-- The kind of a recipe record and of a batch (Table 6-3). -/
inductive RecipeKind where
  | blend
  | straight
deriving DecidableEq, Repr

/-- Parameter 19, the additive fault action (Table 6-4). -/
inductive FaultAction where
  | hold
  | flag
deriving DecidableEq, Repr

/-- The fields of WRITE DIRECTORY ENTRY beside its product code (R92). -/
structure EntryFields where
  valid : Nat
  restricted : Nat
  page : Nat
deriving DecidableEq, Repr

/-- The fields of WRITE RECIPE beside its page and package (R92); `kind` and `faultAction` are the
places of their values in their lists (R164). -/
structure RecipeFields where
  valid : Nat
  restricted : Nat
  name : Name
  kind : Nat
  params : Params
  faultAction : Nat
deriving DecidableEq, Repr

/-! ## Items of the recipe store -/

/-- A directory entry (Table 6-2). -/
structure DirectoryEntry where
  valid : Bool
  restricted : Bool
  used : Bool
  page : Nat
deriving DecidableEq, Repr

/-- A recipe record (Table 6-3). -/
structure RecipeRecord where
  valid : Bool
  restricted : Bool
  dispensed : Bool
  name : Name
  kind : RecipeKind
  params : Params
  faultAction : FaultAction
deriving DecidableEq, Repr

/-- The key of a recipe: product code and additive package (R96). -/
structure Key where
  product : Nat
  package : Nat
deriving DecidableEq, Repr

/-- An arm's four totalizers in mL (R151). -/
structure Totalizers where
  grossG : Nat
  grossE : Nat
  netG : Nat
  netE : Nat
deriving DecidableEq, Repr

/-- A totals block: the totalizers and the unauthorized-pulse totals of one arm (Table 6-1). -/
structure TotalsBlock where
  totals : Totalizers
  pulsesG : Nat
  pulsesE : Nat
deriving DecidableEq, Repr

/-- The contents of a set open-batch marker (Table 6-1, R104). -/
structure OpenMarker where
  number : Nat
  key : Key
  preset : Nat
  vg : Nat
  ve : Nat
  ng : Nat
  ne : Nat
  figures : TotalsBlock
deriving DecidableEq, Repr

/-- The kind of a batch record (Table 10-2). -/
inductive RecordKind where
  | complete
  | short
  | aborted
  | interrupted
deriving DecidableEq, Repr

/-- The abort cause of a record of kind ABORTED (Table 10-2). -/
inductive AbortCause where
  | lane
  | supervisor
  | holdTimeout
deriving DecidableEq, Repr

/-- The markers of a batch, in the order of Table 10-2. OFF_RATIO is judged at the close only (R48)
and is clear in a running batch. -/
structure Markers where
  uncorrectedG : Bool
  uncorrectedE : Bool
  flushReduced : Bool
  offRatio : Bool
  trimSaturated : Bool
  pulseSaturated : Bool
  additiveLag : Bool
deriving DecidableEq, Repr

/-- One entry of a record's additive list (R50). -/
structure AdditiveEntry where
  code : Nat
  verified : Nat
  missed : Nat
  required : Nat
  delivered : Nat
  short : Bool
deriving DecidableEq, Repr

/-- A batch record (Table 10-2); an absent field is `none`. -/
structure BatchRecord where
  number : Nat
  post : Nat
  arm : ArmId
  key : Key
  name : Option Name
  kind : RecordKind
  abortCause : Option AbortCause
  preset : Nat
  vg : Nat
  ve : Nat
  ng : Nat
  ne : Nat
  pulsesG : Option Nat
  pulsesE : Option Nat
  excess : Nat
  fraction : Nat
  target : Option Nat
  averageG : Option Int
  averageE : Option Int
  precision : Option Nat
  markers : Markers
  additives : List AdditiveEntry
  unsaved : Bool
deriving DecidableEq, Repr

/-- The contents of a store item, by the regions of Table 6-1. -/
inductive StoreItem where
  | entry (e : DirectoryEntry)
  | recipe (r : RecipeRecord)
  | totals (t : TotalsBlock)
  | marker (m : Option OpenMarker)
  | slot (r : Option BatchRecord)
  | counter (n : Nat)
deriving DecidableEq, Repr

/-- A store item as the recipe store holds it: its contents and the 16-bit check word it carries, which may
match them or not (R89). -/
structure StoreCell where
  contents : StoreItem
  check : BitVec 16
deriving DecidableEq, Repr

/-- What the read-back of a failing write shows, and so what the item is left with (R89). -/
inductive ReadBack where
  /-- the contents from before the write -/
  | unchanged
  /-- an all-zero item -/
  | blank
  /-- any other contents, with the check word read back with them -/
  | contents (c : StoreCell)
deriving DecidableEq, Repr

/-- A failure of the store bus during one operation: which item of the operation fails, counted from
0 in the order of Table 6-6, and, for a write, what its read-back shows (R89). -/
structure StoreFault where
  item : Nat
  shows : ReadBack
deriving DecidableEq, Repr

/-! ## The commands -/

/-- The commands of the block, in the order of spec/opcode_table.json. A request stands for a
complete frame of that request on link `port` with tag `tag`. -/
inductive Instr where
  | authorize (port : Port) (tag : Byte) (arm : Nat) (product : Fin 256) (package preset : Nat)
  | start (port : Port) (tag : Byte) (arm : Nat)
  | stop (port : Port) (tag : Byte) (arm : Nat)
  | resume (port : Port) (tag : Byte) (arm : Nat)
  | endBatch (port : Port) (tag : Byte) (arm : Nat)
  | abort (port : Port) (tag : Byte) (arm : Nat)
  | armStatus (port : Port) (tag : Byte) (arm : Nat)
  | readFlags (port : Port) (tag : Byte) (arm : Nat)
  | clearFlags (port : Port) (tag : Byte) (arm : Nat) (mask : BitVec 16)
  /-- `lane` is the lane the supervisor names; a lane link's request names none (R159). -/
  | readRecord (port : Port) (tag : Byte) (lane : Nat)
  /-- `lane` is the lane the supervisor names; a lane link's request names none (R160). -/
  | releaseRecord (port : Port) (tag : Byte) (number lane : Nat)
  | readTotals (port : Port) (tag : Byte) (arm : Nat)
  | setArmConfig (port : Port) (tag : Byte) (arm : Nat) (config : ArmConfig)
  | setHeaderCapacity (port : Port) (tag : Byte) (capacity : Nat)
  | setAuthorizeTimeout (port : Port) (tag : Byte) (seconds : Nat)
  | setWindow (port : Port) (tag : Byte) (window : Nat) (fields : WindowFields)
  /-- `setting` is the place of the setting in "in service or out of service" (R137, R164). -/
  | setAdditiveService (port : Port) (tag : Byte) (code setting : Nat)
  | releaseRestricted (port : Port) (tag : Byte) (arm : Nat)
  | readHeader (port : Port) (tag : Byte)
  | readDirectoryEntry (port : Port) (tag : Byte) (product : Nat)
  | writeDirectoryEntry (port : Port) (tag : Byte) (product : Nat) (fields : EntryFields)
  | readRecipe (port : Port) (tag : Byte) (page package : Nat)
  | writeRecipe (port : Port) (tag : Byte) (page package : Nat) (fields : RecipeFields)
  | flushAll (port : Port) (tag : Byte)
  | flushProduct (port : Port) (tag : Byte) (product : Nat)
  | clearUsage (port : Port) (tag : Byte) (product : Nat)
  | setScan (port : Port) (tag : Byte) (settings : ScanSettings)
  | startScan (port : Port) (tag : Byte)
  | stopScan (port : Port) (tag : Byte)
  | readProbes (port : Port) (tag : Byte)
  | setMonitor (port : Port) (tag : Byte) (mode arm : Nat)
  | setAlertModes (port : Port) (tag : Byte) (lane : Nat) (selection : Byte)
  | restart (port : Port) (tag : Byte)
  | frameGapTimeout (port : Port)
  | responseSent (port : Port)
  | powerOnReset
  | meterPulseA (arm : ArmId) (meter : Component)
  | meterPulseB (arm : ArmId) (meter : Component)
  | permissiveLost (arm : ArmId)
  | verifyEdge (arm : ArmId) (slot : SlotId)
  | authorizeTimerExpiry (arm : ArmId)
  | holdTimerExpiry (arm : ArmId)
  | drainExpiry (arm : ArmId)
  | windowExpiry (arm : ArmId)
  | bauTakeRequest
  | computationComplete
  | headExamination
  | releaseLapse (arm : ArmId)
  | conversionComplete (code : BitVec 16)
  | staleExpiry (channel : Channel)
  | pulseEnd (arm : ArmId) (slot : SlotId)
  | verifyTimeout (arm : ArmId) (slot : SlotId)
  | pwmPeriodStart (arm : ArmId)
  | storeOperationStart
  | walkCompletion (fault : Option StoreFault)
  | dispensedCompletion (fault : Option StoreFault)
  | checkpointCompletion (fault : Option StoreFault)
  | closeCompletion (fault : Option StoreFault)
  | recordFreeCompletion (fault : Option StoreFault)
  | supReadCompletion (fault : Option StoreFault)
  | supWriteCompletion (fault : Option StoreFault)
  | usageClearCompletion (fault : Option StoreFault)
  /-- `failing` is the item of the 41-item load whose read fails, if one does (R107, R108). -/
  | storeLoadEnd (failing : Option Nat)
  | restartReset
  | packetSent
  | frameByteReceived (port : Port) (byte : Byte)
  | permissiveReturns (arm : ArmId)
deriving DecidableEq, Repr

end Sys2Proof
end

