-- ==== Sys2Proof/Decode.lean ====
section
/-! DEFINITION. The command a table word spells. No row of spec/opcode_table.json has bits: the block takes
frames, field signals and timer events, and has no command words. The bytes of a request's frame are read
in Machine/Wire.lean and Machine/LinkEvents.lean. -/

/-- The command that a word of `nbits` bits spells by the table: none, since no row gives bits. -/
def Sys2Proof.decodeTableWord (_nbits _w : Nat) : Option Sys2Proof.Instr := none
end

