-- ==== Sys2Proof/Config.lean ====
section
/-! DEFINITION. The free values: results the spec does not state. Each is an opaque constant applied
to the operands it depends on, so nothing can be proved about its value. -/

namespace Sys2Proof

/-- The flow rate r of a window whose duration is 0 ms and in which Stage E is performed: R12 divides
by w_ms, and R83 only says that a 0 divides nothing because such a window is computed in CLOSING.
FREE VALUE (log entry 1). -/
opaque Config.rateOfEmptyWindow : Nat → Nat

/-- What a frame or packet field of `bytes` bytes carries for a quantity that does not fit it: the
spec sizes each field by its stated range and says nothing of a value beyond it (R164, Table 12-3).
FREE VALUE (log entry 2). -/
opaque Config.overwideField (bytes : Nat) (value : Int) : Nat

/-- What the bytes of an absent figure of a monitor packet carry: a packet always takes its full size
(R183), and the spec gives those bytes no content (Tables 12-3 and 12-4). FREE VALUE (log entry 13). -/
opaque Config.absentFigure (bytes : Nat) : Nat

end Sys2Proof
end

