-- ==== Sys2Proof/Machine/State.lean ====
section
/-! DEFINITION. The state of the H880 as plain data: every register, counter, timer, queue and pin
the spec names, block by block (Table 0-1), the queue of waiting commands, and the value of each
after power-on reset. Outputs that the spec computes from held state (valve output, injector
drives, alert lines) are functions in Machine/Alerts.lean and Machine/Injector.lean. -/

namespace Sys2Proof.Machine

open Sys2Proof

/-- No step of this block stops with a fault: the spec answers every request with a result code and
gives every event an effect. The type has no constructor, so no step can fault. -/
inductive Fault
deriving DecidableEq, Repr

/-- Reasons a command is refused. -/
inductive Refusal where
  /-- Raised by `exec` for a command that has no meaning yet; safe, since nothing is claimed of it.
  No command of the table is left so. -/
  | notModelled (mnemonic : String)
deriving DecidableEq, Repr

/-! ## Timers -/

/-- A timer: stopped, or running towards an instant of the clock in µs. Its remaining time is that
instant less the clock (R25, R72, R78, R99, R128). -/
abbrev Timer := Option Nat

/-! ## Sticky flags and hold causes -/

/-- The eleven sticky flags of an arm, in the order of R26. -/
inductive Flag where
  | meterG | meterE | probeG | probeE | ratio | overspeed | ethanolOnly | additive
  | unauthFlow | trimOverrun | store
deriving DecidableEq, Repr

/-- A set of sticky flags, METER_G in the least significant bit (R164). -/
abbrev FlagSet := BitVec 11

/-- The hold causes, in the order of R25. -/
inductive HoldCause where
  | lane | supervisor | permissive | ratio | overspeed | ethanolOnly | meter | additive
deriving DecidableEq, Repr

/-- A set of hold causes, LANE in the least significant bit (R164). -/
abbrev HoldSet := BitVec 8

/-! ## Arm Sequencer -/

/-- The state an arm was in when its hold cause set last became non-empty (R25). -/
inductive HeldFrom where
  | delivering
  | flushing
deriving DecidableEq, Repr

/-- The arm states of Table 2-1; a HELD arm carries its held-from state (R25). -/
inductive ArmState where
  | idle
  | authorizing
  | authorized
  | waitingHeader
  | delivering
  | flushing
  | held (origin : HeldFrom)
  | closing
deriving DecidableEq, Repr

/-- The stage of a batch (R13). -/
inductive Stage where
  | lowStart
  | main
  | topOff
deriving DecidableEq, Repr

/-- The recipe snapshot (R28). `excursionOn` is clear for a straight-product window, whose snapshot
has no excursion limit (R95). -/
structure Snapshot where
  name : Name
  kind : RecipeKind
  params : Params
  faultAction : FaultAction
  excursionOn : Bool
deriving DecidableEq, Repr

/-- The quantities fixed at START (R3). -/
structure Fixed where
  goal : Nat
  flush : Nat
  flushStart : Nat
  fraction : Nat
deriving DecidableEq, Repr

/-- How a batch left delivery: its kind and, for ABORTED, the abort cause (R45). -/
structure Ending where
  kind : RecordKind
  cause : Option AbortCause
deriving DecidableEq, Repr

/-- The running figures of a batch (Table 1-2). The strokes due are held by the injector slots
(Table 8-2) and the allotment limit by the Header Allotment (Table 9-1). -/
structure Figures where
  vg : Nat
  ve : Nat
  ng : Nat
  ne : Nat
  grossResidueG : Nat
  grossResidueE : Nat
  netResidueG : Nat
  netResidueE : Nat
  pulsesG : Nat
  pulsesE : Nat
  demand : Nat
  error : Int
  u : Nat
  uResume : Nat
  rate : Nat
  stage : Stage
  flowLimit : Nat
  overspeed : Nat
  excursion : Nat
  ethanolOnly : Nat
  grace : Nat
  saturation : Nat
  sumG : Int
  sumE : Int
  firstLitre : Bool
  markers : Markers
deriving DecidableEq, Repr

/-- The batch context of an arm (Section 1.5, R2). `page` is the page the record came from, absent
for a straight-product window (R96). -/
structure Batch where
  key : Key
  preset : Nat
  snapshot : Option Snapshot
  page : Option Nat
  fixed : Option Fixed
  number : Option Nat
  ending : Option Ending
  figures : Figures
deriving DecidableEq, Repr

/-! ## Meter Counters -/

/-- The counting mode of a meter (R52). -/
inductive CountMode where
  | idleCount
  | windowCount
deriving DecidableEq, Repr

/-- A Meter Counter (Table 3-1). -/
structure Meter where
  mode : CountMode
  countA : Nat
  countB : Nat
  mismatch : Nat
  idleCount : Nat
  unauthorized : Nat
deriving DecidableEq, Repr

/-! ## Injector slots and valve drive -/

/-- The stroke outcome of a slot in STROKING (Table 8-2). -/
inductive StrokeOutcome where
  | unresolved
  | verified
  | missed
deriving DecidableEq, Repr

/-- The state of an injector slot (Table 8-2). -/
inductive SlotPhase where
  | ready
  | stroking (outcome : StrokeOutcome)
  | awaitVerify
deriving DecidableEq, Repr

/-- An injector slot (Table 8-2). -/
structure Slot where
  phase : SlotPhase
  pulseTimer : Timer
  verifyTimer : Timer
  due : Nat
  issued : Nat
  verified : Nat
  missed : Nat
  consecutive : Nat
deriving DecidableEq, Repr

/-- A Valve Drive (Table 8-6); its period comes from the arm config. -/
structure Valve where
  commanded : Nat
  applied : Nat
  periodStart : Option Nat
deriving DecidableEq, Repr

/-! ## The arm -/

/-- Everything the part holds per arm: the Arm Sequencer, the batch context, the two Meter Counters,
the window timer, the injector slots, the Valve Drive and the arm's custody figures. `release` is
the lapse timer of a granted restricted release (R99); `finalDone` records the BAU's report that the
final computation is done (R24); `reserved` is the record reservation (R156); `opened` the open
indication (R154). -/
structure Arm where
  state : ArmState
  causes : HoldSet
  authorizeTimer : Timer
  holdTimer : Timer
  drainTimer : Timer
  config : Option ArmConfig
  release : Timer
  permissive : Bool
  flags : FlagSet
  overrun : Nat
  batch : Option Batch
  finalDone : Bool
  reserved : Bool
  opened : Bool
  meterG : Meter
  meterE : Meter
  windowTimer : Timer
  windowStart : Option Nat
  windowPeriod : Option Nat
  slots : Vector Slot 3
  valve : Valve
  totals : Totalizers
deriving DecidableEq, Repr

/-! ## Trim Scheduler and BAU -/

/-- A temperature snapshot: the temperature and its uncorrected indication (R75). -/
structure ProbeReading where
  temperature : Int
  uncorrected : Bool
deriving DecidableEq, Repr

/-- A request of the arithmetic queue (R4, R79). -/
structure TrimRequest where
  arm : ArmId
  pulsesG : Nat
  pulsesE : Nat
  probeG : ProbeReading
  probeE : ProbeReading
  duration : Nat
  final : Bool
deriving DecidableEq, Repr

/-- The computation in progress and the instant it started (R84). -/
structure Computation where
  request : TrimRequest
  started : Nat
deriving DecidableEq, Repr

/-! ## Probe Scanner -/

/-- The state of a probe record (Table 4-3). -/
inductive ProbeState where
  | none
  | good
  | suspect
  | stale
deriving DecidableEq, Repr

/-- A probe record (Table 4-3). -/
structure ProbeRecord where
  last : Option Int
  state : ProbeState
  rejects : Nat
  staleTimer : Timer
deriving DecidableEq, Repr

/-- A conversion in flight: its channel, which is the current channel, and when it began (R65). -/
structure Conversion where
  channel : Channel
  began : Nat
deriving DecidableEq, Repr

/-- The Probe Scanner. It is SCANNING exactly while a conversion is in flight (R65). -/
structure Scanner where
  settings : ScanSettings
  conversion : Option Conversion
  records : Vector ProbeRecord 16
deriving DecidableEq, Repr

/-! ## Recipe Directory, Recipe Cache and walk list -/

/-- A straight-product window (Table 6-5). -/
structure StraightWindow where
  enabled : Bool
  base : Byte
  mask : Byte
  withheld : Bool
  alphaG : Nat
  mainFlow : Nat
  holdLimit : Nat
  name : Name
deriving DecidableEq, Repr

/-- A valid Recipe Cache entry (Table 7-1), with the decoded record as the snapshot it gives an arm
(R28, R112); an invalid way is `none`. -/
structure CacheEntry where
  key : Key
  page : Nat
  restricted : Bool
  dispensed : Bool
  decoded : Snapshot
deriving DecidableEq, Repr

/-- A walk list entry (Table 7-2): CURRENT or WAITING, and its waiters in the order they joined. -/
structure WalkEntry where
  key : Key
  current : Bool
  waiters : List ArmId
deriving DecidableEq, Repr

/-! ## Store Controller -/

/-- The store contents: item address, contents and check word, addresses strictly rising, no blank item
listed (R88, R89). -/
abbrev Store := List (Nat × StoreCell)

/-- The store operations of Table 6-6 with the figures each carries (R104). A DISPENSED holds the keys
of the batches that asked for it (R115). -/
inductive StoreOp where
  | walk (key : Key)
  | dispensed (page package : Nat) (askers : List Key)
  | checkpointOpen (arm : ArmId) (marker : OpenMarker)
  | checkpointIdle (arm : ArmId) (figures : TotalsBlock)
  | close (arm : ArmId) (slot : Nat) (record : BatchRecord) (figures : TotalsBlock)
  | recordFree (lane : LaneId) (slot : Nat)
  | readEntry (product : Nat)
  | readRecipe (page package : Nat)
  | writeEntry (product : Nat) (entry : DirectoryEntry)
  | writeRecipe (page package : Nat) (record : RecipeRecord)
  | usageClear (product : Nat)
deriving DecidableEq, Repr

/-- A waiting operation; `carried` marks one that a pending RESTART carries out (R110). -/
structure QueuedOp where
  op : StoreOp
  carried : Bool
deriving DecidableEq, Repr

/-- The current operation and the instant it became current (R103). `counter` is the value the batch
counter item was written with, held once an admission has changed the batch counter after that item's
moment (R104). -/
structure CurrentOp where
  op : StoreOp
  started : Nat
  counter : Option Nat
deriving DecidableEq, Repr

/-- The load states of the Store Controller (R107); LOADING holds the instant the load began. -/
inductive LoadState where
  | loading (started : Nat)
  | ready
  | loadFailed
deriving DecidableEq, Repr

/-! ## Header Allotment -/

/-- One arm's row of the grant table (Table 9-1). -/
structure Grant where
  flow : Nat
  limit : Option Nat
deriving DecidableEq, Repr

/-- A place of the header queue, with the request and minimum held from START (R143). -/
structure HeaderPlace where
  arm : ArmId
  request : Nat
  minimum : Nat
deriving DecidableEq, Repr

/-- The Header Allotment (Table 9-1). -/
structure Header where
  capacity : Nat
  grants : Vector Grant 8
  queue : List HeaderPlace
deriving DecidableEq, Repr

/-! ## Totals and Records -/

/-- A record in a lane queue, with its record slot (R157); its post number is in the record. -/
structure QueuedRecord where
  record : BatchRecord
  slot : Nat
deriving DecidableEq, Repr

/-- Per-lane state (Table 10-1) and the lane's alert selection (R179), HELD in bit 0. -/
structure Lane where
  records : List QueuedRecord
  postCounter : Nat
  releasePending : Bool
  alertSelection : BitVec 5
deriving DecidableEq, Repr

/-! ## Monitor -/

/-- The monitor selection (Table 12-2). -/
inductive MonitorSelection where
  | off
  | trim (arm : ArmId)
  | probes
deriving DecidableEq, Repr

/-- The figures of a TRIM packet (Table 12-3). -/
structure TrimPacket where
  arm : ArmId
  number : Nat
  state : ArmState
  final : Bool
  stage : Stage
  volume : Nat
  demand : Nat
  error : Int
  u : Nat
  rate : Option Nat
  smoothed : Nat
  flowLimit : Nat
  parameter : Nat
  value : Nat
  second : Nat
deriving DecidableEq, Repr

/-- The figures of a PROBE packet (Table 12-4). -/
structure ProbePacket where
  channel : Channel
  code : BitVec 16
  temperature : Option Int
  accepted : Bool
deriving DecidableEq, Repr

/-- A packet of the monitor line (R182). -/
inductive Packet where
  | trim (p : TrimPacket)
  | probe (p : ProbePacket)
deriving DecidableEq, Repr

/-- A packet being sent and the instant its sending began (R183). -/
structure SendingPacket where
  packet : Packet
  began : Nat
deriving DecidableEq, Repr

/-- The Alert and Monitor block's stream state (Table 12-2). -/
structure Monitor where
  selection : MonitorSelection
  running : Bool
  overflow : Bool
  parameter : Nat
  queue : List Packet
  sending : Option SendingPacket
deriving DecidableEq, Repr

/-! ## Link Ports -/

/-- The result codes of Table 11-2, in the order of their values. -/
inductive Result where
  | ok | linkBusy | badRequest | badField | notYourArm | wrongState | notConfigured | notReady
  | unknownProduct | noRecipe | withheld | restricted | noInjector | additiveUnavailable
  | recordsFull | faultPending | notPermitted | storeFault | capacityInUse | scanRunning
  | armBusy | armsActive | notOldest | empty | aborted
deriving DecidableEq, Repr

/-- The report of ARM STATUS (R170). -/
structure StatusReport where
  arm : ArmId
  state : ArmState
  causes : HoldSet
  number : Option Nat
  ending : Option Ending
  figures : Option Figures
  u : Nat
  remaining : Option Nat
  flags : FlagSet
deriving DecidableEq, Repr

/-- One channel's part of READ PROBES (R76). -/
structure ProbeReport where
  state : ProbeState
  rejects : Nat
  last : Option Int
  remaining : Option Nat
deriving DecidableEq, Repr

/-- The fields an OK response carries (R164); a response with any other result carries none. -/
inductive Body where
  | nothing
  | recipe (snapshot : Snapshot)
  | armState (state : ArmState)
  | status (report : StatusReport)
  | flags (flags : FlagSet) (overrun : Option Nat)
  | cleared (cleared remaining : FlagSet)
  | record (record : BatchRecord)
  | totals (arm : ArmId) (figures : TotalsBlock) (counter : Nat)
  | header (header : Header)
  | entry (entry : DirectoryEntry)
  | recipeRecord (record : RecipeRecord)
  | probes (scanning : Bool) (settings : ScanSettings) (channels : List ProbeReport)
  | overflow (stood : Bool)
deriving DecidableEq, Repr

/-- A response: the code of the request it answers, the tag, the result and the fields (R164). -/
structure Response where
  code : Byte
  tag : Byte
  result : Result
  body : Body
deriving DecidableEq, Repr

/-- The receiver of a port (R165): HUNTING, or COLLECTING with the bytes taken after the sync byte and
the instant of the last byte. -/
inductive Receiver where
  | hunting
  | collecting (bytes : List Byte) (lastByte : Nat)
deriving DecidableEq, Repr

/-- What an outstanding request waits for (R167). -/
inductive Work where
  | authorize (arm : ArmId)
  | release (lane : LaneId)
  | store
  | restart
deriving DecidableEq, Repr

/-- An outstanding request (R167). -/
structure Outstanding where
  code : Byte
  tag : Byte
  work : Work
deriving DecidableEq, Repr

/-- A Link Port. `seen` has one seen set per arm; a lane port uses those of its two arms (R171). -/
structure LinkPort where
  receiver : Receiver
  outstanding : Option Outstanding
  transmit : List Response
  sending : Option Response
  seen : Vector FlagSet 8
deriving DecidableEq, Repr

/-! ## The whole machine -/

/-- The machine. `pending` is the queue of waiting commands and `now` the model's clock in µs. -/
structure State where
  pending : List Instr
  now : Nat
  arms : Vector Arm 8
  arithmeticQueue : List TrimRequest
  bau : Option Computation
  scanner : Scanner
  windows : Vector StraightWindow 2
  cache : Vector (Option CacheEntry) 32
  replacement : Fin 4
  walks : List WalkEntry
  store : Store
  storeQueue : List QueuedOp
  current : Option CurrentOp
  load : LoadState
  restartPending : Bool
  authorizeTimeout : Nat
  inService : Vector Bool 6
  header : Header
  batchCounter : Nat
  lanes : Vector Lane 4
  ports : Vector LinkPort 5
  monitor : Monitor
deriving DecidableEq, Repr

/-! ## Values after reset -/

/-- The markers of a batch when none is set. -/
def Markers.clear : Markers := ⟨false, false, false, false, false, false, false⟩

/-- Running figures before admission, all 0. -/
def Figures.zero : Figures where
  vg := 0
  ve := 0
  ng := 0
  ne := 0
  grossResidueG := 0
  grossResidueE := 0
  netResidueG := 0
  netResidueE := 0
  pulsesG := 0
  pulsesE := 0
  demand := 0
  error := 0
  u := 0
  uResume := 0
  rate := 0
  stage := .lowStart
  flowLimit := 0
  overspeed := 0
  excursion := 0
  ethanolOnly := 0
  grace := 0
  saturation := 0
  sumG := 0
  sumE := 0
  firstLitre := false
  markers := Markers.clear

/-- A Meter Counter after reset (R64). -/
def Meter.reset : Meter := ⟨.idleCount, 0, 0, 0, 0, 0⟩

/-- An injector slot after reset (R126). -/
def Slot.reset : Slot := ⟨.ready, none, none, 0, 0, 0, 0, 0⟩

/-- An arm after power-on reset or RESTART, with its permissive input at `permissive` (R25, R26, R64,
R78, R82, R99, R126, R140, R151, R154). -/
def Arm.reset (permissive : Bool) : Arm where
  state := .idle
  causes := 0
  authorizeTimer := none
  holdTimer := none
  drainTimer := none
  config := none
  release := none
  permissive := permissive
  flags := 0
  overrun := 0
  batch := none
  finalDone := false
  reserved := false
  opened := false
  meterG := Meter.reset
  meterE := Meter.reset
  windowTimer := none
  windowStart := none
  windowPeriod := none
  slots := Vector.replicate 3 Slot.reset
  valve := ⟨0, 0, none⟩
  totals := ⟨0, 0, 0, 0⟩

/-- A probe record after reset (Table 4-3, R77). -/
def ProbeRecord.reset : ProbeRecord := ⟨none, .none, 0, none⟩

/-- The Probe Scanner after reset (Table 4-1, R77). -/
def Scanner.reset : Scanner :=
  ⟨⟨0, 15, -4000, 6000, 30⟩, none, Vector.replicate 16 ProbeRecord.reset⟩

/-- A straight-product window after reset (Table 6-5): the name is 12 spaces. -/
def StraightWindow.reset : StraightWindow :=
  ⟨false, 0, 0, false, 0, 100, 10, Vector.replicate 12 32⟩

/-- The Header Allotment after reset (R142). -/
def Header.reset : Header := ⟨0, Vector.replicate 8 ⟨0, none⟩, []⟩

/-- A lane after reset (Table 10-1, R179). -/
def Lane.reset : Lane := ⟨[], 0, false, 0⟩

/-- The monitor after reset (Table 12-2). -/
def Monitor.reset : Monitor := ⟨.off, true, false, 0, [], none⟩

/-- A Link Port after power-on reset (R178). A response being sent at the reset is cut off: that none is being
sent is the model's choice (log entry 26). -/
def LinkPort.reset : LinkPort := ⟨.hunting, none, [], none, Vector.replicate 8 0⟩

/-- The machine right after power-on reset: every block at its reset value, the store load begun
(R107), the recipe store never written (R88), every permissive input absent (log entry 4). -/
def State.reset : State where
  pending := []
  now := 0
  arms := Vector.replicate 8 (Arm.reset false)
  arithmeticQueue := []
  bau := none
  scanner := Scanner.reset
  windows := Vector.replicate 2 StraightWindow.reset
  cache := Vector.replicate 32 none
  replacement := 0
  walks := []
  store := []
  storeQueue := []
  current := none
  load := .loading 0
  restartPending := false
  authorizeTimeout := 120
  inService := Vector.replicate 6 true
  header := Header.reset
  batchCounter := 0
  lanes := Vector.replicate 4 Lane.reset
  ports := Vector.replicate 5 LinkPort.reset
  monitor := Monitor.reset

end Sys2Proof.Machine
end

