-- ==== Sys2Proof/Machine/Arith.lean ====
section
/-! DEFINITION. The integer arithmetic of R1 (ceil, the device's rounding), the limits and wraps the
rules use, and the CRC-16 of R164. floor is Lean's `/` on Nat and on Int with a positive divisor, and
trunc is `Int.tdiv`. -/

namespace Sys2Proof.Machine

open Sys2Proof

/-- ceil(n / d) for a positive d (R1). -/
def ceilDiv (n d : Nat) : Nat := (n + d - 1) / d

/-- round(n / d) for a positive d: the nearest integer, halves away from zero (R1). -/
def roundDiv (n : Int) (d : Nat) : Int :=
  if n < 0 then -(((2 * n.natAbs + d) / (2 * d) : Nat) : Int)
  else (((2 * n.natAbs + d) / (2 * d) : Nat) : Int)

/-- `x` limited to the range `lo` to `hi`. -/
def limitTo (lo hi x : Int) : Int := max lo (min hi x)

/-- The wrap of a totalizer: 1,000,000,000,000 follows as 0 (R151). -/
def wrapTotal (n : Nat) : Nat := n % 1000000000000

/-- The wrap of an unauthorized-pulse total (R62). -/
def wrapPulses (n : Nat) : Nat := n % 4294967296

/-- Counts held at 65535 (R54, R81, R82). -/
def hold16 (n : Nat) : Nat := min 65535 n

/-- One bit of the CRC of R164: shift left, and add the polynomial x^16 + x^12 + x^5 + 1 when the bit
shifted out is 1. -/
def crcBit (c : BitVec 16) : BitVec 16 :=
  if c.msb then (c <<< 1) ^^^ 0x1021 else c <<< 1

/-- One byte of the CRC, most significant bit first (R164). -/
def crcByte (c : BitVec 16) (b : Byte) : BitVec 16 :=
  crcBit (crcBit (crcBit (crcBit (crcBit (crcBit (crcBit (crcBit (c ^^^ (b.zeroExtend 16 <<< 8)))))))))

/-- The CRC-16 of a run of bytes: initial value 0xFFFF, no final inversion (R164). -/
def crc16 (bytes : List Byte) : BitVec 16 := bytes.foldl crcByte 0xFFFF

end Sys2Proof.Machine
end

