-- ==== Sys2Proof/Machine/Reset.lean ====
section
/-! DEFINITION. What a reset does to the running machine: the block values both resets share (R110,
R177), the RESTART reset that keeps the Link Ports (R178), and the power-on reset. -/

namespace Sys2Proof.Machine

open Sys2Proof

/-- Every block at its power-on values with the store load begun (R107, R110), around the given link
ports, store contents and permissive inputs. `pending` and the clock are kept from `s`. -/
def State.resetBlocks (s : State) (ports : Vector LinkPort 5) (store : Store) : State where
  pending := s.pending
  now := s.now
  arms := Vector.ofFn fun a => Arm.reset s.arms[a].permissive
  arithmeticQueue := []
  bau := none
  scanner := Scanner.reset
  windows := Vector.replicate 2 StraightWindow.reset
  cache := Vector.replicate 32 none
  replacement := 0
  walks := []
  store := store
  storeQueue := []
  current := none
  load := .loading s.now
  restartPending := false
  authorizeTimeout := 120
  inService := Vector.replicate 6 true
  header := Header.reset
  batchCounter := 0
  lanes := Vector.replicate 4 Lane.reset
  ports := ports
  monitor := Monitor.reset

/-- A lane port across the reset of a RESTART: everything stands but an outstanding request, whose
RECORD_FREE the reset discards (R178). The supervisor's RESTART stays outstanding. -/
def LinkPort.acrossRestart (lp : LinkPort) : LinkPort :=
  match lp.outstanding with
  | some ⟨_, _, .restart⟩ => lp
  | _ => { lp with outstanding := none }

/-- The reset of a RESTART: every block but the Link Ports takes its power-on values and the load
begins; the recipe store keeps every item (R110, R177, R178). -/
def State.restartReset (s : State) : State :=
  s.resetBlocks (Vector.ofFn fun p => s.ports[p].acrossRestart) s.store

end Sys2Proof.Machine
end

