-- ==== Sys2Proof/Machine/Ops.lean ====
section
/-! DEFINITION. Reading and updating the parts of the state: arms, lanes, ports, timers, and the
forming and sending of responses (R167, R168). -/

namespace Sys2Proof.Machine

open Sys2Proof

/-! ## Arms -/

/-- All arms, in arm order. -/
def allArms : List ArmId := [0, 1, 2, 3, 4, 5, 6, 7]

/-- Arm `a`. -/
def State.arm (s : State) (a : ArmId) : Arm := s.arms[a]

/-- Arm `a` changed by `f`; every other arm stands. -/
def State.setArm (s : State) (a : ArmId) (f : Arm → Arm) : State :=
  { s with arms := s.arms.set a (f s.arms[a]) }

/-- The lane of an arm: floor(a/2) (00_scope section 3). -/
def laneOf (a : ArmId) : LaneId := ⟨a.val / 2, by omega⟩

/-- The running figures of an arm's batch changed by `f`, when it holds a batch. -/
def Arm.setFigures (arm : Arm) (f : Figures → Figures) : Arm :=
  { arm with batch := arm.batch.map fun b => { b with figures := f b.figures } }

/-- The recipe snapshot of an arm's batch, once resolved. -/
def Arm.snapshot (arm : Arm) : Option Snapshot := arm.batch.bind (·.snapshot)

/-- The valve command u: that of the batch, and 0 without one (Table 2-1). -/
def Arm.u (arm : Arm) : Nat :=
  match arm.batch with
  | some b => b.figures.u
  | none => 0

/-- The arm is HELD, from whichever state. -/
def ArmState.isHeld : ArmState → Bool
  | .held _ => true
  | _ => false

/-- The arm delivers, flushes or is held: a batch admitted and not yet CLOSING. -/
def ArmState.underway : ArmState → Bool
  | .delivering => true
  | .flushing => true
  | .held _ => true
  | _ => false

/-- The batch has been admitted and the arm is not yet IDLE. -/
def ArmState.admitted : ArmState → Bool
  | .closing => true
  | st => st.underway

/-! ## Meters, probes, slots -/

/-- The meter of one component of an arm. -/
def Arm.meter (arm : Arm) : Component → Meter
  | .gasoline => arm.meterG
  | .ethanol => arm.meterE

/-- One meter of an arm changed by `f`. -/
def Arm.setMeter (arm : Arm) (c : Component) (f : Meter → Meter) : Arm :=
  match c with
  | .gasoline => { arm with meterG := f arm.meterG }
  | .ethanol => { arm with meterE := f arm.meterE }

/-- Both meters of an arm changed by `f`. -/
def Arm.setMeters (arm : Arm) (f : Meter → Meter) : Arm :=
  { arm with meterG := f arm.meterG, meterE := f arm.meterE }

/-- Slot `i` of an arm changed by `f`. -/
def Arm.setSlot (arm : Arm) (i : SlotId) (f : Slot → Slot) : Arm :=
  { arm with slots := arm.slots.set i (f arm.slots[i]) }

/-- The probe channel of one component of an arm: 2a for gasoline, 2a + 1 for ethanol. -/
def channelOf (a : ArmId) : Component → Channel
  | .gasoline => ⟨2 * a.val, by omega⟩
  | .ethanol => ⟨2 * a.val + 1, by omega⟩

/-- The arm a probe channel belongs to: floor(c/2). -/
def armOfChannel (c : Channel) : ArmId := ⟨c.val / 2, by omega⟩

/-- One probe record changed by `f`. -/
def State.setProbe (s : State) (c : Channel) (f : ProbeRecord → ProbeRecord) : State :=
  { s with scanner := { s.scanner with
      records := s.scanner.records.set c (f s.scanner.records[c]) } }

/-- The scanner's conversion in flight replaced; none is STOPPED (R65). -/
def State.setConversion (s : State) (v : Option Conversion) : State :=
  { s with scanner := { s.scanner with conversion := v } }

/-! ## Lanes and ports -/

/-- Lane `l` changed by `f`. -/
def State.setLane (s : State) (l : LaneId) (f : Lane → Lane) : State :=
  { s with lanes := s.lanes.set l (f s.lanes[l]) }

/-- The place of a port among the five. -/
def portIndex : Port → Fin 5
  | .lane l => ⟨l.val, by omega⟩
  | .supervisor => 4

/-- The Link Port of a link. -/
def State.port (s : State) (p : Port) : LinkPort := s.ports[portIndex p]

/-- One Link Port changed by `f`. -/
def State.setPort (s : State) (p : Port) (f : LinkPort → LinkPort) : State :=
  { s with ports := s.ports.set (portIndex p) (f s.ports[portIndex p]) }

/-! ## The clock -/

/-- The clock at the expiry of a timer that runs out at `deadline`: an expiry that is taken brings the
clock to its instant (log entry 5). -/
def State.reach (s : State) (deadline : Nat) : State := { s with now := max s.now deadline }

/-- The block with nothing asked of it for one microsecond: only its clock advances (log entry 5). -/
def State.idle (s : State) : State := { s with now := s.now + 1 }

/-- A timer started now with `ms` milliseconds. -/
def State.timerMs (s : State) (ms : Nat) : Timer := some (s.now + ms * 1000)

/-- The remaining time of a timer in whole milliseconds, floor (R25, R76). -/
def State.remainingMs (s : State) (t : Timer) : Option Nat :=
  t.map fun deadline => (deadline - s.now) / 1000

/-! ## Responses -/

/-- Who asked: the link, the tag and the code of the request. -/
structure Caller where
  port : Port
  tag : Byte
  code : Byte
deriving DecidableEq, Repr

/-- A response formed on a port: it begins at once on an idle line, and otherwise joins the tail of
the transmit queue (R168, log entry 8). -/
def LinkPort.form (lp : LinkPort) (r : Response) : LinkPort :=
  match lp.sending with
  | none =>
    match lp.transmit with
    | [] => { lp with sending := some r }
    | _ => { lp with transmit := lp.transmit ++ [r] }
  | some _ => { lp with transmit := lp.transmit ++ [r] }

/-- Answer a request with a result and the fields it returns (R164, R167). -/
def State.reply (s : State) (c : Caller) (result : Result) (body : Body) : State :=
  s.setPort c.port (·.form ⟨c.code, c.tag, result, body⟩)

/-- Answer a request with a result that carries no fields. -/
def State.refuse (s : State) (c : Caller) (result : Result) : State := s.reply c result .nothing

/-- Answer OK with no fields. -/
def State.done (s : State) (c : Caller) : State := s.reply c .ok .nothing

/-- A request becomes its port's outstanding request (R167). -/
def State.holdOutstanding (s : State) (c : Caller) (w : Work) : State :=
  s.setPort c.port fun lp => { lp with outstanding := some ⟨c.code, c.tag, w⟩ }

/-- A port answers its outstanding request when it waits for work `w`: the deferred response carries
that request's code and tag, and the port is free (R167). -/
def LinkPort.settle (lp : LinkPort) (w : Work) (result : Result) (body : Body) : LinkPort :=
  match lp.outstanding with
  | some o =>
    if o.work = w then
      ({ lp with outstanding := none }).form ⟨o.code, o.tag, result, body⟩
    else lp
  | none => lp

/-- The deferred response of work `w` is formed on port `p`, if it waits there (R167). -/
def State.settle (s : State) (p : Port) (w : Work) (result : Result) (body : Body) : State :=
  s.setPort p (·.settle w result body)

end Sys2Proof.Machine
end

