-- ==== Sys2Proof/Machine/Flags.lean ====
section
/-! DEFINITION. Sticky flags with the seen sets of the ports (R26, R171 to R173), and membership in
flag sets and hold cause sets. -/

namespace Sys2Proof.Machine

open Sys2Proof

/-- The place of a flag in the list of R26. -/
def Flag.index : Flag → Nat
  | .meterG => 0
  | .meterE => 1
  | .probeG => 2
  | .probeE => 3
  | .ratio => 4
  | .overspeed => 5
  | .ethanolOnly => 6
  | .additive => 7
  | .unauthFlow => 8
  | .trimOverrun => 9
  | .store => 10

/-- Whether a set holds a flag. -/
def FlagSet.has (fs : FlagSet) (f : Flag) : Bool := fs.getLsbD f.index

/-- The set holding one flag. -/
def FlagSet.only (f : Flag) : FlagSet := BitVec.twoPow 11 f.index

/-- A set with a flag added. -/
def FlagSet.add (fs : FlagSet) (f : Flag) : FlagSet := fs ||| FlagSet.only f

/-- A set with every flag of another taken out. -/
def FlagSet.without (fs gs : FlagSet) : FlagSet := fs &&& ~~~gs

/-- The place of a hold cause in the list of R25. -/
def HoldCause.index : HoldCause → Nat
  | .lane => 0
  | .supervisor => 1
  | .permissive => 2
  | .ratio => 3
  | .overspeed => 4
  | .ethanolOnly => 5
  | .meter => 6
  | .additive => 7

/-- Whether a set holds a hold cause. -/
def HoldSet.has (hs : HoldSet) (c : HoldCause) : Bool := hs.getLsbD c.index

/-- The set holding one hold cause. -/
def HoldSet.only (c : HoldCause) : HoldSet := BitVec.twoPow 8 c.index

/-- A set with a hold cause added. -/
def HoldSet.add (hs : HoldSet) (c : HoldCause) : HoldSet := hs ||| HoldSet.only c

/-- A set with a hold cause taken out. -/
def HoldSet.drop (hs : HoldSet) (c : HoldCause) : HoldSet := hs &&& ~~~(HoldSet.only c)

/-- A port's seen set of arm `a` loses a flag (R171). -/
def LinkPort.forget (lp : LinkPort) (a : ArmId) (f : Flag) : LinkPort :=
  { lp with seen := lp.seen.set a (FlagSet.without lp.seen[a] (FlagSet.only f)) }

/-- Setting a sticky flag of an arm: it is set, and it leaves the seen set of every port for that arm,
whether it was clear or set before (R26, R171). -/
def State.setFlag (s : State) (a : ArmId) (f : Flag) : State :=
  let s := s.setArm a fun arm => { arm with flags := FlagSet.add arm.flags f }
  { s with ports := Vector.ofFn fun p => s.ports[p].forget a f }

/-- A flag set only when its condition holds. -/
def State.setFlagIf (s : State) (b : Bool) (a : ArmId) (f : Flag) : State :=
  if b then s.setFlag a f else s

/-- METER_G and METER_E of an arm are both clear (R39, Table 2-6). -/
def Arm.metersClear (arm : Arm) : Bool :=
  !FlagSet.has arm.flags .meterG && !FlagSet.has arm.flags .meterE

/-- The three flags that bar AUTHORIZE are all clear (Table 2-4, check 2). -/
def Arm.authorizable (arm : Arm) : Bool := arm.metersClear && !FlagSet.has arm.flags .store

end Sys2Proof.Machine
end

