-- ==== Sys2Proof/Machine/Fields.lean ====
section
/-! DEFINITION. The fields of R164 in bytes, which frames carry and store items are made of: numbers, named
values, sets, names and lists, and the bytes of directory entries, recipe records, totals blocks, markers and
batch records; and the check word of a store item (R89). -/

namespace Sys2Proof.Machine

open Sys2Proof

/-! ## Fields (R164) -/

/-- The lowest `n` bytes of a number, most significant byte first (R164). -/
def beBytes : Nat → Nat → List Byte
  | 0, _ => []
  | n + 1, v => BitVec.ofNat 8 (v / 256 ^ n) :: beBytes n v

/-- The number that bytes spell, most significant byte first (R164). -/
def beValue (bytes : List Byte) : Nat := bytes.foldl (fun v b => v * 256 + b.toNat) 0

/-- A field of `n` bytes for a quantity of 0 upward (R164); what it carries for a quantity that does not
fit is free (log entry 2). -/
def unsignedField (n v : Nat) : List Byte :=
  if v < 256 ^ n then beBytes n v else beBytes n (Config.overwideField n v)

/-- A field of `n` bytes for a signed quantity, in two's complement (R164). -/
def signedField (n : Nat) (z : Int) : List Byte :=
  if -(2 ^ (8 * n - 1) : Nat) ≤ z ∧ z < (2 ^ (8 * n - 1) : Nat) then
    beBytes n (z % (256 ^ n : Nat)).toNat
  else beBytes n (Config.overwideField n z)

/-- A field whose value is set or clear, enabled or disabled, present or absent (R164). -/
def boolField (b : Bool) : List Byte := [if b then 1 else 0]

/-- A quantity that may be absent: a presence byte, and the quantity when present (R164). -/
def optionalField {α : Type} (f : α → List Byte) : Option α → List Byte
  | none => [0]
  | some x => 1 :: f x

/-- A list of varying length: its number of entries in one byte, and the entries (R164). -/
def listField {α : Type} (f : α → List Byte) (xs : List α) : List Byte :=
  BitVec.ofNat 8 xs.length :: xs.flatMap f

/-- A set of flags or of other named values, in two bytes (R164). -/
def setField {w : Nat} (fs : BitVec w) : List Byte := beBytes 2 fs.toNat

/-- A name: its 12 character codes, first character first (R164). -/
def nameField (n : Name) : List Byte := n.toList

/-! ## Named values of items: the place in their list (R164) -/

/-- The place of a recipe kind in Table 6-3. -/
def kindPlace : RecipeKind → Nat
  | .blend => 0
  | .straight => 1

/-- The place of a fault action in Table 6-4. -/
def actionPlace : FaultAction → Nat
  | .hold => 0
  | .flag => 1

/-- The place of a record kind in Table 10-2. -/
def recordKindPlace : RecordKind → Nat
  | .complete => 0
  | .short => 1
  | .aborted => 2
  | .interrupted => 3

/-- The place of an abort cause in Table 10-2. -/
def abortPlace : AbortCause → Nat
  | .lane => 0
  | .supervisor => 1
  | .holdTimeout => 2

/-- The markers of a record as a set, in the order of Table 10-2 (R164). -/
def markerSet (m : Markers) : BitVec 7 :=
  BitVec.ofBoolListLE [m.uncorrectedG, m.uncorrectedE, m.flushReduced, m.offRatio, m.trimSaturated,
    m.pulseSaturated, m.additiveLag]

/-- A one-byte field: a named value's place, or a quantity whose stated range fits a byte. -/
def byteField (n : Nat) : List Byte := unsignedField 1 n

/-! ## The items of the recipe store (Table 6-1) -/

/-- An additive: its code and rate. -/
def additiveField (ad : Additive) : List Byte := byteField ad.code ++ unsignedField 2 ad.rate

/-- The parameters 0 to 23 of a recipe record (Table 6-4). -/
def paramFields (p : Params) (action : FaultAction) : List Byte :=
  unsignedField 2 p.target ++ byteField p.tolerance ++ unsignedField 4 p.excursion ++
    unsignedField 4 p.flush ++ unsignedField 2 p.alphaG ++ unsignedField 2 p.alphaE ++
    unsignedField 2 p.gain ++ unsignedField 2 p.stepLimit ++ unsignedField 2 p.uLo ++
    unsignedField 2 p.uHi ++ unsignedField 2 p.u0 ++ byteField p.nSat ++
    unsignedField 4 p.lowStart ++ unsignedField 2 p.lowFlow ++ unsignedField 2 p.mainFlow ++
    unsignedField 4 p.topOffVolume ++ unsignedField 2 p.topOffFlow ++ unsignedField 2 p.holdLimit ++
    byteField p.missLimit ++ byteField (actionPlace action) ++
    p.additives.toList.flatMap additiveField ++ byteField p.precision

/-- A directory entry, as stored and as READ DIRECTORY ENTRY carries it (R93, Table 6-2). -/
def directoryFields (e : DirectoryEntry) : List Byte :=
  boolField e.valid ++ boolField e.restricted ++ boolField e.used ++ byteField e.page

/-- A recipe record, as stored and as READ RECIPE carries it (R93, Table 6-3). -/
def recipeFields (r : RecipeRecord) : List Byte :=
  boolField r.valid ++ boolField r.restricted ++ boolField r.dispensed ++ nameField r.name ++
    byteField (kindPlace r.kind) ++ paramFields r.params r.faultAction

/-- A totals block: the four totalizers and the two unauthorized-pulse totals (Table 6-1, R152). -/
def blockFields (t : TotalsBlock) : List Byte :=
  unsignedField 6 t.totals.grossG ++ unsignedField 6 t.totals.grossE ++
    unsignedField 6 t.totals.netG ++ unsignedField 6 t.totals.netE ++ unsignedField 4 t.pulsesG ++
    unsignedField 4 t.pulsesE

/-- A set open-batch marker: number, product, package, P, Vg, Ve, Ng and Ne, and the arm's figures (Table
6-1). -/
def markerFields (m : OpenMarker) : List Byte :=
  unsignedField 4 m.number ++ byteField m.key.product ++ byteField m.key.package ++
    unsignedField 4 m.preset ++ unsignedField 6 m.vg ++ unsignedField 6 m.ve ++
    unsignedField 6 m.ng ++ unsignedField 6 m.ne ++ blockFields m.figures

/-- One entry of a record's additive list (Table 10-2). -/
def entryField (e : AdditiveEntry) : List Byte :=
  byteField e.code ++ unsignedField 6 e.verified ++ unsignedField 6 e.missed ++
    unsignedField 6 e.required ++ unsignedField 6 e.delivered ++ boolField e.short

/-- The fields of a batch record in the order of Table 10-2 (R158). -/
def recordFields (r : BatchRecord) : List Byte :=
  unsignedField 4 r.number ++ byteField r.post ++ byteField r.arm.val ++ byteField r.key.product ++
    byteField r.key.package ++ optionalField nameField r.name ++ byteField (recordKindPlace r.kind) ++
    optionalField (fun c : AbortCause => byteField (abortPlace c)) r.abortCause ++
    unsignedField 4 r.preset ++ unsignedField 6 r.vg ++ unsignedField 6 r.ve ++
    unsignedField 6 r.ng ++ unsignedField 6 r.ne ++ optionalField (unsignedField 6) r.pulsesG ++
    optionalField (unsignedField 6) r.pulsesE ++ unsignedField 6 r.excess ++
    unsignedField 2 r.fraction ++ optionalField (unsignedField 2) r.target ++
    optionalField (signedField 2) r.averageG ++ optionalField (signedField 2) r.averageE ++
    optionalField byteField r.precision ++ setField (markerSet r.markers) ++
    listField entryField r.additives ++ boolField r.unsaved

/-- The contents of an item in the order they are stored: the fields of its table, in the sizes of R164, a
marker that may be clear and a slot that may be empty each behind a presence byte. The spec names the contents and
leaves their layout open (log entry 14). -/
def itemBytes : StoreItem → List Byte
  | .entry e => directoryFields e
  | .recipe r => recipeFields r
  | .totals t => blockFields t
  | .marker m => optionalField markerFields m
  | .slot r => optionalField recordFields r
  | .counter n => unsignedField 4 n

/-- The check word of an item: the CRC-16 of its contents in the order they are stored (R89). -/
def checkWord (c : StoreItem) : BitVec 16 := crc16 (itemBytes c)

/-- An item as the Store Controller writes it, with the check word it forms (R89). -/
def formed (c : StoreItem) : StoreCell := ⟨c, checkWord c⟩

/-- An item is blank: its contents and its check word are all zero (R88). -/
def isBlank (c : StoreCell) : Bool := (itemBytes c.contents).all (· == 0) && c.check == 0

end Sys2Proof.Machine
end

