-- ==== Sys2Proof/Machine/StoreBus.lean ====
section
/-! DEFINITION. The recipe store as a memory of 1,321 items (R88), the reading and writing of items
with their failures (R89), and the item sequence of every store operation (Table 6-6, R97, R101,
R102, R104). -/

namespace Sys2Proof.Machine

open Sys2Proof

/-! ## The store as a memory -/

/-- Where each item lies, by region and selector (Table 6-1). -/
def directoryAt (product : Nat) : Nat := product

/-- The recipe record at a page and package (Table 6-1). The manual is silent on an item whose check word matches but
whose fields lie out of range, as the read-back of a failing write may leave one (R89): the model takes the fields as
stored, so a page above 63 gives the item at 256 + 16 × page + package, in another region or past item 1,320 (DESIGN
CHOICE, unsafe, log entry 32). -/
def recipeAt (page package : Nat) : Nat := 256 + page * 16 + package

/-- The totals block of an arm. -/
def totalsAt (a : ArmId) : Nat := 1280 + a.val

/-- The open-batch marker of an arm. -/
def markerAt (a : ArmId) : Nat := 1288 + a.val

/-- A record slot of a lane. -/
def slotAt (l : LaneId) (slot : Nat) : Nat := 1296 + l.val * 6 + slot

/-- The batch counter item. -/
def counterAt : Nat := 1320

/-- An item as the store holds it; an unlisted item is blank (R88). -/
def Store.read : Store → Nat → Option StoreCell
  | [], _ => none
  | (k, c) :: rest, a => if a = k then some c else Store.read rest a

/-- Write an item, keeping the addresses rising. -/
def Store.write : Store → Nat → StoreCell → Store
  | [], a, c => [(a, c)]
  | (k, d) :: rest, a, c =>
    if a < k then (a, c) :: (k, d) :: rest
    else if a = k then (a, c) :: rest
    else (k, d) :: Store.write rest a c

/-- Make an item blank. -/
def Store.erase : Store → Nat → Store
  | [], _ => []
  | (k, d) :: rest, a => if a = k then rest else (k, d) :: Store.erase rest a

/-- Leave an item as given; a blank one is not listed. -/
def Store.put (st : Store) (a : Nat) : Option StoreCell → Store
  | none => Store.erase st a
  | some c => if isBlank c then Store.erase st a else Store.write st a c

/-- Write contents with the check word formed for them (R89). -/
def Store.save (st : Store) (a : Nat) (c : StoreItem) : Store := Store.write st a (formed c)

/-- Every address of a list lies above `a`. -/
def Store.allAbove (a : Nat) : Store → Bool
  | [] => true
  | (k, _) :: rest => a < k && Store.allAbove a rest

/-- The canonical form of the store: addresses strictly rising, and no listed item blank, so that no entry
equals what an unlisted item reads as. -/
def Store.wf : Store → Bool
  | [] => true
  | (k, c) :: rest => Store.allAbove k rest && !isBlank c && Store.wf rest

/-! ## Items as the operations read them (R88) -/

/-- A blank directory entry (R88). -/
def blankEntry : DirectoryEntry := ⟨false, false, false, 0⟩

/-- Recipe parameters that are all zero, as a blank item holds them. -/
def blankParams : Params where
  target := 0
  tolerance := 0
  excursion := 0
  flush := 0
  alphaG := 0
  alphaE := 0
  gain := 0
  stepLimit := 0
  uLo := 0
  uHi := 0
  u0 := 0
  nSat := 0
  lowStart := 0
  lowFlow := 0
  mainFlow := 0
  topOffVolume := 0
  topOffFlow := 0
  holdLimit := 0
  missLimit := 0
  additives := Vector.replicate 3 ⟨0, 0⟩
  precision := 0

/-- A blank recipe record (R88); its other fields are all zero (log entry 12). -/
def blankRecipe : RecipeRecord :=
  ⟨false, false, false, Vector.replicate 12 0, .blend, blankParams, .hold⟩

/-- A totals block of all-zero figures (R88). -/
def blankTotals : TotalsBlock := ⟨⟨0, 0, 0, 0⟩, 0, 0⟩

/-- The contents of an item as it is read: `none` when its check word does not match them and the item is not
blank; a blank item has no contents (R88, R89). Fields out of range are no failure and are read as stored (DESIGN CHOICE,
unsafe, log entry 32). -/
def checked : Option StoreCell → Option (Option StoreItem)
  | none => some none
  | some c => if c.check = checkWord c.contents then some (some c.contents) else none

/-- An item read as a directory entry; `none` is a check-word failure. -/
def asEntry (c : Option StoreCell) : Option DirectoryEntry :=
  match checked c with
  | some none => some blankEntry
  | some (some (.entry e)) => some e
  | _ => none

/-- An item read as a recipe record. -/
def asRecipe (c : Option StoreCell) : Option RecipeRecord :=
  match checked c with
  | some none => some blankRecipe
  | some (some (.recipe r)) => some r
  | _ => none

/-- An item read as a totals block. -/
def asTotals (c : Option StoreCell) : Option TotalsBlock :=
  match checked c with
  | some none => some blankTotals
  | some (some (.totals t)) => some t
  | _ => none

/-- An item read as an open-batch marker. -/
def asMarker (c : Option StoreCell) : Option (Option OpenMarker) :=
  match checked c with
  | some none => some none
  | some (some (.marker m)) => some m
  | _ => none

/-- An item read as a record slot. -/
def asSlot (c : Option StoreCell) : Option (Option BatchRecord) :=
  match checked c with
  | some none => some none
  | some (some (.slot r)) => some r
  | _ => none

/-- An item read as the batch counter. -/
def asCounter (c : Option StoreCell) : Option Nat :=
  match checked c with
  | some none => some 0
  | some (some (.counter n)) => some n
  | _ => none

/-- The page a product points to: that of its directory entry, when the item reads and the entry is valid
(R90). -/
def Store.pageOf (st : Store) (product : Nat) : Option Nat :=
  match asEntry (Store.read st (directoryAt product)) with
  | some e => if e.valid then some e.page else none
  | none => none

/-! ## The bus -/

/-- The store bus during one operation: the store, the items read or written so far, the failure the bus
meets, if any (R89), and the items that are performed before the power goes, if it does. -/
structure Bus where
  store : Store
  items : Nat
  fault : Option StoreFault
  power : Option Nat
deriving DecidableEq, Repr

/-- The power has gone before the next item (log entry 6). -/
def Bus.dead (b : Bus) : Bool :=
  match b.power with
  | some n => decide (n ≤ b.items)
  | none => false

/-- The failure that strikes the next item, if it does. -/
def Bus.failure (b : Bus) : Option ReadBack :=
  match b.fault with
  | some f => if f.item = b.items then some f.shows else none
  | none => none

/-- Read one item through a view; `none` is a store failure (R89). -/
def Bus.read {α : Type} (b : Bus) (view : Option StoreCell → Option α) (a : Nat) : Option α × Bus :=
  if b.dead then (none, b)
  else
    match b.failure with
    | some _ => (none, { b with items := b.items + 1 })
    | none => (view (Store.read b.store a), { b with items := b.items + 1 })

/-- What a failing write leaves, from its read-back and the item before it (R89). -/
def readBackLeaves (before : Option StoreCell) : ReadBack → Option StoreCell
  | .unchanged => before
  | .blank => none
  | .contents c => some c

/-- Write one item with its check word and compare its read-back; `false` is a store failure, and the item is
then left as the read-back showed (R89). -/
def Bus.write (b : Bus) (a : Nat) (c : StoreItem) : Bool × Bus :=
  if b.dead then (false, b)
  else
    match b.failure with
    | some shows =>
      let left := readBackLeaves (Store.read b.store a) shows
      (decide (left = some (formed c)),
        { b with items := b.items + 1, store := Store.put b.store a left })
    | none => (true, { b with items := b.items + 1, store := Store.save b.store a c })

/-- Write items one after another, ending at the first store failure (R89). -/
def Bus.writeAll (b : Bus) : List (Nat × StoreItem) → Bool × Bus
  | [] => (true, b)
  | (a, c) :: rest =>
    match b.write a c with
    | (true, b) => b.writeAll rest
    | (false, b) => (false, b)

/-! ## The item sequences of the operations -/

/-- The outcome of a walk (R97). -/
inductive WalkOutcome where
  | record (record : RecipeRecord) (page : Nat) (restricted : Bool)
  | unknownProduct
  | noRecipe
  | storeFault
deriving DecidableEq, Repr

/-- WALK: directory read, record read, and the directory write that sets the used flag (R97). -/
def runWalk (key : Key) (b : Bus) : WalkOutcome × Bus :=
  match b.read asEntry (directoryAt key.product) with
  | (none, b) => (.storeFault, b)
  | (some e, b) =>
    if !e.valid then (.unknownProduct, b)
    else
      match b.read asRecipe (recipeAt e.page key.package) with
      | (none, b) => (.storeFault, b)
      | (some r, b) =>
        if !r.valid then (.noRecipe, b)
        else if e.used then (.record r e.page (e.restricted || r.restricted), b)
        else
          match b.write (directoryAt key.product) (.entry { e with used := true }) with
          | (true, b) => (.record r e.page (e.restricted || r.restricted), b)
          | (false, b) => (.storeFault, b)

/-- DISPENSED: the record is read and, when valid with its flag clear, written with the flag set
(R101). -/
def runDispensed (page package : Nat) (b : Bus) : Bool × Bus :=
  match b.read asRecipe (recipeAt page package) with
  | (none, b) => (false, b)
  | (some r, b) =>
    if r.valid && !r.dispensed then
      b.write (recipeAt page package) (.recipe { r with dispensed := true })
    else (true, b)

/-- CHECKPOINT of an open batch: the batch counter, then the marker set (R104, R154). -/
def runCheckpointOpen (a : ArmId) (m : OpenMarker) (counter : Nat) (b : Bus) : Bool × Bus :=
  b.writeAll [(counterAt, .counter counter), (markerAt a, .marker (some m))]

/-- CHECKPOINT without an open batch: the totals block (R104). -/
def runCheckpointIdle (a : ArmId) (t : TotalsBlock) (b : Bus) : Bool × Bus :=
  b.writeAll [(totalsAt a, .totals t)]

/-- CLOSE: totals block, batch counter, record slot, marker cleared (Table 6-6, R104). -/
def runClose (a : ArmId) (slot : Nat) (r : BatchRecord) (t : TotalsBlock) (counter : Nat) (b : Bus) :
    Bool × Bus :=
  b.writeAll [(totalsAt a, .totals t), (counterAt, .counter counter),
    (slotAt (laneOf a) slot, .slot (some r)), (markerAt a, .marker none)]

/-- RECORD_FREE: the slot is marked empty; for an unsaved record of `arm` and `number`, its marker is
read and, when set with that number, written cleared (R104). -/
def runRecordFree (l : LaneId) (slot : Nat) (unsaved : Option (ArmId × Nat)) (b : Bus) : Bool × Bus :=
  match b.write (slotAt l slot) (.slot none) with
  | (false, b) => (false, b)
  | (true, b) =>
    match unsaved with
    | none => (true, b)
    | some (a, number) =>
      match b.read asMarker (markerAt a) with
      | (none, b) => (false, b)
      | (some m, b) =>
        if m.map (·.number) = some number then b.write (markerAt a) (.marker none) else (true, b)

/-- The outcome of a USAGE_CLEAR (R102). -/
inductive UsageOutcome where
  | cleared
  | unknownProduct
  | storeFault
deriving DecidableEq, Repr

/-- The sixteen records of a page from package `package` on, each valid dispensed one written with
dispensed clear (R102). -/
def clearDispensed (page : Nat) : Nat → Nat → Bus → Bool × Bus
  | 0, _, b => (true, b)
  | n + 1, package, b =>
    match b.read asRecipe (recipeAt page package) with
    | (none, b) => (false, b)
    | (some r, b) =>
      if r.valid && r.dispensed then
        match b.write (recipeAt page package) (.recipe { r with dispensed := false }) with
        | (true, b) => clearDispensed page n (package + 1) b
        | (false, b) => (false, b)
      else clearDispensed page n (package + 1) b

/-- USAGE_CLEAR: directory read, directory write with used clear, and the page's records in package
order (R102). -/
def runUsageClear (product : Nat) (b : Bus) : UsageOutcome × Bus :=
  match b.read asEntry (directoryAt product) with
  | (none, b) => (.storeFault, b)
  | (some e, b) =>
    if !e.valid then (.unknownProduct, b)
    else
      match b.write (directoryAt product) (.entry { e with used := false }) with
      | (false, b) => (.storeFault, b)
      | (true, b) =>
        match clearDispensed e.page 16 0 b with
        | (true, b) => (.cleared, b)
        | (false, b) => (.storeFault, b)

/-- The bus after an operation, whatever its outcome: what a power loss during it leaves, with the
items not reached left as they were (log entry 6). -/
def StoreOp.run (op : StoreOp) (counter : Nat) (unsaved : Option (ArmId × Nat)) (b : Bus) : Bus :=
  match op with
  | .walk key => (runWalk key b).2
  | .dispensed page package _ => (runDispensed page package b).2
  | .checkpointOpen a m => (runCheckpointOpen a m counter b).2
  | .checkpointIdle a t => (runCheckpointIdle a t b).2
  | .close a slot r t => (runClose a slot r t counter b).2
  | .recordFree l slot => (runRecordFree l slot unsaved b).2
  | .readEntry p => (b.read asEntry (directoryAt p)).2
  | .readRecipe page package => (b.read asRecipe (recipeAt page package)).2
  | .writeEntry p e => (b.write (directoryAt p) (.entry e)).2
  | .writeRecipe page package r => (b.write (recipeAt page package) (.recipe r)).2
  | .usageClear p => (runUsageClear p b).2

/-! ## Using the bus from the machine -/

/-- The bus at the start of an operation. -/
def State.bus (s : State) (fault : Option StoreFault) : Bus := ⟨s.store, 0, fault, none⟩

/-- The machine once the current operation, started at `started`, has used the bus: the store is as
the bus left it, the clock has reached 1 ms per item, and no operation is current (R89, R103). -/
def State.leaveBus (s : State) (started : Nat) (b : Bus) : State :=
  { s.reach (started + b.items * 1000) with store := b.store, current := none }

end Sys2Proof.Machine
end

