-- ==== Sys2Proof/Machine/StoreQueue.lean ====
section
/-! DEFINITION. The store queue: joining, joining by replacement or absorption (R103, R105), what a
CHECKPOINT carries (R104, R154), and the start of the next operation, with the reset of a pending
RESTART once its carried operations are done (R110). -/

namespace Sys2Proof.Machine

open Sys2Proof

/-- The walk list when an operation becomes current: the entry of a WALK becomes CURRENT (R119). -/
def markCurrent (op : StoreOp) (walks : List WalkEntry) : List WalkEntry :=
  match op with
  | .walk key => walks.map fun w => if w.key = key then { w with current := true } else w
  | _ => walks

/-- The oldest waiting operation becomes current (R103). -/
def State.startOp (s : State) (op : StoreOp) (rest : List QueuedOp) : State :=
  { s with current := some ⟨op, s.now, none⟩, storeQueue := rest, walks := markCurrent op s.walks }

/-- The item of an operation that writes the batch counter, counted from 0 (Table 6-6). -/
def StoreOp.counterItem : StoreOp → Option Nat
  | .checkpointOpen _ _ => some 0
  | .close _ _ _ _ => some 1
  | _ => none

/-- The moment of the batch counter item has passed: its 1 ms is over at `now` (R89, R104). -/
def CurrentOp.counterPast (k : CurrentOp) (now : Nat) : Bool :=
  match k.op.counterItem with
  | some i => decide (k.started + (i + 1) * 1000 ≤ now)
  | none => false

/-- The current operation keeps the value its counter item was written with, before the batch counter changes from
`value` at `now` (R104). -/
def CurrentOp.noteCounter (k : CurrentOp) (value now : Nat) : CurrentOp :=
  if k.counter.isNone && k.counterPast now then { k with counter := some value } else k

/-- The batch counter takes the number of an admission (R104, R153). -/
def State.takeNumber (s : State) (number : Nat) : State :=
  { s with
    batchCounter := number
    current := s.current.map (·.noteCounter s.batchCounter s.now) }

/-- When no operation is current and no load runs: the next operation becomes current; and in a pending
restart whose carried operations are done, the part is reset instead (R103, R107, R110). -/
def State.advanceStore (s : State) : State :=
  match s.current, s.load with
  | some _, _ => s
  | none, .loading _ => s
  | none, _ =>
    match s.storeQueue with
    | [] => if s.restartPending then s.restartReset else s
    | w :: rest => if s.restartPending && !w.carried then s.restartReset else s.startOp w.op rest

/-- An operation joins the tail of the store queue (R103). -/
def State.askOp (s : State) (op : StoreOp) : State :=
  State.advanceStore { s with storeQueue := s.storeQueue ++ [⟨op, false⟩] }

/-- The operation is a CHECKPOINT of arm `a`. -/
def StoreOp.isCheckpoint (a : ArmId) : StoreOp → Bool
  | .checkpointOpen b _ => a = b
  | .checkpointIdle b _ => a = b
  | _ => false

/-- The operation is a CLOSE of arm `a`. -/
def StoreOp.isClose (a : ArmId) : StoreOp → Bool
  | .close b _ _ _ => a = b
  | _ => false

/-- The queue after a CHECKPOINT of arm `a` is asked for: it takes the place of a waiting one of the
arm, unless a CLOSE of the arm waits behind that one, in which case the waiting one goes and the new
one joins the tail; with none waiting it joins the tail (R105). How R105 and R110 meet while a RESTART is pending is
the model's choice, in two cases (DESIGN CHOICE, unsafe, log entry 25). One that takes the place of a carried CHECKPOINT
takes its mark too and is carried out in that place. Where a carried CLOSE of the arm waits behind the carried
CHECKPOINT, that CHECKPOINT is removed unwritten and the new one, at the tail, is not carried: the CLOSE is carried
out and the reset discards the new one, so that neither CHECKPOINT is written. -/
def joinCheckpoint (a : ArmId) (op : StoreOp) : List QueuedOp → List QueuedOp
  | [] => [⟨op, false⟩]
  | w :: rest =>
    if w.op.isCheckpoint a then
      if rest.any (·.op.isClose a) then rest ++ [⟨op, false⟩] else { w with op := op } :: rest
    else w :: joinCheckpoint a op rest

/-- The totals block of an arm: its totalizers and unauthorized-pulse totals as they stand (R104). -/
def Arm.figures (arm : Arm) : TotalsBlock :=
  ⟨arm.totals, arm.meterG.unauthorized, arm.meterE.unauthorized⟩

/-- The open-batch marker of an arm's batch (R104). -/
def Arm.marker (arm : Arm) (b : Batch) : OpenMarker where
  number := b.number.getD 0
  key := b.key
  preset := b.preset
  vg := b.figures.vg
  ve := b.figures.ve
  ng := b.figures.ng
  ne := b.figures.ne
  figures := arm.figures

/-- The CHECKPOINT of an arm: of its open batch, or of its totals block when no batch is open
(R154). -/
def State.checkpoint (s : State) (a : ArmId) : StoreOp :=
  match (s.arm a).opened, (s.arm a).batch with
  | true, some b => .checkpointOpen a ((s.arm a).marker b)
  | _, _ => .checkpointIdle a (s.arm a).figures

/-- A CHECKPOINT of an arm is asked for (R105). -/
def State.askCheckpoint (s : State) (a : ArmId) : State :=
  State.advanceStore { s with storeQueue := joinCheckpoint a (s.checkpoint a) s.storeQueue }

/-- A DISPENSED of the same record, joined by one more batch key (R105, R115). -/
def StoreOp.absorb (page package : Nat) (key : Key) : StoreOp → StoreOp
  | .dispensed p k askers =>
    if p = page ∧ k = package then .dispensed p k (askers ++ [key]) else .dispensed p k askers
  | op => op

/-- The operation is a DISPENSED of a record. -/
def StoreOp.isDispensed (page package : Nat) : StoreOp → Bool
  | .dispensed p k _ => p = page && k = package
  | _ => false

/-- A DISPENSED of a record is asked for by a batch of `key`: one that waits or is current absorbs it,
and otherwise it joins the tail (R22, R105). -/
def State.askDispensed (s : State) (page package : Nat) (key : Key) : State :=
  if s.storeQueue.any (·.op.isDispensed page package) ||
      s.current.any (·.op.isDispensed page package) then
    { s with
      storeQueue := s.storeQueue.map fun w => { w with op := w.op.absorb page package key }
      current := s.current.map fun c => { c with op := c.op.absorb page package key } }
  else s.askOp (.dispensed page package [key])

end Sys2Proof.Machine
end

