-- ==== Sys2Proof/Machine/Records.lean ====
section
/-! DEFINITION. Totals and Records: totalizers (R151), batch numbers (R153), the posting of records
(R157), the record formed at the close (R48 to R51) and the INTERRUPTED record (R162). -/

namespace Sys2Proof.Machine

open Sys2Proof

/-- Totalizers advanced by a window's volumes, with their wrap (R20, R151). -/
def advanceTotals (t : Totalizers) (dvg dve dng dne : Nat) : Totalizers :=
  ⟨wrapTotal (t.grossG + dvg), wrapTotal (t.grossE + dve), wrapTotal (t.netG + dng),
    wrapTotal (t.netE + dne)⟩

/-! ## Batch numbers -/

/-- The candidate number after `n`: 1 follows 999,999 (R153). -/
def succNumber (n : Nat) : Nat := if n < 999999 then n + 1 else 1

/-- A batch number is held by a queued record of any lane, or by the open batch of an arm other than
`a` (R153). -/
def State.numberHeld (s : State) (a : ArmId) (n : Nat) : Bool :=
  s.lanes.toList.any (fun lane => lane.records.any fun q => q.record.number == n) ||
    allArms.any fun b => b != a && (s.arm b).opened && (s.arm b).batch.any (·.number == some n)

/-- The first free number from candidate `n` on, within `fuel` candidates (R153). -/
def State.freeNumber (s : State) (a : ArmId) : Nat → Nat → Nat
  | 0, n => n
  | fuel + 1, n => if s.numberHeld a n then s.freeNumber a fuel (succNumber n) else n

/-- The number of the next batch, admitted at arm `a`: at most 31 numbers are held, so one of 32
candidates is free (R153). -/
def State.nextNumber (s : State) (a : ArmId) : Nat :=
  s.freeNumber a 32 (succNumber s.batchCounter)

/-! ## Posting -/

/-- The lowest-numbered of a lane's slots 0 to 5 that no record holds (R157). A lane with all six slots held has none:
R156 and R161 rule a further record out, except that a load may find six records, one of them left by a failed slot
write (R89), and a marker still to be recovered; the model then posts the INTERRUPTED record seventh, in slot 0 (DESIGN
CHOICE, unsafe, log entry 31). -/
def Lane.freeSlot (lane : Lane) : Nat :=
  (([0, 1, 2, 3, 4, 5] : List Nat).find? fun i => !lane.records.any (·.slot == i)).getD 0

/-- The record as posted in a lane: the lowest free slot and the next post number (R157). -/
def Lane.posting (lane : Lane) (r : BatchRecord) : QueuedRecord :=
  ⟨{ r with post := (lane.postCounter + 1) % 256 }, lane.freeSlot⟩

/-- A record joins the tail of a lane's queue (R157). -/
def Lane.post (lane : Lane) (r : BatchRecord) : Lane :=
  { lane with
    records := lane.records ++ [lane.posting r]
    postCounter := (lane.postCounter + 1) % 256 }

/-- The reservations held by the two arms of a lane (R156). -/
def State.reservations (s : State) (l : LaneId) : Nat :=
  (allArms.filter fun a => decide (laneOf a = l) && (s.arm a).reserved).length

/-- A record place of the lane can be reserved: records and reservations number fewer than 6 (Table
2-4, check 3). -/
def State.placeFree (s : State) (l : LaneId) : Bool :=
  s.lanes[l].records.length + s.reservations l < 6

/-! ## The batch record -/

/-- The final fraction: round(Ne × 10000 / V), and 0 when V is 0 (R48). -/
def finalFraction (ng ne : Nat) : Nat :=
  if ng + ne = 0 then 0 else (roundDiv ((ne * 10000 : Nat) : Int) (ng + ne)).toNat

/-- The average temperature of a component: round(Σ / V), absent when V is 0 (R49). -/
def averageTemperature (sum : Int) (volume : Nat) : Option Int :=
  if volume = 0 then none else some (roundDiv sum volume)

/-- OFF_RATIO: V is above 0 and the final fraction is off the target by more than the tolerance
(R48). -/
def offRatio (p : Params) (ng ne : Nat) : Bool :=
  ng + ne ≠ 0 && ((finalFraction ng ne : Int) - p.target).natAbs > p.tolerance

/-- The slot whose config carries an additive code (R100, R125). -/
def slotFor (c : ArmConfig) (code : Nat) : Option SlotId :=
  ([0, 1, 2] : List SlotId).find? fun i => c.slots[i].code == code

/-- The additive list entry of one non-zero additive of the snapshot (R50). -/
def Arm.additiveEntry (arm : Arm) (c : ArmConfig) (f : Figures) (ad : Additive) : AdditiveEntry :=
  let required := (f.vg + f.ve) * ad.rate / 1000
  match slotFor c ad.code with
  | some i =>
    let delivered := arm.slots[i].verified * c.slots[i].strokeVolume
    ⟨ad.code, arm.slots[i].verified, arm.slots[i].missed, required, delivered,
      decide (required > delivered + c.slots[i].strokeVolume)⟩
  | none => ⟨ad.code, 0, 0, required, 0, decide (required > 0)⟩

/-- The batch record formed at the close of arm `a` (R48 to R51). Its post number is given at the
posting and its unsaved flag is clear (R157). -/
def Arm.record (arm : Arm) (a : ArmId) (b : Batch) (snap : Snapshot) (c : ArmConfig) : BatchRecord where
  number := b.number.getD 0
  post := 0
  arm := a
  key := b.key
  name := some snap.name
  kind := (b.ending.map (·.kind)).getD .aborted
  abortCause := b.ending.bind (·.cause)
  preset := b.preset
  vg := b.figures.vg
  ve := b.figures.ve
  ng := b.figures.ng
  ne := b.figures.ne
  pulsesG := some b.figures.pulsesG
  pulsesE := some b.figures.pulsesE
  excess := b.figures.ng + b.figures.ne - b.preset
  fraction := finalFraction b.figures.ng b.figures.ne
  target := some snap.params.target
  averageG := averageTemperature b.figures.sumG b.figures.vg
  averageE := averageTemperature b.figures.sumE b.figures.ve
  precision := some snap.params.precision
  markers := { b.figures.markers with offRatio := offRatio snap.params b.figures.ng b.figures.ne }
  additives := (snap.params.additives.toList.filter (·.code ≠ 0)).map (arm.additiveEntry c b.figures)
  unsaved := false

/-- The INTERRUPTED record of an open-batch marker (R162). -/
def interruptedRecord (a : ArmId) (m : OpenMarker) : BatchRecord where
  number := m.number
  post := 0
  arm := a
  key := m.key
  name := none
  kind := .interrupted
  abortCause := none
  preset := m.preset
  vg := m.vg
  ve := m.ve
  ng := m.ng
  ne := m.ne
  pulsesG := none
  pulsesE := none
  excess := m.ng + m.ne - m.preset
  fraction := finalFraction m.ng m.ne
  target := none
  averageG := none
  averageE := none
  precision := none
  markers := Markers.clear
  additives := []
  unsaved := false

end Sys2Proof.Machine
end

