-- ==== Sys2Proof/Machine/Injector.lean ====
section
/-! DEFINITION. The injector slots: which additive a slot serves (R125), when a stroke starts (R127)
and what starting it does (R128). -/

namespace Sys2Proof.Machine

open Sys2Proof

/-- An additive code is in service; codes are 1 to 6 (R137). -/
def State.codeInService (s : State) (code : Nat) : Bool := (s.inService[code - 1]?).getD true

/-- Every non-zero additive code of a snapshot is in service (Table 2-6, R138). -/
def State.additivesInService (s : State) (snap : Snapshot) : Bool :=
  snap.params.additives.toList.all fun ad => ad.code == 0 || s.codeInService ad.code

/-- The additive of the snapshot that a slot's non-zero code serves (R125). -/
def servedAdditive (snap : Snapshot) (slot : SlotConfig) : Option Additive :=
  if slot.code = 0 then none else snap.params.additives.toList.find? (·.code == slot.code)

/-- The arm's state allows strokes: DELIVERING, FLUSHING, or CLOSING while the drain timer runs
(R127, R136). -/
def Arm.strokesAllowed (arm : Arm) : Bool :=
  match arm.state with
  | .delivering => true
  | .flushing => true
  | .closing => arm.drainTimer.isSome
  | _ => false

/-- The start conditions of a slot all hold (R127). -/
def State.canStroke (s : State) (a : ArmId) (i : SlotId) : Bool :=
  match (s.arm a).config, (s.arm a).snapshot with
  | some c, some snap =>
    decide ((s.arm a).slots[i].phase = .ready) && (servedAdditive snap c.slots[i]).isSome &&
      decide ((s.arm a).slots[i].issued < (s.arm a).slots[i].due) && (s.arm a).strokesAllowed &&
      s.codeInService c.slots[i].code
  | _, _ => false

/-- A slot starts a stroke: issued rises, the drive turns on, and the pulse and verify timers start
(R128). -/
def Slot.strike (slot : Slot) (pulse verify : Timer) : Slot :=
  { slot with
    phase := .stroking .unresolved
    pulseTimer := pulse
    verifyTimer := verify
    issued := slot.issued + 1 }

/-- A slot starts a stroke if its start conditions hold (R127, R128). -/
def State.tryStroke (s : State) (a : ArmId) (i : SlotId) : State :=
  match s.canStroke a i, (s.arm a).config with
  | true, some c =>
    s.setArm a (·.setSlot i
      (·.strike (s.timerMs c.slots[i].pulseWidth) (s.timerMs c.slots[i].verifyTimeout)))
  | _, _ => s

/-- Every slot of an arm starts a stroke if its start conditions hold. -/
def State.tryStrokes (s : State) (a : ArmId) : State :=
  ((s.tryStroke a 0).tryStroke a 1).tryStroke a 2

/-- All three slots of an arm are READY (R47). -/
def Arm.slotsReady (arm : Arm) : Bool := arm.slots.toList.all fun slot => decide (slot.phase = .ready)

/-- The injector drive output of a slot: on exactly while the slot is STROKING (R128). -/
def Slot.drive (slot : Slot) : Bool :=
  match slot.phase with
  | .stroking _ => true
  | _ => false

end Sys2Proof.Machine
end

