-- ==== Sys2Proof/Machine/Holds.lean ====
section
/-! DEFINITION. Hold causes and the entry into HELD (R35, R36, R38), and the return from it (R41). -/

namespace Sys2Proof.Machine

open Sys2Proof

/-- The hold limit of an arm's snapshot in seconds (R38). -/
def Arm.holdLimit (arm : Arm) : Nat := (arm.snapshot.map (·.params.holdLimit)).getD 0

/-- An arm enters HELD from DELIVERING: u_resume takes u, u becomes 0 and is handed to the Valve Drive
(R36). -/
def Arm.closeValveForHold (arm : Arm) : Arm :=
  { arm.setFigures fun f => { f with uResume := f.u, u := 0 } with
    valve := { arm.valve with commanded := 0 } }

/-- A hold cause is added to an arm (R35): a DELIVERING or FLUSHING arm enters HELD and starts its hold
timer; a HELD arm takes the cause into its set; in any other state nothing changes. -/
def State.addCause (s : State) (a : ArmId) (c : HoldCause) : State :=
  match (s.arm a).state with
  | .delivering =>
    s.setArm a fun arm =>
      { arm.closeValveForHold with
        state := .held .delivering
        causes := HoldSet.only c
        holdTimer := s.timerMs (arm.holdLimit * 1000) }
  | .flushing =>
    s.setArm a fun arm =>
      { arm with
        state := .held .flushing
        causes := HoldSet.only c
        holdTimer := s.timerMs (arm.holdLimit * 1000) }
  | .held _ => s.setArm a fun arm => { arm with causes := HoldSet.add arm.causes c }
  | _ => s

/-- A hold cause added only when its condition holds. -/
def State.addCauseIf (s : State) (b : Bool) (a : ArmId) (c : HoldCause) : State :=
  if b then s.addCause a c else s

/-- The check counts restarted by a resume (R41). -/
def Figures.restartChecks (f : Figures) : Figures :=
  { f with overspeed := 0, excursion := 0, ethanolOnly := 0, grace := 2 }

/-- A HELD arm with an emptied cause set returns to its held-from state (R41). -/
def Arm.endHold (arm : Arm) : Arm :=
  match arm.state with
  | .held .delivering =>
    let arm := arm.setFigures fun f => { f.restartChecks with u := f.uResume }
    { arm with
      state := .delivering
      holdTimer := none
      valve := { arm.valve with commanded := arm.u } }
  | .held .flushing =>
    { arm.setFigures Figures.restartChecks with state := .flushing, holdTimer := none }
  | _ => arm

/-- The cause set of a HELD arm becomes `rest`; when that is empty the hold ends and slots with strokes
pending start them (R39 to R41, R135). -/
def State.leaveCauses (s : State) (a : ArmId) (rest : HoldSet) : State :=
  let s := s.setArm a fun arm => { arm with causes := rest }
  if rest = 0 then (s.setArm a Arm.endHold).tryStrokes a else s

end Sys2Proof.Machine
end

