-- ==== Sys2Proof/Machine/Header.lean ====
section
/-! DEFINITION. The Header Allotment: free capacity, request and minimum (R143), the admission test
(R144, R145), admission (R34), the head examination (R148), release (R147) and leaving the header
queue (R146). -/

namespace Sys2Proof.Machine

open Sys2Proof

/-- The sum of the eight grants (R149). -/
def Header.granted (h : Header) : Nat := (h.grants.toList.map (·.flow)).sum

/-- Free capacity: H less the sum of the grants (Section 9.1). -/
def Header.free (h : Header) : Nat := h.capacity - h.granted

/-- The request of a batch: ceil(main flow × f_eff / 10000) (R143). -/
def headerRequest (snap : Snapshot) (fraction : Nat) : Nat :=
  ceilDiv (snap.params.mainFlow * fraction) 10000

/-- The minimum of a batch: ceil(low flow × f_eff / 10000) (R143). -/
def headerMinimum (snap : Snapshot) (fraction : Nat) : Nat :=
  ceilDiv (snap.params.lowFlow * fraction) 10000

/-- The grant the free capacity can serve: the whole request, or the whole free capacity with its
allotment limit when that meets the minimum (R144 cases 2 and 3, R148). -/
def Header.offer (h : Header) (request minimum fraction : Nat) : Option Grant :=
  if request ≤ h.free then some ⟨request, none⟩
  else if minimum ≤ h.free then some ⟨h.free, some (h.free * 10000 / fraction)⟩
  else none

/-- The answer to a START: the grant of cases 1 to 3 of R144, or `none` for case 4. -/
def Header.answer (h : Header) (request minimum fraction : Nat) : Option Grant :=
  if request = 0 then some ⟨0, none⟩
  else if h.queue = [] then h.offer request minimum fraction
  else none

/-- A flow limit with an allotment limit beside it: the smaller of the two (R14). -/
def withAllotment (flow : Nat) : Option Nat → Nat
  | none => flow
  | some l => min flow l

/-- The running figures at admission (Table 1-2): u and u_resume at u0, the flow limit in force from the
low flow and the allotment limit, FLUSH_REDUCED as START set it, the rest 0 or clear. -/
def admissionFigures (snap : Snapshot) (limit : Option Nat) (markers : Markers) : Figures :=
  { Figures.zero with
    u := snap.params.u0
    uResume := snap.params.u0
    flowLimit := withAllotment snap.params.lowFlow limit
    markers := { Markers.clear with flushReduced := markers.flushReduced } }

/-- A batch at its admission with its number (R34). -/
def Batch.admission (b : Batch) (number : Nat) (limit : Option Nat) : Batch :=
  { b with
    number := some number
    figures :=
      match b.snapshot with
      | some snap => admissionFigures snap limit b.figures.markers
      | none => Figures.zero }

/-- A slot at admission: its counts 0, its state unchanged (R126). -/
def Slot.admission (slot : Slot) : Slot :=
  { slot with due := 0, issued := 0, verified := 0, missed := 0, consecutive := 0 }

/-- A meter at admission: window counting from 0 (R53). -/
def Meter.admission (m : Meter) : Meter :=
  { m with mode := .windowCount, countA := 0, countB := 0, mismatch := 0 }

/-- An arm at its admission at instant `now` (R34, R53, R78, R126). -/
def Arm.admission (arm : Arm) (number : Nat) (limit : Option Nat) (now : Nat) : Arm :=
  let batch := arm.batch.map (·.admission number limit)
  { arm.setMeters Meter.admission with
    state := .delivering
    authorizeTimer := none
    batch := batch
    finalDone := false
    opened := true
    windowTimer := arm.config.map fun c => now + c.trimPeriod * 1000
    windowStart := some now
    windowPeriod := arm.config.map (·.trimPeriod)
    slots := Vector.ofFn fun i => arm.slots[i].admission
    valve := { arm.valve with commanded := (batch.map (·.figures.u)).getD 0 } }

/-- The header with an arm's grant written and the arm gone from the queue (R148). -/
def Header.seat (h : Header) (a : ArmId) (g : Grant) : Header :=
  { h with grants := h.grants.set a g, queue := h.queue.filter (·.arm ≠ a) }

/-- Admission of an arm with a grant: grant table, batch number, the arm's admission values, the
admission CHECKPOINT, and cause ADDITIVE when a code of its snapshot is out of service (R34, R138,
R144, R153). -/
def State.admission (s : State) (a : ArmId) (g : Grant) : State :=
  let number := s.nextNumber a
  let s := State.takeNumber { s with header := s.header.seat a g } number
  let s := s.setArm a (·.admission number g.limit s.now)
  let s := s.askCheckpoint a
  s.addCauseIf (((s.arm a).snapshot.map fun snap => !s.additivesInService snap).getD false) a .additive

/-- The fraction f_eff of an arm's batch. -/
def Arm.fraction (arm : Arm) : Nat := ((arm.batch.bind (·.fixed)).map (·.fraction)).getD 0

/-- The head examination: heads are admitted while the free capacity serves them (R148). The fuel is
the length of the queue, since every admission takes one arm out of it. -/
def State.examineFrom : Nat → State → State
  | 0, s => s
  | fuel + 1, s =>
    match s.header.queue with
    | [] => s
    | p :: _ =>
      match s.header.offer p.request p.minimum (s.arm p.arm).fraction with
      | none => s
      | some g => State.examineFrom fuel (s.admission p.arm g)

/-- The head examination of the whole queue (R148). -/
def State.examine (s : State) : State := State.examineFrom s.header.queue.length s

/-- Release of an arm's grant, with the head examination in the same event (R147, R148). -/
def State.release (s : State) (a : ArmId) : State :=
  State.examine { s with
    header := { s.header with grants := s.header.grants.set a ⟨0, none⟩ } }

/-- An arm leaves the header queue without admission; when it was the head, the new head is examined
(R146). -/
def State.leaveQueue (s : State) (a : ArmId) : State :=
  let t := { s with header := { s.header with queue := s.header.queue.filter (·.arm ≠ a) } }
  match s.header.queue with
  | p :: _ => if p.arm = a then t.examine else t
  | [] => t

end Sys2Proof.Machine
end

