-- ==== Sys2Proof/Machine/Sequence.lean ====
section
/-! DEFINITION. The transitions of the Arm Sequencer that several commands share: entry into IDLE and
AUTHORIZED, into FLUSHING (R42) and CLOSING (R45), and the close (R47). -/

namespace Sys2Proof.Machine

open Sys2Proof

/-- A meter whose arm enters IDLE, AUTHORIZED or WAITING_HEADER: its idle count is 0 (R53). -/
def Meter.clearIdle (m : Meter) : Meter := { m with idleCount := 0 }

/-- An arm entering IDLE: no batch context, no reservation, no open batch, timers stopped, idle counts 0
(R2, R31, R47, R53, R87). -/
def Arm.toIdle (arm : Arm) : Arm :=
  { arm.setMeters Meter.clearIdle with
    state := .idle
    causes := 0
    authorizeTimer := none
    holdTimer := none
    drainTimer := none
    batch := none
    finalDone := false
    reserved := false
    opened := false
    windowTimer := none
    windowStart := none
    windowPeriod := none }

/-- An arm enters IDLE. -/
def State.toIdle (s : State) (a : ArmId) : State := s.setArm a Arm.toIdle

/-- An arm enters AUTHORIZED: the authorize timer starts with the timeout now set, and the idle counts
are 0 (R29, R53). -/
def State.toAuthorized (s : State) (a : ArmId) : State :=
  s.setArm a fun arm =>
    { arm.setMeters Meter.clearIdle with
      state := .authorized
      authorizeTimer := s.timerMs (s.authorizeTimeout * 1000) }

/-- The arm's state still holds an ethanol grant: DELIVERING, or HELD from DELIVERING (R45, R147). -/
def ArmState.holdsGrant : ArmState → Bool
  | .delivering => true
  | .held .delivering => true
  | _ => false

/-- An arm's valve command becomes 0 and is handed to the Valve Drive (R42, R45, R141). -/
def Arm.shutValve (arm : Arm) : Arm :=
  { arm.setFigures fun f => { f with u := 0 } with valve := { arm.valve with commanded := 0 } }

/-- An arm as it enters CLOSING at instant `now` (R45). -/
def Arm.toClosing (arm : Arm) (e : Ending) (now : Nat) : Arm :=
  { arm.shutValve with
    state := .closing
    causes := 0
    holdTimer := none
    authorizeTimer := none
    drainTimer := arm.config.map fun c => now + c.drainTime * 1000
    batch := arm.shutValve.batch.map fun b => { b with ending := some e } }

/-- An arm enters CLOSING with a kind and abort cause: slots with strokes pending, as a HELD arm's may be, start them
in the same event, and a grant still held is released (R45, R127, R136, R147). -/
def State.enterClosing (s : State) (a : ArmId) (e : Ending) : State :=
  let t := (s.setArm a (·.toClosing e s.now)).tryStrokes a
  if (s.arm a).state.holdsGrant then t.release a else t

/-- An arm enters FLUSHING: the valve shuts and the grant is released (R42, R147). -/
def State.enterFlushing (s : State) (a : ArmId) : State :=
  (s.setArm a fun arm => { arm.shutValve with state := .flushing }).release a

/-- The close of an arm with the record formed: the record is posted, a CLOSE is queued, and the arm
becomes IDLE (R47, R157). -/
def State.close (s : State) (a : ArmId) (r : BatchRecord) : State :=
  let q := s.lanes[laneOf a].posting r
  let t := s.setLane (laneOf a) (·.post r)
  (t.askOp (.close a q.slot q.record (s.arm a).figures)).toIdle a

/-- A CLOSING arm closes once its final computation is done and all its slots are READY (R47). -/
def State.tryClose (s : State) (a : ArmId) : State :=
  let arm := s.arm a
  if arm.state = .closing ∧ arm.finalDone = true ∧ arm.slotsReady = true then
    match arm.batch, arm.snapshot, arm.config with
    | some b, some snap, some c => s.close a (arm.record a b snap c)
    | _, _, _ => s
  else s

end Sys2Proof.Machine
end

