-- ==== Sys2Proof/Machine/Blend.lean ====
section
/-! DEFINITION. The blend computation on one arm's figures: the quantities fixed at START (R3) and
Stages A to F of a computation, each only as Table 1-3 lets it take effect in the arm's state. -/

namespace Sys2Proof.Machine

open Sys2Proof

/-! ## Fixed quantities (R3) -/

/-- E_goal, F_eff, S and f_eff from the preset and the snapshot's target and flush (R3). -/
def fixedQuantities (preset : Nat) (p : Params) : Fixed :=
  let goal := (p.target * preset + 5000) / 10000
  let flush := min p.flush (min (preset / 2) (preset - ceilDiv (goal * 10000) 9000))
  { goal := goal
    flush := flush
    flushStart := preset - flush
    fraction := ceilDiv (goal * 10000) (preset - flush) }

/-! ## Stages A to C (R6 to R9) -/

/-- The gross volume of a window and the new gross residue (R6). -/
def grossVolume (factor pulses residue : Nat) : Nat × Nat :=
  ((pulses * 1000000 + residue) / factor, (pulses * 1000000 + residue) % factor)

/-- The volume correction factor in ppm (R8). -/
def correctionFactor (alpha : Nat) (temperature : Int) : Int :=
  1000000 - roundDiv (alpha * (temperature - 1500)) 100

/-- The net volume of a window and the new net residue (R8). -/
def netVolume (alpha : Nat) (temperature : Int) (gross residue : Nat) : Nat × Nat :=
  let m : Int := gross * correctionFactor alpha temperature + residue
  ((m / 1000000).toNat, (m % 1000000).toNat)

/-- The ethanol demand at net blend `v` (R9). -/
def demandAt (fx : Fixed) (v : Nat) : Nat :=
  if v < fx.flushStart then min fx.goal (fx.goal * v / fx.flushStart) else fx.goal

/-- The volumes of one window. -/
structure WindowVolumes where
  grossG : Nat
  grossE : Nat
  netG : Nat
  netE : Nat
deriving DecidableEq, Repr

/-- The volumes of a request's window from the figures before it (R6, R8). -/
def windowVolumes (f : Figures) (p : Params) (c : ArmConfig) (r : TrimRequest) : WindowVolumes :=
  let grossG := (grossVolume c.factorG r.pulsesG f.grossResidueG).1
  let grossE := (grossVolume c.factorE r.pulsesE f.grossResidueE).1
  { grossG := grossG
    grossE := grossE
    netG := (netVolume p.alphaG r.probeG.temperature grossG f.netResidueG).1
    netE := (netVolume p.alphaE r.probeE.temperature grossE f.netResidueE).1 }

/-- Stages A to C: cumulative volumes, residues, pulse counts, temperature sums, UNCORRECTED markers,
demand and error (R6 to R9). -/
def Figures.measure (f : Figures) (p : Params) (c : ArmConfig) (fx : Fixed) (r : TrimRequest) :
    Figures :=
  let w := windowVolumes f p c r
  let ng := f.ng + w.netG
  let ne := f.ne + w.netE
  { f with
    vg := f.vg + w.grossG
    ve := f.ve + w.grossE
    ng := ng
    ne := ne
    grossResidueG := (grossVolume c.factorG r.pulsesG f.grossResidueG).2
    grossResidueE := (grossVolume c.factorE r.pulsesE f.grossResidueE).2
    netResidueG := (netVolume p.alphaG r.probeG.temperature w.grossG f.netResidueG).2
    netResidueE := (netVolume p.alphaE r.probeE.temperature w.grossE f.netResidueE).2
    pulsesG := f.pulsesG + r.pulsesG
    pulsesE := f.pulsesE + r.pulsesE
    sumG := f.sumG + w.grossG * r.probeG.temperature
    sumE := f.sumE + w.grossE * r.probeE.temperature
    demand := demandAt fx (ng + ne)
    error := ne - demandAt fx (ng + ne)
    markers := { f.markers with
      uncorrectedG := f.markers.uncorrectedG || r.probeG.uncorrected
      uncorrectedE := f.markers.uncorrectedE || r.probeE.uncorrected } }

/-! ## Stage D (R10, R11) -/

/-- The valve command after a trim by error `e` (R10). -/
def trimmedCommand (p : Params) (e : Int) (u : Nat) : Nat :=
  let step := limitTo (-p.stepLimit) p.stepLimit (-(roundDiv (p.gain * e) 1000))
  (limitTo p.uLo p.uHi (u + step)).toNat

/-- A trimmed window is saturated: the valve stands at the end of its range and the error asks for more
(R11). -/
def saturatedAt (p : Params) (e : Int) (u : Nat) : Bool :=
  (decide (u = p.uHi) && decide (e < 0)) || (decide (u = p.uLo) && decide (0 < e))

/-- Stage D is performed: DELIVERING, V below S, E_goal above 0 (R10). -/
def trims (st : ArmState) (fx : Fixed) (f : Figures) : Bool :=
  decide (st = .delivering) && decide (f.ng + f.ne < fx.flushStart) && decide (0 < fx.goal)

/-- The saturation count reaches N_sat in this trimmed window (R11). -/
def saturationReached (p : Params) (f : Figures) : Bool :=
  saturatedAt p f.error (trimmedCommand p f.error f.u) && decide (p.nSat ≤ f.saturation + 1)

/-- Stage D where it is performed: the new valve command, the saturation count and the marker
TRIM_SATURATED (R10, R11). -/
def Figures.trim (f : Figures) (p : Params) : Figures :=
  let u := trimmedCommand p f.error f.u
  { f with
    u := u
    saturation :=
      if saturatedAt p f.error u then (if p.nSat ≤ f.saturation + 1 then 0 else f.saturation + 1)
      else 0
    markers := { f.markers with
      trimSaturated := f.markers.trimSaturated || saturationReached p f } }

/-! ## Stage E (R12 to R17) -/

/-- The flow rate of a window: floor((ΔVg + ΔVe) × 60 / w_ms), and a free value for a duration of 0
(R12, log entry 1). -/
def flowRate (gross duration : Nat) : Nat :=
  if duration = 0 then Config.rateOfEmptyWindow gross else gross * 60 / duration

/-- The smoothed flow rate: r_s + trunc((r − r_s) × w / 16) (R12). -/
def smoothedRate (smoothed rate weight : Nat) : Nat :=
  ((smoothed : Int) + (((rate : Int) - smoothed) * weight).tdiv 16).toNat

/-- The stage from the cumulative volumes (R13). -/
def stageOf (p : Params) (preset : Nat) (f : Figures) : Stage :=
  if preset ≤ f.ng + f.ne + p.topOffVolume then .topOff
  else if f.vg + f.ve < p.lowStart then .lowStart
  else .main

/-- The stage flow limit (R13). -/
def stageFlow (p : Params) : Stage → Nat
  | .lowStart => p.lowFlow
  | .main => p.mainFlow
  | .topOff => p.topOffFlow

/-- Stage E's flow part: smoothed rate, stage, flow limit in force, and the grace count when the limit
falls (R12 to R14). -/
def Figures.flow (f : Figures) (p : Params) (c : ArmConfig) (preset : Nat) (limit : Option Nat)
    (rate : Nat) : Figures :=
  let stage := stageOf p preset f
  let flowLimit := withAllotment (stageFlow p stage) limit
  { f with
    rate := smoothedRate f.rate rate c.smoothing
    stage := stage
    flowLimit := flowLimit
    grace := if flowLimit < f.flowLimit then 2 else f.grace }

/-- The three checks count up to 3: the count after a judged window, and whether it reached 3 (R15 to
R17). -/
def checkCount (count : Nat) (bad : Bool) : Nat × Bool :=
  if bad then (if 3 ≤ count + 1 then (0, true) else (count + 1, false)) else (0, false)

/-- The overspeed check of a judged window (R15). -/
def overspeedCheck (f : Figures) : Nat × Bool :=
  checkCount f.overspeed (decide (f.flowLimit * 105 / 100 < f.rate))

/-- The excursion check is made: DELIVERING, Vb at the low-start volume or above, and the check on
(R16). -/
def excursionMade (st : ArmState) (snap : Snapshot) (f : Figures) : Bool :=
  decide (st = .delivering) && decide (snap.params.lowStart ≤ f.vg + f.ve) && snap.excursionOn

/-- The excursion check (R16). -/
def excursionCheck (p : Params) (f : Figures) : Nat × Bool :=
  checkCount f.excursion (decide (p.excursion < f.error.natAbs))

/-- The window is counted by the ethanol-only check (R17). -/
def ethanolOnlyWindow (kind : RecipeKind) (w : WindowVolumes) : Bool :=
  match kind with
  | .blend => decide (0 < w.grossE) && decide (w.grossG = 0)
  | .straight => decide (0 < w.grossE)

/-- The ethanol-only check (R17). -/
def ethanolOnlyCheck (kind : RecipeKind) (w : WindowVolumes) (f : Figures) : Nat × Bool :=
  checkCount f.ethanolOnly (ethanolOnlyWindow kind w)

/-- The overspeed and ethanol-only checks are made: DELIVERING or FLUSHING (R15, R17). -/
def flowChecked : ArmState → Bool
  | .delivering => true
  | .flushing => true
  | _ => false

/-- The figures after the three checks, each where it is made (R15 to R17). -/
def Figures.check (f : Figures) (st : ArmState) (snap : Snapshot) (w : WindowVolumes) : Figures :=
  { f with
    overspeed :=
      if flowChecked st then (if 0 < f.grace then 0 else (overspeedCheck f).1) else f.overspeed
    grace := if flowChecked st && decide (0 < f.grace) then f.grace - 1 else f.grace
    excursion :=
      if excursionMade st snap f then (excursionCheck snap.params f).1 else f.excursion
    ethanolOnly :=
      if flowChecked st then (ethanolOnlyCheck snap.kind w f).1 else f.ethanolOnly }

/-! ## One computation -/

/-- What one computation gives for an arm: the window's volumes, the figures, the flow rate when Stage E
was performed, and which flags and hold causes it raises. -/
structure Computed where
  volumes : WindowVolumes
  figures : Figures
  rate : Option Nat
  trimmed : Bool
  saturated : Bool
  overspeed : Bool
  excursion : Bool
  ethanolOnly : Bool
deriving DecidableEq, Repr

/-- Stages A to E for an arm in state `st` at completion (R4, R5). Stage E is passed over in CLOSING. -/
def computeStages (st : ArmState) (b : Batch) (snap : Snapshot) (fx : Fixed) (c : ArmConfig)
    (limit : Option Nat) (r : TrimRequest) : Computed :=
  let p := snap.params
  let w := windowVolumes b.figures p c r
  let measured := b.figures.measure p c fx r
  let trimming := trims st fx measured
  let afterTrim := if trimming then measured.trim p else measured
  if st = .closing then
    { volumes := w
      figures := afterTrim
      rate := none
      trimmed := false
      saturated := false
      overspeed := false
      excursion := false
      ethanolOnly := false }
  else
    let rate := flowRate (w.grossG + w.grossE) r.duration
    let flowing := afterTrim.flow p c b.preset limit rate
    { volumes := w
      figures := flowing.check st snap w
      rate := some rate
      trimmed := trimming
      saturated := trimming && saturationReached p measured
      overspeed := flowChecked st && decide (flowing.grace = 0) && (overspeedCheck flowing).2
      excursion := excursionMade st snap flowing && (excursionCheck p flowing).2
      ethanolOnly := flowChecked st && (ethanolOnlyCheck snap.kind w flowing).2 }

/-- The computation of an arm's request, on an arm with an admitted batch (R4). -/
def Arm.compute (arm : Arm) (limit : Option Nat) (r : TrimRequest) : Option Computed :=
  match arm.batch, arm.config with
  | some b, some c =>
    match b.snapshot, b.fixed with
    | some snap, some fx =>
      if arm.state.admitted then some (computeStages arm.state b snap fx c limit r) else none
    | _, _ => none
  | _, _ => none

/-! ## Stage F (R19, R134) -/

/-- The strokes due of a slot serving an additive: floor(Vb × a / (1000 × sv)) (R19). -/
def strokesDue (gross rate strokeVolume : Nat) : Nat := gross * rate / (1000 * strokeVolume)

/-- A slot after Stage F: its strokes due, when it serves an additive of the snapshot (R19). -/
def Slot.pace (slot : Slot) (snap : Snapshot) (sc : SlotConfig) (gross : Nat) : Slot :=
  match servedAdditive snap sc with
  | some ad => { slot with due := strokesDue gross ad.rate sc.strokeVolume }
  | none => slot

/-- The slots of an arm after Stage F at gross blend `gross` (R19). -/
def Arm.pace (arm : Arm) (snap : Snapshot) (c : ArmConfig) (gross : Nat) : Vector Slot 3 :=
  Vector.ofFn fun i => arm.slots[i].pace snap c.slots[i] gross

/-- After Stage F a slot serving an additive has a pending count greater than 20 (R134). -/
def lagging (snap : Snapshot) (c : ArmConfig) (slots : Vector Slot 3) : Bool :=
  ([0, 1, 2] : List SlotId).any fun i =>
    (servedAdditive snap c.slots[i]).isSome && decide (slots[i].issued + 20 < slots[i].due)

end Sys2Proof.Machine
end

