-- ==== Sys2Proof/Machine/Cache.lean ====
section
/-! DEFINITION. The Recipe Cache: the ways of a key's set (R111), lookup and the replacement counter
(R112, R113), fill (R114), the dispensed copy (R115) and invalidation (R116 to R118). The entry of
set n and way w stands at place 4n + w. -/

namespace Sys2Proof.Machine

open Sys2Proof

/-- The place of way `w` of a key's set, (product + package) mod 8 (R111). -/
def wayOf (key : Key) (w : Fin 4) : Fin 32 :=
  ⟨(key.product + key.package) % 8 * 4 + w.val, by omega⟩

/-- The four ways of a key's set, in way order. -/
def waysOf (key : Key) : List (Fin 32) := [wayOf key 0, wayOf key 1, wayOf key 2, wayOf key 3]

/-- A cache place holds a valid entry of the key. -/
def holdsKey (key : Key) : Option CacheEntry → Bool
  | some e => decide (e.key = key)
  | none => false

/-- The place of the valid entry of a key (R112). -/
def State.findEntry (s : State) (key : Key) : Option (Fin 32) :=
  (waysOf key).find? fun i => holdsKey key s.cache[i]

/-- The valid entry of a key. -/
def State.cached (s : State) (key : Key) : Option CacheEntry :=
  match s.findEntry key with
  | some i => s.cache[i]
  | none => none

/-- A lookup advances the replacement counter, from 3 to 0 (R113). -/
def State.countLookup (s : State) : State := { s with replacement := s.replacement + 1 }

/-- The way a fill takes: the lowest invalid way of the set, and in a full set the way the replacement
counter names (R114). -/
def State.fillPlace (s : State) (key : Key) : Fin 32 :=
  ((waysOf key).find? fun i => s.cache[i].isNone).getD (wayOf key s.replacement)

/-- A walk's record outcome fills an entry (R114, Table 7-1). -/
def State.fillCache (s : State) (e : CacheEntry) : State :=
  { s with cache := s.cache.set (s.fillPlace e.key) (some e) }

/-- The dispensed copy of a key's entry is set or cleared, when there is one (R115). -/
def State.setDispensedCopy (s : State) (key : Key) (b : Bool) : State :=
  match s.findEntry key with
  | some i =>
    { s with cache := s.cache.set i (s.cache[i].map fun e => { e with dispensed := b }) }
  | none => s

/-- Every valid entry that `f` picks becomes invalid (R111). -/
def State.invalidate (s : State) (f : CacheEntry → Bool) : State :=
  { s with cache := Vector.ofFn fun i =>
      match s.cache[i] with
      | some e => if f e then none else some e
      | none => none }

end Sys2Proof.Machine
end

