-- ==== Sys2Proof/Machine/MonitorStream.lean ====
section
/-! DEFINITION. The monitor stream: the forming of packets, the packet queue and its overflow (R182,
R183), and the recipe parameter a TRIM packet carries. -/

namespace Sys2Proof.Machine

open Sys2Proof

/-- The numeric parameters 0 to 18 of a snapshot (Table 6-4). A straight-product window's excursion
limit is reported as 0 (R182). -/
def lowParameter (snap : Snapshot) : Nat → Nat
  | 0 => snap.params.target
  | 1 => snap.params.tolerance
  | 2 => if snap.excursionOn then snap.params.excursion else 0
  | 3 => snap.params.flush
  | 4 => snap.params.alphaG
  | 5 => snap.params.alphaE
  | 6 => snap.params.gain
  | 7 => snap.params.stepLimit
  | 8 => snap.params.uLo
  | 9 => snap.params.uHi
  | 10 => snap.params.u0
  | 11 => snap.params.nSat
  | 12 => snap.params.lowStart
  | 13 => snap.params.lowFlow
  | 14 => snap.params.mainFlow
  | 15 => snap.params.topOffVolume
  | 16 => snap.params.topOffFlow
  | 17 => snap.params.holdLimit
  | _ => snap.params.missLimit

/-- The value and second value of parameter `n` (R182). -/
def parameterOf (snap : Snapshot) (n : Nat) : Nat × Nat :=
  if n < 19 then (lowParameter snap n, 0)
  else if n = 19 then ((match snap.faultAction with | .hold => 0 | .flag => 1), 0)
  else if n = 20 then (snap.params.additives[0].code, snap.params.additives[0].rate)
  else if n = 21 then (snap.params.additives[1].code, snap.params.additives[1].rate)
  else if n = 22 then (snap.params.additives[2].code, snap.params.additives[2].rate)
  else (snap.params.precision, 0)

/-- A packet joins the monitor line: it begins at once when nothing is being sent and the queue is empty,
joins the queue while that holds fewer than 8, and otherwise causes an overflow (R183). -/
def Monitor.form (m : Monitor) (p : Packet) (now : Nat) : Monitor :=
  match m.sending, m.queue with
  | none, [] => { m with sending := some ⟨p, now⟩ }
  | _, _ =>
    if m.queue.length < 8 then { m with queue := m.queue ++ [p] }
    else { m with queue := [], running := false, overflow := true }

/-- The number of bytes of a packet (R183). -/
def Packet.size : Packet → Nat
  | .trim _ => 44
  | .probe _ => 11

/-- The time a packet takes, 10 bit times a byte at 115,200 bit/s, in whole µs, rounded up (R183). -/
def Packet.sendTime (p : Packet) : Nat := ceilDiv (p.size * 10 * 1000000) 115200

/-- The monitor at a completed conversion: a PROBE packet in PROBES mode while running (R182). -/
def State.monitorProbe (s : State) (p : ProbePacket) : State :=
  if s.monitor.running && decide (s.monitor.selection = .probes) then
    { s with monitor := s.monitor.form (.probe p) s.now }
  else s

/-- The TRIM packet of a computation, from the arm after it (R182, Table 12-3). R182 does not say which u it carries
when its own computation holds, flushes or closes the arm: the model carries the 0 that the transition writes, not the
u' that Stage D formed (DESIGN CHOICE, unsafe, log entry 30). -/
def trimPacket (a : ArmId) (st : ArmState) (b : Batch) (final : Bool) (rate : Option Nat)
    (parameter : Nat) (value : Nat × Nat) : TrimPacket where
  arm := a
  number := b.number.getD 0
  state := st
  final := final
  stage := b.figures.stage
  volume := b.figures.ng + b.figures.ne
  demand := b.figures.demand
  error := b.figures.error
  u := b.figures.u
  rate := rate
  smoothed := b.figures.rate
  flowLimit := b.figures.flowLimit
  parameter := parameter
  value := value.1
  second := value.2

/-- The monitor at a completed computation of arm `a`: a TRIM packet in TRIM mode for that arm while
running, and the parameter counter advances, from 23 to 0 (R182). -/
def State.monitorTrim (s : State) (a : ArmId) (final : Bool) (rate : Option Nat) : State :=
  match s.monitor.running && decide (s.monitor.selection = .trim a), (s.arm a).batch,
    (s.arm a).snapshot with
  | true, some b, some snap =>
    let n := s.monitor.parameter
    let packet := trimPacket a (s.arm a).state b final rate n (parameterOf snap n)
    { s with monitor := { s.monitor with parameter := (n + 1) % 24 }.form (.trim packet) s.now }
  | _, _, _ => s

end Sys2Proof.Machine
end

