-- ==== Sys2Proof/Machine/Compute.lean ====
section
/-! DEFINITION. The completion of a computation as one event on the whole machine (R4, R84): the figures
and totals, flags and holds (R18), the CHECKPOINT of R21, the first litre of R22, the triggers of R23,
the TRIM packet, the final report (R24), strokes and the close; and the BAU taking its next request. -/

namespace Sys2Proof.Machine

open Sys2Proof

/-- The idle BAU takes the oldest request of the arithmetic queue (R84). -/
def State.bauTake (s : State) : State :=
  match s.bau, s.arithmeticQueue with
  | none, r :: rest => { s with bau := some ⟨r, s.now⟩, arithmeticQueue := rest }
  | _, _ => s

/-- The figures of a computation as they enter the batch context: with the first-litre indicator (R22)
and ADDITIVE_LAG (R134). -/
def Computed.entered (k : Computed) (lag : Bool) : Figures :=
  { k.figures with
    firstLitre := k.figures.firstLitre || decide (1000 ≤ k.figures.vg + k.figures.ve)
    markers := { k.figures.markers with additiveLag := k.figures.markers.additiveLag || lag } }

/-- An arm after a computation's figures: Stage F's strokes due, the totalizers, and a trimmed valve
command handed to the Valve Drive (R10, R19, R20, R141). -/
def Arm.enter (arm : Arm) (k : Computed) : Arm :=
  match arm.snapshot, arm.config with
  | some snap, some c =>
    let slots := arm.pace snap c (k.figures.vg + k.figures.ve)
    { arm.setFigures (fun _ => k.entered (lagging snap c slots)) with
      slots := slots
      totals := advanceTotals arm.totals k.volumes.grossG k.volumes.grossE k.volumes.netG
        k.volumes.netE
      valve := if k.trimmed then { arm.valve with commanded := k.figures.u } else arm.valve }
  | _, _ => arm

/-- The flags and hold causes a computation raises (R11, R18). -/
def State.raiseChecks (s : State) (a : ArmId) (k : Computed) : State :=
  let s := s.setFlagIf (k.saturated || k.excursion) a .ratio
  let s := s.setFlagIf k.overspeed a .overspeed
  let s := s.setFlagIf k.ethanolOnly a .ethanolOnly
  let s := s.addCauseIf k.excursion a .ratio
  let s := s.addCauseIf k.overspeed a .overspeed
  s.addCauseIf k.ethanolOnly a .ethanolOnly

/-- A CHECKPOINT is asked for when Vb crosses a multiple of 500,000 mL (R21). -/
def State.checkpointIfCrossed (s : State) (a : ArmId) (before after : Nat) : State :=
  if before / 500000 < after / 500000 then s.askCheckpoint a else s

/-- The first litre of a batch: the Recipe Cache is probed, and a DISPENSED is asked for unless the
key's entry holds a set copy; a straight-product window has no record (R22, R115). -/
def State.firstLitre (s : State) (key : Key) (page : Option Nat) : State :=
  match page with
  | none => s
  | some p =>
    match s.cached key with
    | some e =>
      if e.dispensed then s
      else (s.setDispensedCopy key true).askDispensed p key.package key
    | none => s.askDispensed p key.package key

/-- The state triggers of R23, on the arm's state after any hold of the computation. -/
def State.triggers (s : State) (a : ArmId) : State :=
  match (s.arm a).batch with
  | some b =>
    let v := b.figures.ng + b.figures.ne
    if b.preset ≤ v ∧ (s.arm a).state.underway = true then s.enterClosing a ⟨.complete, none⟩
    else
      match b.fixed with
      | some fx =>
        if fx.flushStart ≤ v ∧ (s.arm a).state = .delivering ∧ 0 < fx.flush then s.enterFlushing a
        else s
      | none => s
  | none => s

/-- The BAU reports a final computation done (R24). -/
def State.reportFinal (s : State) (a : ArmId) (final : Bool) : State :=
  if final then s.setArm a fun arm => { arm with finalDone := true } else s

/-- A computation's results on the machine, for a request of arm `a` whose batch stood as `b` (R4). -/
def State.applyComputed (s : State) (r : TrimRequest) (b : Batch) (k : Computed) : State :=
  let a := r.arm
  let gross := k.figures.vg + k.figures.ve
  let s := s.setArm a (·.enter k)
  let s := s.raiseChecks a k
  let s := s.checkpointIfCrossed a (b.figures.vg + b.figures.ve) gross
  let s := if b.figures.firstLitre = false ∧ 1000 ≤ gross then s.firstLitre b.key b.page else s
  let s := s.triggers a
  let s := s.monitorTrim a r.final k.rate
  let s := s.reportFinal a r.final
  (s.tryStrokes a).tryClose a

/-- The results of the computation of request `r` (R4); a request whose arm holds no admitted batch, which
no run reaches (R87), has none. -/
def State.finishComputation (s : State) (r : TrimRequest) : State :=
  match (s.arm r.arm).batch, (s.arm r.arm).compute s.header.grants[r.arm].limit r with
  | some b, some k => s.applyComputed r b k
  | _, _ => s

end Sys2Proof.Machine
end

