-- ==== Sys2Proof/Machine/TrimScheduler.lean ====
section
/-! DEFINITION. Closing a trim window: the hand-over and judgment of the meter counts (R55, R57, R58), the
probe snapshots (R75), the request (R79, R83) and its placing or merging (R80, R81). -/

namespace Sys2Proof.Machine

open Sys2Proof

/-- The closed window is a mismatch window: |A − B| is above 2 (R57). -/
def Meter.mismatched (m : Meter) : Bool := m.countB + 2 < m.countA || m.countA + 2 < m.countB

/-- This hand-over brings the mismatch count to 3 (R57). -/
def Meter.faults (m : Meter) : Bool := m.mismatched && decide (3 ≤ m.mismatch + 1)

/-- A meter after the hand-over of its window counts (R55, R57). -/
def Meter.handOver (m : Meter) : Meter :=
  { m with
    countA := 0
    countB := 0
    mismatch :=
      if m.mismatched then (if 3 ≤ m.mismatch + 1 then 0 else m.mismatch + 1) else 0 }

/-- A meter from the drain expiry: idle counting from 0 (R53). -/
def Meter.toIdleCount (m : Meter) : Meter := { m with mode := .idleCount, idleCount := 0 }

/-- The snapshot of a probe record (R75). -/
def ProbeRecord.reading (p : ProbeRecord) : ProbeReading :=
  match p.state, p.last with
  | .good, some t => ⟨t, false⟩
  | .suspect, some t => ⟨t, false⟩
  | _, _ => ⟨1500, true⟩

/-- The request of an arm's window closing now (R79). -/
def State.closingRequest (s : State) (a : ArmId) (duration : Nat) (final : Bool) : TrimRequest where
  arm := a
  pulsesG := (s.arm a).meterG.countA
  pulsesE := (s.arm a).meterE.countA
  probeG := s.scanner.records[channelOf a .gasoline].reading
  probeE := s.scanner.records[channelOf a .ethanol].reading
  duration := duration
  final := final

/-- The hand-over of both meters with the faults it raises (R55, R57, R58). -/
def State.handOver (s : State) (a : ArmId) : State :=
  let g := (s.arm a).meterG.faults
  let e := (s.arm a).meterE.faults
  let s := s.setArm a (·.setMeters Meter.handOver)
  let s := s.setFlagIf g a .meterG
  let s := s.setFlagIf e a .meterE
  s.addCauseIf (g || e) a .meter

/-- A waiting request with a closed window of its arm merged into it (R81). -/
def TrimRequest.merge (w r : TrimRequest) : TrimRequest :=
  { w with
    pulsesG := hold16 (w.pulsesG + r.pulsesG)
    pulsesE := hold16 (w.pulsesE + r.pulsesE)
    probeG := r.probeG
    probeE := r.probeE
    duration := w.duration + r.duration
    final := w.final || r.final }

/-- A merge saturates a pulse count (R81). -/
def TrimRequest.saturates (w r : TrimRequest) : Bool :=
  decide (65535 < w.pulsesG + r.pulsesG) || decide (65535 < w.pulsesE + r.pulsesE)

/-- The PULSE_SATURATED marker of an arm's batch is set (R54, R81). -/
def Arm.markSaturated (arm : Arm) : Arm :=
  arm.setFigures fun f => { f with markers := { f.markers with pulseSaturated := true } }

/-- A request is placed: it merges into the waiting request of its arm, which counts an overrun and sets
TRIM_OVERRUN, and otherwise joins the tail of the arithmetic queue (R80, R81, R82). -/
def State.place (s : State) (r : TrimRequest) : State :=
  match s.arithmeticQueue.find? fun w => decide (w.arm = r.arm) with
  | some w =>
    let s := { s with arithmeticQueue :=
      s.arithmeticQueue.map fun (q : TrimRequest) => if q.arm = r.arm then q.merge r else q }
    let s := s.setArm r.arm fun arm => { arm with overrun := hold16 (arm.overrun + 1) }
    let s := if w.saturates r then s.setArm r.arm Arm.markSaturated else s
    s.setFlag r.arm .trimOverrun
  | none => { s with arithmeticQueue := s.arithmeticQueue ++ [r] }

/-- An arm's current window closes: hand-over, request, placing, and an idle BAU takes the oldest request
at once (R79, R80, R83). -/
def State.closeWindow (s : State) (a : ArmId) (duration : Nat) (final : Bool) : State :=
  ((s.handOver a).place (s.closingRequest a duration final)).bauTake

end Sys2Proof.Machine
end

