-- ==== Sys2Proof/Machine/Operands.lean ====
section
/-! DEFINITION. How a request is taken by its port: the codes of Table 11-3, the transmit-queue limit of
R168 and the checks of R166, and the ranges of the fields a request carries (R92, R94, R174, Tables
4-1, 6-4, 6-5, 8-1). -/

namespace Sys2Proof.Machine

open Sys2Proof

/-! ## Request codes (Table 11-3) -/

/-- The codes of Table 11-3 that a lane link accepts. -/
def laneCodes : List Byte := [0x01, 0x02, 0x03, 0x04, 0x05, 0x06, 0x07, 0x08, 0x09, 0x0A, 0x0B, 0x0C]

/-- The codes of Table 11-3 that the supervisor link accepts. -/
def supervisorCodes : List Byte :=
  [0x03, 0x04, 0x06, 0x07, 0x08, 0x09, 0x0A, 0x0B, 0x0C, 0x20, 0x21, 0x22, 0x23, 0x24, 0x25, 0x26,
    0x30, 0x31, 0x32, 0x33, 0x34, 0x35, 0x36, 0x40, 0x41, 0x42, 0x43, 0x48, 0x49, 0x7F]

/-- A link accepts the request of a code (Table 11-3). -/
def accepts : Port → Byte → Bool
  | .lane _, code => laneCodes.contains code
  | .supervisor, code => supervisorCodes.contains code

/-! ## The checks of R166 -/

/-- What a request names: nothing, an arm or a lane. -/
inductive Names where
  | nothing
  | arm (n : Nat)
  | lane (n : Nat)
deriving DecidableEq, Repr

/-- Check 5: the request names an arm above 7 or a lane above 3. A lane link's request names no lane
(R159). -/
def outOfRange (port : Port) : Names → Bool
  | .nothing => false
  | .arm n => 7 < n
  | .lane n => decide (port = .supervisor) && decide (3 < n)

/-- Check 6: a lane link's request names an arm of another lane. -/
def notItsArm (port : Port) (names : Names) : Bool :=
  match port, names with
  | .lane l, .arm n => n / 2 ≠ l.val
  | _, _ => false

/-- A response of R166 that precedes any reading of the request's fields: LOADING, then an outstanding
request, then a code the link does not accept (checks 1 to 3). -/
def State.frontCheck (s : State) (c : Caller) : Option Result :=
  match s.load with
  | .loading _ => some .notReady
  | _ =>
    if (s.port c.port).outstanding.isSome then some .linkBusy
    else if accepts c.port c.code then none
    else some .badRequest

/-- The first check of R166 that a request with well-sized fields fails. -/
def State.portCheck (s : State) (c : Caller) (names : Names) : Option Result :=
  match s.frontCheck c with
  | some r => some r
  | none =>
    if outOfRange c.port names then some .badField
    else if notItsArm c.port names then some .notYourArm
    else none

/-- The port's transmit queue holds 4 or more responses, so a complete frame is dropped (R168). -/
def State.flooded (s : State) (p : Port) : Bool := decide (4 ≤ (s.port p).transmit.length)

/-- A complete frame is taken as a request: dropped when the transmit queue is full, answered by R166, or
carried out by the request's own rule (R166, R168). -/
def State.takeRequest (s : State) (c : Caller) (names : Names) (serve : State → State) : State :=
  if s.flooded c.port then s
  else
    match s.portCheck c names with
    | some r => s.refuse c r
    | none => serve s

/-- The arm a request names, once check 5 has passed. -/
def armOf (n : Nat) : ArmId := Fin.ofNat 8 n

/-- The lane a record request concerns: the link's own, or the lane the supervisor names (R159). -/
def laneAsked (port : Port) (n : Nat) : LaneId :=
  match port with
  | .lane l => l
  | .supervisor => Fin.ofNat 4 n

/-! ## Ranges of the fields -/

/-- `n` lies within `lo` to `hi`. -/
def within (lo hi n : Nat) : Bool := decide (lo ≤ n) && decide (n ≤ hi)

/-- A character code of a name is 32 to 126 (Table 6-3). -/
def nameOk (n : Name) : Bool := n.toList.all fun c => within 32 126 c.toNat

/-- The ranges of Table 8-1. -/
def slotConfigOk (sc : SlotConfig) : Bool :=
  within 0 6 sc.code && within 100 20000 sc.strokeVolume && within 10 500 sc.pulseWidth &&
    within 50 2000 sc.verifyTimeout

/-- The calibration ranges of Table 4-1. -/
def calibrationOk (k : Calibration) : Bool :=
  decide (-10000 ≤ k.offset) && decide (k.offset ≤ 10000) && within 0 20000 k.span

/-- Two codes are the same non-zero code. -/
def clash (a b : Nat) : Bool := a == b && a != 0

/-- The fields of SET ARM CONFIG are all in range (R125, R174). -/
def armConfigOk (c : ArmConfig) : Bool :=
  within 10000 999999 c.factorG && within 10000 999999 c.factorE &&
    within 100 1000 c.trimPeriod && c.trimPeriod % 10 == 0 && within 500 10000 c.drainTime &&
    within 1 16 c.smoothing && within 20 500 c.pwmPeriod && c.slots.toList.all slotConfigOk &&
    !clash c.slots[0].code c.slots[1].code && !clash c.slots[0].code c.slots[2].code &&
    !clash c.slots[1].code c.slots[2].code && calibrationOk c.probeG && calibrationOk c.probeE

/-- The fields of SET WINDOW are all in range (Table 6-5, R94). -/
def windowFieldsOk (w : WindowFields) : Bool :=
  within 0 1 w.enable && within 0 255 w.base && within 0 255 w.mask && within 0 1 w.withheld &&
    within 0 2000 w.alphaG && within 100 6000 w.mainFlow && within 10 3600 w.holdLimit &&
    nameOk w.name

/-- The window that the fields of SET WINDOW set (R94). -/
def windowOf (w : WindowFields) : StraightWindow where
  enabled := w.enable == 1
  base := BitVec.ofNat 8 w.base
  mask := BitVec.ofNat 8 w.mask
  withheld := w.withheld == 1
  alphaG := w.alphaG
  mainFlow := w.mainFlow
  holdLimit := w.holdLimit
  name := w.name

/-- A plausibility limit of Table 4-1. -/
def plausibleLimit (t : Int) : Bool := decide (-4000 ≤ t) && decide (t ≤ 6000)

/-- The fields of SET SCAN are all in range and the low limit is not above the high (Table 4-1, R67). -/
def scanSettingsOk (k : ScanSettings) : Bool :=
  within 0 15 k.first && within 0 15 k.last && plausibleLimit k.low && plausibleLimit k.high &&
    decide (k.low ≤ k.high) && within 5 120 k.staleLimit

/-- The parameters are in the ranges of Table 6-4, with u_lo below u_hi, u0 between them and no non-zero
additive code twice (R92). -/
def paramsOk (p : Params) : Bool :=
  within 0 8500 p.target && within 0 200 p.tolerance && within 1000 500000 p.excursion &&
    within 0 2000000 p.flush && within 0 2000 p.alphaG && within 0 2000 p.alphaE &&
    within 0 4000 p.gain && within 1 2000 p.stepLimit && within 0 9999 p.uLo &&
    within 1 10000 p.uHi && decide (p.uLo < p.uHi) && within p.uLo p.uHi p.u0 &&
    within 1 255 p.nSat && within 0 2000000 p.lowStart && within 100 6000 p.lowFlow &&
    within 100 6000 p.mainFlow && within 0 2000000 p.topOffVolume &&
    within 100 6000 p.topOffFlow && within 10 3600 p.holdLimit && within 1 10 p.missLimit &&
    p.additives.toList.all (fun ad => within 0 6 ad.code && within 0 20000 ad.rate) &&
    !clash p.additives[0].code p.additives[1].code &&
    !clash p.additives[0].code p.additives[2].code &&
    !clash p.additives[1].code p.additives[2].code && within 0 2 p.precision

/-- A record of kind STRAIGHT holds f = 0, F = 0 and additive codes 0 (R91, R92). -/
def straightOk (p : Params) : Bool :=
  p.target == 0 && p.flush == 0 && p.additives.toList.all (fun ad => ad.code == 0)

/-- The fields of WRITE RECIPE are accepted (R92); kind 1 is STRAIGHT (R164). -/
def recipeFieldsOk (r : RecipeFields) : Bool :=
  within 0 1 r.valid && within 0 1 r.restricted && nameOk r.name && within 0 1 r.kind &&
    within 0 1 r.faultAction && paramsOk r.params && (r.kind == 0 || straightOk r.params)

/-- The record that WRITE RECIPE stores, with its dispensed flag clear (R92). -/
def recipeOf (r : RecipeFields) : RecipeRecord where
  valid := r.valid == 1
  restricted := r.restricted == 1
  dispensed := false
  name := r.name
  kind := if r.kind = 0 then .blend else .straight
  params := r.params
  faultAction := if r.faultAction = 0 then .hold else .flag

/-- The fields of WRITE DIRECTORY ENTRY are in range (Table 6-2, R92). -/
def entryFieldsOk (e : EntryFields) : Bool :=
  within 0 1 e.valid && within 0 1 e.restricted && within 0 63 e.page

/-- The entry that WRITE DIRECTORY ENTRY stores, with its used flag clear (R92). -/
def entryOf (e : EntryFields) : DirectoryEntry := ⟨e.valid == 1, e.restricted == 1, false, e.page⟩

end Sys2Proof.Machine
end

