-- ==== Sys2Proof/Machine/Resolve.lean ====
section
/-! DEFINITION. Recipe resolution: straight-product windows (R95), cache lookup (R112), the walk list
(R119 to R122), the restricted and additive checks (R98, R100), and the outcome handed to the arm (R28). -/

namespace Sys2Proof.Machine

open Sys2Proof

/-! ## Straight-product windows -/

/-- An enabled window matches a code that agrees with its base in every digit the mask leaves clear
(R95). -/
def StraightWindow.covers (w : StraightWindow) (product : Nat) : Bool :=
  w.enabled && decide ((BitVec.ofNat 8 product ^^^ w.base) &&& ~~~w.mask = 0)

/-- The governing window of a code: window 0 before window 1 (R95). -/
def State.governing (s : State) (product : Nat) : Option StraightWindow :=
  if s.windows[0].covers product then some s.windows[0]
  else if s.windows[1].covers product then some s.windows[1]
  else none

/-- The snapshot of a straight delivery (the table of R95). -/
def StraightWindow.snapshot (w : StraightWindow) : Snapshot where
  name := w.name
  kind := .straight
  params :=
    { blankParams with
      alphaG := w.alphaG
      stepLimit := 1
      uHi := 10000
      nSat := 255
      lowFlow := w.mainFlow
      mainFlow := w.mainFlow
      topOffFlow := w.mainFlow
      holdLimit := w.holdLimit
      missLimit := 1
      precision := 2 }
  faultAction := .flag
  excursionOn := false

/-- The snapshot of a recipe record (R28). -/
def snapshotOf (r : RecipeRecord) : Snapshot := ⟨r.name, r.kind, r.params, r.faultAction, true⟩

/-! ## Outcomes handed to an arm (R28) -/

/-- The outcome is a recipe: the snapshot is written, the arm enters AUTHORIZED, and the deferred response
of its lane link is OK with the resolved fields (R28). -/
def State.authorizeArm (s : State) (a : ArmId) (snap : Snapshot) (page : Option Nat) : State :=
  let s := s.setArm a fun arm =>
    { arm with batch := arm.batch.map fun b => { b with snapshot := some snap, page := page } }
  (s.toAuthorized a).settle (.lane (laneOf a)) (.authorize a) .ok (.recipe snap)

/-- The outcome is a failure: the reservation is given back, the arm becomes IDLE, and the deferred
response carries the result (R28). -/
def State.failArm (s : State) (a : ArmId) (result : Result) : State :=
  (s.toIdle a).settle (.lane (laneOf a)) (.authorize a) result .nothing

/-- The first additive check that fails, in parameter order (R100). -/
def State.additiveFailure (s : State) (c : ArmConfig) : List Additive → Option Result
  | [] => none
  | ad :: rest =>
    if ad.code = 0 then s.additiveFailure c rest
    else if (slotFor c ad.code).isNone then some .noInjector
    else if !s.codeInService ad.code then some .additiveUnavailable
    else s.additiveFailure c rest

/-- The failure of step 4 of resolution on the arm's state, if any: the restricted release, then the
additives (R96, R98, R100). -/
def State.stepFourFailure (s : State) (a : ArmId) (snap : Snapshot) (restricted : Bool) :
    Option Result :=
  if restricted && (s.arm a).release.isNone then some .restricted
  else
    match (s.arm a).config with
    | some c => s.additiveFailure c snap.params.additives.toList
    | none => some .noInjector

/-- Step 4 of resolution: a failure, or the recipe, which consumes the release of a restricted one (R96,
R98, R100). -/
def State.stepFour (s : State) (a : ArmId) (snap : Snapshot) (page : Nat) (restricted : Bool) :
    State :=
  match s.stepFourFailure a snap restricted with
  | some result => s.failArm a result
  | none =>
    let s := if restricted then s.setArm a fun arm => { arm with release := none } else s
    s.authorizeArm a snap (some page)

/-! ## The walk list -/

/-- An arm joins the walk of a key, or a new walk is made at the tail of the store queue (R120). -/
def State.joinWalk (s : State) (a : ArmId) (key : Key) : State :=
  if s.walks.any fun w => decide (w.key = key) then
    { s with walks := s.walks.map fun w =>
        if w.key = key then { w with waiters := w.waiters ++ [a] } else w }
  else State.askOp { s with walks := s.walks ++ [⟨key, false, [a]⟩] } (.walk key)

/-- An arm leaves the waiter sets: a WAITING walk left without waiters goes from the list and its WALK
from the store queue; a CURRENT one stays (R121). -/
def State.leaveWalks (s : State) (a : ArmId) : State :=
  let walks := s.walks.map fun w => { w with waiters := w.waiters.filter (· ≠ a) }
  let gone := walks.filter fun w => !w.current && w.waiters.isEmpty
  { s with
    walks := walks.filter fun w => w.current || !w.waiters.isEmpty
    storeQueue := s.storeQueue.filter fun q => !gone.any fun w => decide (q.op = .walk w.key) }

/-! ## Resolution (R96) -/

/-- Steps 1 to 4 of resolution for an arm that has just entered AUTHORIZING (R96). -/
def State.resolve (s : State) (a : ArmId) (key : Key) : State :=
  match s.governing key.product with
  | some w => if w.withheld then s.failArm a .withheld else s.authorizeArm a w.snapshot none
  | none =>
    let t := s.countLookup
    match s.cached key with
    | some e => t.stepFour a e.decoded e.page e.restricted
    | none => t.joinWalk a key

/-- A walk's outcome handed to one waiter (R97, R106, R122). -/
def State.handOutcome (o : WalkOutcome) (s : State) (a : ArmId) : State :=
  match o with
  | .record r page restricted => s.stepFour a (snapshotOf r) page restricted
  | .unknownProduct => s.failArm a .unknownProduct
  | .noRecipe => s.failArm a .noRecipe
  | .storeFault => (s.setFlag a .store).failArm a .storeFault

/-- The waiters of a key's walk. -/
def State.waitersOf (s : State) (key : Key) : List ArmId :=
  match s.walks.find? fun w => decide (w.key = key) with
  | some w => w.waiters
  | none => []

/-- The cache after a walk: a record outcome fills an entry (R114). -/
def State.fillFrom (s : State) (key : Key) (o : WalkOutcome) : State :=
  match o with
  | .record r page restricted => s.fillCache ⟨key, page, restricted, r.dispensed, snapshotOf r⟩
  | _ => s

end Sys2Proof.Machine
end

