-- ==== Sys2Proof/Machine/LaneRequests.lean ====
section
/-! DEFINITION. The requests that run a batch: AUTHORIZE, START, STOP, RESUME, END and ABORT (R27, R31,
R32, R37, R39, R40, R43). `serve…` is the request's own rule, `ask…` the request taken by its port, and
`exec…` the command. -/

namespace Sys2Proof.Machine

open Sys2Proof

/-! ## AUTHORIZE -/

/-- The batch context an arm starts to form at AUTHORIZE (R28). -/
def newBatch (key : Key) (preset : Nat) : Batch where
  key := key
  preset := preset
  snapshot := none
  page := none
  fixed := none
  number := none
  ending := none
  figures := Figures.zero

/-- The first test of R27 that refuses an AUTHORIZE, with its result. -/
def State.authorizeRefusal (s : State) (a : ArmId) (package preset : Nat) : Option Result :=
  if (s.arm a).state ≠ .idle then some .wrongState
  else if s.restartPending then some .notReady
  else if s.load = .loadFailed then some .storeFault
  else if (s.arm a).config.isNone then some .notConfigured
  else if !(s.arm a).authorizable then some .faultPending
  else if !s.placeFree (laneOf a) then some .recordsFull
  else if !(within 50000 60000000 preset && within 0 15 package) then some .badField
  else none

/-- AUTHORIZE: refused, or the arm holds its reservation, enters AUTHORIZING, and resolution begins (R27,
R28). -/
def serveAuthorize (c : Caller) (a : ArmId) (product package preset : Nat) (s : State) : State :=
  match s.authorizeRefusal a package preset with
  | some r => s.refuse c r
  | none =>
    let s := s.setArm a fun arm =>
      { arm with
        state := .authorizing
        reserved := true
        batch := some (newBatch ⟨product, package⟩ preset) }
    (s.holdOutstanding c (.authorize a)).resolve a ⟨product, package⟩

/-- AUTHORIZE taken by its port. -/
def askAuthorize (c : Caller) (arm : Nat) (product : Fin 256) (package preset : Nat) (s : State) :
    State :=
  s.takeRequest c (.arm arm) (serveAuthorize c (armOf arm) product.val package preset)

/-- AUTHORIZE (R27, R28). -/
def execAuthorize (port : Port) (tag : Byte) (arm : Nat) (product : Fin 256) (package preset : Nat)
    (s : State) : Host.Outcome State Fault Refusal :=
  .next (askAuthorize ⟨port, tag, 0x01⟩ arm product package preset s)

/-! ## START -/

/-- START taken for an arm with its snapshot: the authorize timer stops and the fixed quantities are
formed, with FLUSH_REDUCED set or clear (R3, R32). -/
def Arm.fix (arm : Arm) (fx : Fixed) (reduced : Bool) : Arm :=
  { arm with
    authorizeTimer := none
    batch := arm.batch.map fun b =>
      { b with
        fixed := some fx
        figures := { b.figures with markers := { b.figures.markers with flushReduced := reduced } } } }

/-- An arm joins the tail of the header queue and enters WAITING_HEADER (R144 case 4, R146). -/
def State.joinHeader (s : State) (a : ArmId) (request minimum : Nat) : State :=
  let place : HeaderPlace := ⟨a, request, minimum⟩
  let s := { s with header := { s.header with queue := s.header.queue ++ [place] } }
  s.setArm a fun arm => { arm.setMeters Meter.clearIdle with state := .waitingHeader }

/-- The Header Allotment's answer to START: admission, or a place at the tail of its queue (R144). -/
def State.askGrant (s : State) (a : ArmId) (snap : Snapshot) (fx : Fixed) : State :=
  let request := headerRequest snap fx.fraction
  let minimum := headerMinimum snap fx.fraction
  match s.header.answer request minimum fx.fraction with
  | some g => s.admission a g
  | none => s.joinHeader a request minimum

/-- START (R32). An AUTHORIZED arm always holds a snapshot; without one the request is refused as in a
state that does not allow it. -/
def serveStart (c : Caller) (a : ArmId) (s : State) : State :=
  if (s.arm a).state ≠ .authorized then s.refuse c .wrongState
  else if !(s.arm a).permissive then s.refuse c .notPermitted
  else
    match (s.arm a).batch, (s.arm a).snapshot with
    | some b, some snap =>
      let fx := fixedQuantities b.preset snap.params
      let s := s.setArm a (·.fix fx (decide (fx.flush < snap.params.flush)))
      let s := s.askGrant a snap fx
      s.reply c .ok (.armState (s.arm a).state)
    | _, _ => s.refuse c .wrongState

/-- START taken by its port. -/
def askStart (c : Caller) (arm : Nat) (s : State) : State :=
  s.takeRequest c (.arm arm) (serveStart c (armOf arm))

/-- START (R32). -/
def execStart (port : Port) (tag : Byte) (arm : Nat) (s : State) :
    Host.Outcome State Fault Refusal :=
  .next (askStart ⟨port, tag, 0x02⟩ arm s)

/-! ## STOP -/

/-- The hold cause a STOP adds, by its link (R37). -/
def stopCause : Port → HoldCause
  | .lane _ => .lane
  | .supervisor => .supervisor

/-- STOP (R37). -/
def serveStop (c : Caller) (a : ArmId) (s : State) : State :=
  if (s.arm a).state.underway then (s.addCause a (stopCause c.port)).done c
  else s.refuse c .wrongState

/-- STOP taken by its port. -/
def askStop (c : Caller) (arm : Nat) (s : State) : State :=
  s.takeRequest c (.arm arm) (serveStop c (armOf arm))

/-- STOP (R37). -/
def execStop (port : Port) (tag : Byte) (arm : Nat) (s : State) :
    Host.Outcome State Fault Refusal :=
  .next (askStop ⟨port, tag, 0x03⟩ arm s)

/-! ## RESUME -/

/-- The first condition of Table 2-6 that fails, with its result (R39). -/
def State.resumeRefusal (s : State) (a : ArmId) : Option Result :=
  if !(s.arm a).permissive then some .notPermitted
  else if !(s.arm a).metersClear then some .faultPending
  else if ((s.arm a).snapshot.map fun snap => !s.additivesInService snap).getD false then
    some .additiveUnavailable
  else none

/-- A lane RESUME removes every cause but SUPERVISOR, all or none (R39). -/
def laneResume (c : Caller) (a : ArmId) (s : State) : State :=
  match s.resumeRefusal a with
  | some r => s.refuse c r
  | none => (s.leaveCauses a ((s.arm a).causes &&& HoldSet.only .supervisor)).done c

/-- A supervisor RESUME removes SUPERVISOR (R40). -/
def supervisorResume (c : Caller) (a : ArmId) (s : State) : State :=
  if HoldSet.has (s.arm a).causes .supervisor then
    (s.leaveCauses a (HoldSet.drop (s.arm a).causes .supervisor)).done c
  else s.done c

/-- RESUME (R39, R40). -/
def serveResume (c : Caller) (a : ArmId) (s : State) : State :=
  if (s.arm a).state.isHeld then
    match c.port with
    | .lane _ => laneResume c a s
    | .supervisor => supervisorResume c a s
  else s.refuse c .wrongState

/-- RESUME taken by its port. -/
def askResume (c : Caller) (arm : Nat) (s : State) : State :=
  s.takeRequest c (.arm arm) (serveResume c (armOf arm))

/-- RESUME (R39, R40). -/
def execResume (port : Port) (tag : Byte) (arm : Nat) (s : State) :
    Host.Outcome State Fault Refusal :=
  .next (askResume ⟨port, tag, 0x04⟩ arm s)

/-! ## END -/

/-- END (R43). -/
def serveEnd (c : Caller) (a : ArmId) (s : State) : State :=
  if (s.arm a).state.underway then (s.enterClosing a ⟨.short, none⟩).done c
  else s.refuse c .wrongState

/-- END taken by its port. -/
def askEnd (c : Caller) (arm : Nat) (s : State) : State :=
  s.takeRequest c (.arm arm) (serveEnd c (armOf arm))

/-- END (R43). -/
def execEndBatch (port : Port) (tag : Byte) (arm : Nat) (s : State) :
    Host.Outcome State Fault Refusal :=
  .next (askEnd ⟨port, tag, 0x05⟩ arm s)

/-! ## ABORT -/

/-- The abort cause of an ABORT, by its link (R43). -/
def abortCauseOf : Port → AbortCause
  | .lane _ => .lane
  | .supervisor => .supervisor

/-- ABORT of an arm that has been authorized and not admitted, with what its state adds (R31). -/
def State.abortAuthorizing (s : State) (a : ArmId) : State :=
  ((s.leaveWalks a).toIdle a).settle (.lane (laneOf a)) (.authorize a) .aborted .nothing

/-- ABORT (R31, R43). -/
def serveAbort (c : Caller) (a : ArmId) (s : State) : State :=
  match (s.arm a).state with
  | .idle => s.refuse c .wrongState
  | .authorizing => (s.abortAuthorizing a).done c
  | .authorized => (s.toIdle a).done c
  | .waitingHeader => ((s.leaveQueue a).toIdle a).done c
  | .closing => s.done c
  | .delivering => (s.enterClosing a ⟨.aborted, some (abortCauseOf c.port)⟩).done c
  | .flushing => (s.enterClosing a ⟨.aborted, some (abortCauseOf c.port)⟩).done c
  | .held _ => (s.enterClosing a ⟨.aborted, some (abortCauseOf c.port)⟩).done c

/-- ABORT taken by its port. -/
def askAbort (c : Caller) (arm : Nat) (s : State) : State :=
  s.takeRequest c (.arm arm) (serveAbort c (armOf arm))

/-- ABORT (R31, R43). -/
def execAbort (port : Port) (tag : Byte) (arm : Nat) (s : State) :
    Host.Outcome State Fault Refusal :=
  .next (askAbort ⟨port, tag, 0x06⟩ arm s)

end Sys2Proof.Machine
end

