-- ==== Sys2Proof/Machine/StatusRequests.lean ====
section
/-! DEFINITION. The requests that lane and supervisor links share to read and acknowledge: ARM STATUS,
READ FLAGS, CLEAR FLAGS, READ RECORD, RELEASE RECORD and READ TOTALS (R170, R172, R173, R159, R160,
R152). -/

namespace Sys2Proof.Machine

open Sys2Proof

/-! ## ARM STATUS -/

/-- The remaining time ARM STATUS reports: the authorize timer in AUTHORIZED, the hold timer in HELD, the
drain timer in CLOSING, and 0 once the drain has expired (R25). -/
def State.reportedTime (s : State) (arm : Arm) : Option Nat :=
  match arm.state with
  | .authorized => s.remainingMs arm.authorizeTimer
  | .held _ => s.remainingMs arm.holdTimer
  | .closing => some ((s.remainingMs arm.drainTimer).getD 0)
  | _ => none

/-- The report of ARM STATUS (R170). -/
def State.statusReport (s : State) (a : ArmId) : StatusReport :=
  let arm := s.arm a
  { arm := a
    state := arm.state
    causes := arm.causes
    number := if arm.state.admitted then arm.batch.bind (·.number) else none
    ending := if arm.state = .closing then arm.batch.bind (·.ending) else none
    figures := if arm.state.admitted then arm.batch.map (·.figures) else none
    u := arm.u
    remaining := s.reportedTime arm
    flags := arm.flags }

/-- ARM STATUS (R170). -/
def serveArmStatus (c : Caller) (a : ArmId) (s : State) : State :=
  s.reply c .ok (.status (s.statusReport a))

/-- ARM STATUS taken by its port. -/
def askArmStatus (c : Caller) (arm : Nat) (s : State) : State :=
  s.takeRequest c (.arm arm) (serveArmStatus c (armOf arm))

/-- ARM STATUS, and READ ARM STATUS of the supervisor (R170). -/
def execArmStatus (port : Port) (tag : Byte) (arm : Nat) (s : State) :
    Host.Outcome State Fault Refusal :=
  .next (askArmStatus ⟨port, tag, 0x07⟩ arm s)

/-! ## READ FLAGS and CLEAR FLAGS -/

/-- A port's seen set for an arm becomes `fs` (R171, R172). -/
def State.setSeen (s : State) (p : Port) (a : ArmId) (fs : FlagSet) : State :=
  s.setPort p fun lp => { lp with seen := lp.seen.set a fs }

/-- READ FLAGS: the flags, with the overrun count to the supervisor alone, and the port's seen set for
the arm becomes the set reported (R82, R172). -/
def serveReadFlags (c : Caller) (a : ArmId) (s : State) : State :=
  let arm := s.arm a
  let overrun := if c.port = .supervisor then some arm.overrun else none
  (s.setSeen c.port a arm.flags).reply c .ok (.flags arm.flags overrun)

/-- READ FLAGS taken by its port. -/
def askReadFlags (c : Caller) (arm : Nat) (s : State) : State :=
  s.takeRequest c (.arm arm) (serveReadFlags c (armOf arm))

/-- READ FLAGS (R172). -/
def execReadFlags (port : Port) (tag : Byte) (arm : Nat) (s : State) :
    Host.Outcome State Fault Refusal :=
  .next (askReadFlags ⟨port, tag, 0x08⟩ arm s)

/-- The flags a CLEAR FLAGS clears: in the mask, in the port's seen set for the arm, and set (R173). -/
def State.clearable (s : State) (p : Port) (a : ArmId) (mask : FlagSet) : FlagSet :=
  (s.arm a).flags &&& mask &&& (s.port p).seen[a]

/-- CLEAR FLAGS: a mask with any of its five highest bits set is refused (R164); otherwise the clearable
flags are cleared, the seen set is emptied, and the supervisor's clearing of TRIM_OVERRUN sets the
overrun count to 0 (R82, R173). -/
def serveClearFlags (c : Caller) (a : ArmId) (mask : BitVec 16) (s : State) : State :=
  if mask.toNat ≥ 2048 then s.refuse c .badField
  else
    let gone := s.clearable c.port a (mask.truncate 11)
    let left := FlagSet.without (s.arm a).flags gone
    let s := s.setArm a fun arm =>
      { arm with
        flags := left
        overrun :=
          if c.port = .supervisor ∧ FlagSet.has gone .trimOverrun = true then 0 else arm.overrun }
    (s.setSeen c.port a 0).reply c .ok (.cleared gone left)

/-- CLEAR FLAGS taken by its port. -/
def askClearFlags (c : Caller) (arm : Nat) (mask : BitVec 16) (s : State) : State :=
  s.takeRequest c (.arm arm) (serveClearFlags c (armOf arm) mask)

/-- CLEAR FLAGS (R173). -/
def execClearFlags (port : Port) (tag : Byte) (arm : Nat) (mask : BitVec 16) (s : State) :
    Host.Outcome State Fault Refusal :=
  .next (askClearFlags ⟨port, tag, 0x09⟩ arm mask s)

/-! ## READ RECORD and RELEASE RECORD -/

/-- READ RECORD: the oldest record of the lane, or EMPTY (R159). -/
def serveReadRecord (c : Caller) (l : LaneId) (s : State) : State :=
  match s.lanes[l].records with
  | q :: _ => s.reply c .ok (.record q.record)
  | [] => s.refuse c .empty

/-- READ RECORD taken by its port. -/
def askReadRecord (c : Caller) (lane : Nat) (s : State) : State :=
  s.takeRequest c (.lane lane) (serveReadRecord c (laneAsked c.port lane))

/-- READ RECORD (R159). -/
def execReadRecord (port : Port) (tag : Byte) (lane : Nat) (s : State) :
    Host.Outcome State Fault Refusal :=
  .next (askReadRecord ⟨port, tag, 0x0A⟩ lane s)

/-- RELEASE RECORD: EMPTY, NOT_OLDEST, a RECORD_FREE of the oldest record's slot, or a join of the release
already pending, with the response deferred (R160). -/
def serveReleaseRecord (c : Caller) (l : LaneId) (number : Nat) (s : State) : State :=
  match s.lanes[l].records with
  | [] => s.refuse c .empty
  | q :: _ =>
    if q.record.number ≠ number then s.refuse c .notOldest
    else
      let t := s.holdOutstanding c (.release l)
      if s.lanes[l].releasePending then t
      else
        (t.setLane l fun lane => { lane with releasePending := true }).askOp (.recordFree l q.slot)

/-- RELEASE RECORD taken by its port. -/
def askReleaseRecord (c : Caller) (number lane : Nat) (s : State) : State :=
  s.takeRequest c (.lane lane) (serveReleaseRecord c (laneAsked c.port lane) number)

/-- RELEASE RECORD (R160). -/
def execReleaseRecord (port : Port) (tag : Byte) (number lane : Nat) (s : State) :
    Host.Outcome State Fault Refusal :=
  .next (askReleaseRecord ⟨port, tag, 0x0B⟩ number lane s)

/-! ## READ TOTALS -/

/-- READ TOTALS: the four totalizers, the unauthorized-pulse totals and the batch counter (R152). -/
def serveReadTotals (c : Caller) (a : ArmId) (s : State) : State :=
  s.reply c .ok (.totals a (s.arm a).figures s.batchCounter)

/-- READ TOTALS taken by its port. -/
def askReadTotals (c : Caller) (arm : Nat) (s : State) : State :=
  s.takeRequest c (.arm arm) (serveReadTotals c (armOf arm))

/-- READ TOTALS (R152). -/
def execReadTotals (port : Port) (tag : Byte) (arm : Nat) (s : State) :
    Host.Outcome State Fault Refusal :=
  .next (askReadTotals ⟨port, tag, 0x0C⟩ arm s)

end Sys2Proof.Machine
end

