-- ==== Sys2Proof/Machine/Settings.lean ====
section
/-! DEFINITION. The supervisor's settings: SET ARM CONFIG, SET HEADER CAPACITY, SET AUTHORIZE TIMEOUT, SET
WINDOW, SET ADDITIVE SERVICE, RELEASE RESTRICTED, READ HEADER, SET MONITOR, SET ALERT MODES and RESTART
(R174, R149, R175, R94, R137, R99, R150, R181, R179, R177). -/

namespace Sys2Proof.Machine

open Sys2Proof

/-! ## SET ARM CONFIG -/

/-- An arm takes a config, and its Valve Drive starts a new period (R140, R174). -/
def Arm.configure (arm : Arm) (config : ArmConfig) (now : Nat) : Arm :=
  { arm with
    config := some config
    valve := { arm.valve with applied := arm.valve.commanded, periodStart := some now } }

/-- SET ARM CONFIG (R174): ARM_BUSY, BAD_FIELD, or the new config with the arm's probe records set to NONE
(R74). -/
def serveSetArmConfig (c : Caller) (a : ArmId) (config : ArmConfig) (s : State) : State :=
  if (s.arm a).state ≠ .idle then s.refuse c .armBusy
  else if !armConfigOk config then s.refuse c .badField
  else
    let s := s.setArm a (·.configure config s.now)
    let s := s.setProbe (channelOf a .gasoline) fun _ => ProbeRecord.reset
    let s := s.setProbe (channelOf a .ethanol) fun _ => ProbeRecord.reset
    s.done c

/-- SET ARM CONFIG taken by its port. -/
def askSetArmConfig (c : Caller) (arm : Nat) (config : ArmConfig) (s : State) : State :=
  s.takeRequest c (.arm arm) (serveSetArmConfig c (armOf arm) config)

/-- SET ARM CONFIG (R174). -/
def execSetArmConfig (port : Port) (tag : Byte) (arm : Nat) (config : ArmConfig) (s : State) :
    Host.Outcome State Fault Refusal :=
  .next (askSetArmConfig ⟨port, tag, 0x20⟩ arm config s)

/-! ## SET HEADER CAPACITY and READ HEADER -/

/-- The header capacity becomes `capacity`, with a head examination on a raise (R149). -/
def State.setCapacity (s : State) (capacity : Nat) : State :=
  let t := { s with header := { s.header with capacity := capacity } }
  if s.header.capacity < capacity then t.examine else t

/-- SET HEADER CAPACITY (R149). -/
def serveSetHeaderCapacity (c : Caller) (capacity : Nat) (s : State) : State :=
  if 20000 < capacity then s.refuse c .badField
  else if capacity < s.header.granted then s.refuse c .capacityInUse
  else (s.setCapacity capacity).done c

/-- SET HEADER CAPACITY taken by its port. -/
def askSetHeaderCapacity (c : Caller) (capacity : Nat) (s : State) : State :=
  s.takeRequest c .nothing (serveSetHeaderCapacity c capacity)

/-- SET HEADER CAPACITY (R149). -/
def execSetHeaderCapacity (port : Port) (tag : Byte) (capacity : Nat) (s : State) :
    Host.Outcome State Fault Refusal :=
  .next (askSetHeaderCapacity ⟨port, tag, 0x21⟩ capacity s)

/-- READ HEADER taken by its port: H, the grant table and the header queue (R150). -/
def askReadHeader (c : Caller) (s : State) : State :=
  s.takeRequest c .nothing fun s => s.reply c .ok (.header s.header)

/-- READ HEADER (R150). -/
def execReadHeader (port : Port) (tag : Byte) (s : State) : Host.Outcome State Fault Refusal :=
  .next (askReadHeader ⟨port, tag, 0x26⟩ s)

/-! ## SET AUTHORIZE TIMEOUT -/

/-- SET AUTHORIZE TIMEOUT (R175). -/
def serveSetAuthorizeTimeout (c : Caller) (seconds : Nat) (s : State) : State :=
  if within 10 600 seconds then State.done { s with authorizeTimeout := seconds } c
  else s.refuse c .badField

/-- SET AUTHORIZE TIMEOUT taken by its port. -/
def askSetAuthorizeTimeout (c : Caller) (seconds : Nat) (s : State) : State :=
  s.takeRequest c .nothing (serveSetAuthorizeTimeout c seconds)

/-- SET AUTHORIZE TIMEOUT (R175). -/
def execSetAuthorizeTimeout (port : Port) (tag : Byte) (seconds : Nat) (s : State) :
    Host.Outcome State Fault Refusal :=
  .next (askSetAuthorizeTimeout ⟨port, tag, 0x22⟩ seconds s)

/-! ## SET WINDOW -/

/-- SET WINDOW: the named window takes all the fields, or BAD_FIELD (R94). -/
def serveSetWindow (c : Caller) (window : Nat) (fields : WindowFields) (s : State) : State :=
  if within 0 1 window && windowFieldsOk fields then
    State.done { s with windows := s.windows.set (Fin.ofNat 2 window) (windowOf fields) } c
  else s.refuse c .badField

/-- SET WINDOW taken by its port. -/
def askSetWindow (c : Caller) (window : Nat) (fields : WindowFields) (s : State) : State :=
  s.takeRequest c .nothing (serveSetWindow c window fields)

/-- SET WINDOW (R94). -/
def execSetWindow (port : Port) (tag : Byte) (window : Nat) (fields : WindowFields) (s : State) :
    Host.Outcome State Fault Refusal :=
  .next (askSetWindow ⟨port, tag, 0x23⟩ window fields s)

/-! ## SET ADDITIVE SERVICE -/

/-- An arm's snapshot holds an additive code (R138). -/
def Arm.usesCode (arm : Arm) (code : Nat) : Bool :=
  match arm.snapshot with
  | some snap => snap.params.additives.toList.any (·.code == code)
  | none => false

/-- A code goes out of service: arms that deliver, flush or are held with it take cause ADDITIVE (R138). -/
def State.outOfService (s : State) (code : Nat) : State :=
  let s := { s with inService := s.inService.set (Fin.ofNat 6 (code - 1)) false }
  allArms.foldl (fun s a => s.addCauseIf ((s.arm a).usesCode code) a .additive) s

/-- A code returns to service: slots whose start conditions now hold start a stroke (R127, R138). -/
def State.backInService (s : State) (code : Nat) : State :=
  allArms.foldl State.tryStrokes
    { s with inService := s.inService.set (Fin.ofNat 6 (code - 1)) true }

/-- SET ADDITIVE SERVICE; setting 0 is in service and 1 out of service (R137, R164). -/
def serveSetAdditiveService (c : Caller) (code setting : Nat) (s : State) : State :=
  if !(within 1 6 code && within 0 1 setting) then s.refuse c .badField
  else if s.codeInService code = decide (setting = 0) then s.done c
  else if setting = 0 then (s.backInService code).done c
  else (s.outOfService code).done c

/-- SET ADDITIVE SERVICE taken by its port. -/
def askSetAdditiveService (c : Caller) (code setting : Nat) (s : State) : State :=
  s.takeRequest c .nothing (serveSetAdditiveService c code setting)

/-- SET ADDITIVE SERVICE (R137, R138). -/
def execSetAdditiveService (port : Port) (tag : Byte) (code setting : Nat) (s : State) :
    Host.Outcome State Fault Refusal :=
  .next (askSetAdditiveService ⟨port, tag, 0x24⟩ code setting s)

/-! ## RELEASE RESTRICTED -/

/-- RELEASE RESTRICTED: the release is granted and its lapse timer starts at 300 s (R99). -/
def serveReleaseRestricted (c : Caller) (a : ArmId) (s : State) : State :=
  (s.setArm a fun arm => { arm with release := s.timerMs 300000 }).done c

/-- RELEASE RESTRICTED taken by its port. -/
def askReleaseRestricted (c : Caller) (arm : Nat) (s : State) : State :=
  s.takeRequest c (.arm arm) (serveReleaseRestricted c (armOf arm))

/-- RELEASE RESTRICTED (R99). -/
def execReleaseRestricted (port : Port) (tag : Byte) (arm : Nat) (s : State) :
    Host.Outcome State Fault Refusal :=
  .next (askReleaseRestricted ⟨port, tag, 0x25⟩ arm s)

/-! ## SET MONITOR and SET ALERT MODES -/

/-- The selection of a mode, OFF, TRIM and PROBES coded 0, 1 and 2 (R181). -/
def monitorSelection (mode : Nat) (a : ArmId) : MonitorSelection :=
  if mode = 0 then .off else if mode = 1 then .trim a else .probes

/-- SET MONITOR: BAD_FIELD, or the five steps of R181 with the overflow indication in the response. -/
def serveSetMonitor (c : Caller) (mode : Nat) (a : ArmId) (s : State) : State :=
  if 2 < mode then s.refuse c .badField
  else
    State.reply
      { s with monitor :=
        { s.monitor with
          queue := []
          overflow := false
          running := true
          parameter := 0
          selection := monitorSelection mode a } }
      c .ok (.overflow s.monitor.overflow)

/-- SET MONITOR taken by its port; its arm field is checked in every mode (R181). -/
def askSetMonitor (c : Caller) (mode arm : Nat) (s : State) : State :=
  s.takeRequest c (.arm arm) (serveSetMonitor c mode (armOf arm))

/-- SET MONITOR (R181). -/
def execSetMonitor (port : Port) (tag : Byte) (mode arm : Nat) (s : State) :
    Host.Outcome State Fault Refusal :=
  .next (askSetMonitor ⟨port, tag, 0x48⟩ mode arm s)

/-- SET ALERT MODES: a selection byte with any of its three highest bits set is refused; otherwise the
lane's selection is replaced (R179). -/
def serveSetAlertModes (c : Caller) (l : LaneId) (selection : Byte) (s : State) : State :=
  if 32 ≤ selection.toNat then s.refuse c .badField
  else (s.setLane l fun lane => { lane with alertSelection := selection.truncate 5 }).done c

/-- SET ALERT MODES taken by its port. -/
def askSetAlertModes (c : Caller) (lane : Nat) (selection : Byte) (s : State) : State :=
  s.takeRequest c (.lane lane) (serveSetAlertModes c (laneAsked c.port lane) selection)

/-- SET ALERT MODES (R179). -/
def execSetAlertModes (port : Port) (tag : Byte) (lane : Nat) (selection : Byte) (s : State) :
    Host.Outcome State Fault Refusal :=
  .next (askSetAlertModes ⟨port, tag, 0x49⟩ lane selection s)

/-! ## RESTART -/

/-- Every arm is IDLE (R177). -/
def State.allIdle (s : State) : Bool := allArms.all fun a => decide ((s.arm a).state = .idle)

/-- RESTART: ARMS_ACTIVE, or a pending restart that carries out the current and waiting operations; with
none to carry, the reset follows at once (R110, R177). A conversion in flight is abandoned without a result
(R77). -/
def serveRestart (c : Caller) (s : State) : State :=
  if s.allIdle then
    State.advanceStore { (s.setConversion none).holdOutstanding c .restart with
      restartPending := true
      storeQueue := s.storeQueue.map fun q => { q with carried := true } }
  else s.refuse c .armsActive

/-- RESTART taken by its port. -/
def askRestart (c : Caller) (s : State) : State := s.takeRequest c .nothing (serveRestart c)

/-- RESTART (R177). -/
def execRestart (port : Port) (tag : Byte) (s : State) : Host.Outcome State Fault Refusal :=
  .next (askRestart ⟨port, tag, 0x7F⟩ s)

end Sys2Proof.Machine
end

