-- ==== Sys2Proof/Machine/RecipeRequests.lean ====
section
/-! DEFINITION. The supervisor's recipe and scanner requests: reads and writes of directory entries and
recipe records, FLUSH ALL, FLUSH PRODUCT, CLEAR USAGE (R92, R93, R102, R116), SET SCAN, START SCAN, STOP
SCAN and READ PROBES (R66, R67, R76). -/

namespace Sys2Proof.Machine

open Sys2Proof

/-- A supervisor store operation is queued and its response deferred (R92, R93, R102, R167). -/
def State.deferStore (s : State) (c : Caller) (op : StoreOp) : State :=
  (s.holdOutstanding c .store).askOp op

/-- A supervisor store operation with its range check (R92, R93, R102). -/
def serveStore (c : Caller) (inRange : Bool) (op : StoreOp) (s : State) : State :=
  if inRange then s.deferStore c op else s.refuse c .badField

/-- READ DIRECTORY ENTRY taken by its port (R93). -/
def askReadDirectoryEntry (c : Caller) (product : Nat) (s : State) : State :=
  s.takeRequest c .nothing (serveStore c (within 0 255 product) (.readEntry product))

/-- READ DIRECTORY ENTRY (R93). -/
def execReadDirectoryEntry (port : Port) (tag : Byte) (product : Nat) (s : State) :
    Host.Outcome State Fault Refusal :=
  .next (askReadDirectoryEntry ⟨port, tag, 0x30⟩ product s)

/-- WRITE DIRECTORY ENTRY taken by its port (R92). -/
def askWriteDirectoryEntry (c : Caller) (product : Nat) (fields : EntryFields) (s : State) : State :=
  s.takeRequest c .nothing
    (serveStore c (within 0 255 product && entryFieldsOk fields) (.writeEntry product (entryOf fields)))

/-- WRITE DIRECTORY ENTRY (R92). -/
def execWriteDirectoryEntry (port : Port) (tag : Byte) (product : Nat) (fields : EntryFields)
    (s : State) : Host.Outcome State Fault Refusal :=
  .next (askWriteDirectoryEntry ⟨port, tag, 0x31⟩ product fields s)

/-- The page and package of a recipe request are in range (R92, R93). -/
def recipeSelectorOk (page package : Nat) : Bool := within 0 63 page && within 0 15 package

/-- READ RECIPE taken by its port (R93). -/
def askReadRecipe (c : Caller) (page package : Nat) (s : State) : State :=
  s.takeRequest c .nothing (serveStore c (recipeSelectorOk page package) (.readRecipe page package))

/-- READ RECIPE (R93). -/
def execReadRecipe (port : Port) (tag : Byte) (page package : Nat) (s : State) :
    Host.Outcome State Fault Refusal :=
  .next (askReadRecipe ⟨port, tag, 0x32⟩ page package s)

/-- WRITE RECIPE taken by its port (R92). -/
def askWriteRecipe (c : Caller) (page package : Nat) (fields : RecipeFields) (s : State) : State :=
  s.takeRequest c .nothing
    (serveStore c (recipeSelectorOk page package && recipeFieldsOk fields)
      (.writeRecipe page package (recipeOf fields)))

/-- WRITE RECIPE (R92). -/
def execWriteRecipe (port : Port) (tag : Byte) (page package : Nat) (fields : RecipeFields)
    (s : State) : Host.Outcome State Fault Refusal :=
  .next (askWriteRecipe ⟨port, tag, 0x33⟩ page package fields s)

/-- FLUSH ALL taken by its port: every entry invalid (R116). -/
def askFlushAll (c : Caller) (s : State) : State :=
  s.takeRequest c .nothing fun s => (s.invalidate fun _ => true).done c

/-- FLUSH ALL (R116). -/
def execFlushAll (port : Port) (tag : Byte) (s : State) : Host.Outcome State Fault Refusal :=
  .next (askFlushAll ⟨port, tag, 0x34⟩ s)

/-- Every entry of a product invalid (R116, R117, R118). -/
def State.flushProduct (s : State) (product : Nat) : State :=
  s.invalidate fun e => e.key.product == product

/-- FLUSH PRODUCT taken by its port (R116). -/
def askFlushProduct (c : Caller) (product : Nat) (s : State) : State :=
  s.takeRequest c .nothing fun s =>
    if within 0 255 product then (s.flushProduct product).done c else s.refuse c .badField

/-- FLUSH PRODUCT (R116). -/
def execFlushProduct (port : Port) (tag : Byte) (product : Nat) (s : State) :
    Host.Outcome State Fault Refusal :=
  .next (askFlushProduct ⟨port, tag, 0x35⟩ product s)

/-- CLEAR USAGE taken by its port (R102). -/
def askClearUsage (c : Caller) (product : Nat) (s : State) : State :=
  s.takeRequest c .nothing (serveStore c (within 0 255 product) (.usageClear product))

/-- CLEAR USAGE (R102). -/
def execClearUsage (port : Port) (tag : Byte) (product : Nat) (s : State) :
    Host.Outcome State Fault Refusal :=
  .next (askClearUsage ⟨port, tag, 0x36⟩ product s)

/-! ## The scanner -/

/-- The scanner's settings replaced. -/
def State.setScanSettings (s : State) (k : ScanSettings) : State :=
  { s with scanner := { s.scanner with settings := k } }

/-- SET SCAN (R67). -/
def serveSetScan (c : Caller) (k : ScanSettings) (s : State) : State :=
  if s.scanner.conversion.isSome then s.refuse c .scanRunning
  else if !scanSettingsOk k then s.refuse c .badField
  else (s.setScanSettings k).done c

/-- SET SCAN taken by its port. -/
def askSetScan (c : Caller) (k : ScanSettings) (s : State) : State :=
  s.takeRequest c .nothing (serveSetScan c k)

/-- SET SCAN (R67). -/
def execSetScan (port : Port) (tag : Byte) (settings : ScanSettings) (s : State) :
    Host.Outcome State Fault Refusal :=
  .next (askSetScan ⟨port, tag, 0x40⟩ settings s)

/-- START SCAN: a STOPPED scanner begins a conversion of the start channel (R66). -/
def serveStartScan (c : Caller) (s : State) : State :=
  if s.scanner.conversion.isSome then s.done c
  else (s.setConversion (some ⟨Fin.ofNat 16 s.scanner.settings.first, s.now⟩)).done c

/-- START SCAN taken by its port. -/
def askStartScan (c : Caller) (s : State) : State := s.takeRequest c .nothing (serveStartScan c)

/-- START SCAN (R66). -/
def execStartScan (port : Port) (tag : Byte) (s : State) : Host.Outcome State Fault Refusal :=
  .next (askStartScan ⟨port, tag, 0x41⟩ s)

/-- STOP SCAN taken by its port: the conversion in flight is abandoned (R66). -/
def askStopScan (c : Caller) (s : State) : State :=
  s.takeRequest c .nothing fun s => (s.setConversion none).done c

/-- STOP SCAN (R66). -/
def execStopScan (port : Port) (tag : Byte) (s : State) : Host.Outcome State Fault Refusal :=
  .next (askStopScan ⟨port, tag, 0x42⟩ s)

/-- One channel's part of the READ PROBES report: T_last is absent in NONE (R76). -/
def State.probeReport (s : State) (p : ProbeRecord) : ProbeReport where
  state := p.state
  rejects := p.rejects
  last := if p.state = .none then none else p.last
  remaining := s.remainingMs p.staleTimer

/-- READ PROBES taken by its port (R76). -/
def askReadProbes (c : Caller) (s : State) : State :=
  s.takeRequest c .nothing fun s =>
    s.reply c .ok (.probes s.scanner.conversion.isSome s.scanner.settings
      (s.scanner.records.toList.map s.probeReport))

/-- READ PROBES (R76). -/
def execReadProbes (port : Port) (tag : Byte) (s : State) : Host.Outcome State Fault Refusal :=
  .next (askReadProbes ⟨port, tag, 0x43⟩ s)

end Sys2Proof.Machine
end

