-- ==== Sys2Proof/Machine/FieldEvents.lean ====
section
/-! DEFINITION. The events of the field lines and of the arm's timers: meter pulses (R52, R54, R60), the
permissive input (R37), the authorize, hold, drain and window timers (R30, R38, R46, R79), the BAU (R84),
the head examination (R148) and the restricted release's lapse (R99). An event whose timer is stopped or
whose condition does not hold cannot occur, and its command changes nothing (log entry 7). -/

namespace Sys2Proof.Machine

open Sys2Proof

/-! ## Meter pulses -/

/-- A channel A pulse in WINDOW_COUNT: counted, or lost at 65535 with the marker PULSE_SATURATED (R54). -/
def Arm.countWindowA (arm : Arm) (c : Component) : Arm :=
  if 65535 ≤ (arm.meter c).countA then arm.markSaturated
  else arm.setMeter c fun m => { m with countA := m.countA + 1 }

/-- A channel A pulse restarts the drain timer of a CLOSING arm while it runs (R46, R54). -/
def Arm.restartDrain (arm : Arm) (now : Nat) : Arm :=
  if arm.state = .closing ∧ arm.drainTimer.isSome = true then
    { arm with drainTimer := arm.config.map fun c => now + c.drainTime * 1000 }
  else arm

/-- A meter's channel A pulse in IDLE_COUNT (R60, R62). -/
def Meter.countIdle (m : Meter) : Meter :=
  { m with
    idleCount := if 10 ≤ m.idleCount + 1 then 0 else m.idleCount + 1
    unauthorized := wrapPulses (m.unauthorized + 1) }

/-- A channel A pulse in IDLE_COUNT; the tenth sets UNAUTH_FLOW and asks for a CHECKPOINT (R60, R61). -/
def State.idlePulse (s : State) (a : ArmId) (c : Component) : State :=
  let t := s.setArm a (·.setMeter c Meter.countIdle)
  if 10 ≤ ((s.arm a).meter c).idleCount + 1 then (t.setFlag a .unauthFlow).askCheckpoint a else t

/-- A channel A pulse (R52). -/
def State.pulseA (s : State) (a : ArmId) (c : Component) : State :=
  match ((s.arm a).meter c).mode with
  | .windowCount => s.setArm a fun arm => (arm.countWindowA c).restartDrain s.now
  | .idleCount => s.idlePulse a c

/-- METER_PULSE_A (R52, R54, R60). -/
def execMeterPulseA (arm : ArmId) (meter : Component) (s : State) :
    Host.Outcome State Fault Refusal :=
  .next (s.pulseA arm meter)

/-- A meter's channel B pulse: counted in WINDOW_COUNT up to 65535, and not counted in IDLE_COUNT (R52,
R54). -/
def Meter.pulseB (m : Meter) : Meter :=
  match m.mode with
  | .windowCount => { m with countB := hold16 (m.countB + 1) }
  | .idleCount => m

/-- METER_PULSE_B (R52, R54). -/
def execMeterPulseB (arm : ArmId) (meter : Component) (s : State) :
    Host.Outcome State Fault Refusal :=
  .next (s.setArm arm (·.setMeter meter Meter.pulseB))

/-! ## The permissive input -/

/-- What the loss of the permissive does to the arm (R33, R37). -/
def State.losePermissive (s : State) (a : ArmId) : State :=
  match (s.arm a).state with
  | .waitingHeader => (s.leaveQueue a).toAuthorized a
  | _ => s.addCause a .permissive

/-- PERMISSIVE_LOST: the input goes from present to absent (R33, R37). -/
def execPermissiveLost (arm : ArmId) (s : State) : Host.Outcome State Fault Refusal :=
  .next
    (if (s.arm arm).permissive then
      (s.setArm arm fun x => { x with permissive := false }).losePermissive arm
    else s)

/-- PERMISSIVE_RETURNS: the input goes from absent to present and clears nothing (R37). -/
def execPermissiveReturns (arm : ArmId) (s : State) : Host.Outcome State Fault Refusal :=
  .next (s.setArm arm fun x => { x with permissive := true })

/-! ## Arm timers -/

/-- The authorize timer expires in AUTHORIZED (R30). -/
def State.authorizeExpiry (s : State) (a : ArmId) : State :=
  match (s.arm a).state, (s.arm a).authorizeTimer with
  | .authorized, some d => (s.reach d).toIdle a
  | _, _ => s

/-- AUTHORIZE_TIMER_EXPIRY (R30). -/
def execAuthorizeTimerExpiry (arm : ArmId) (s : State) : Host.Outcome State Fault Refusal :=
  .next (s.authorizeExpiry arm)

/-- The hold timer expires in HELD (R38). -/
def State.holdExpiry (s : State) (a : ArmId) : State :=
  match (s.arm a).state, (s.arm a).holdTimer with
  | .held _, some d => (s.reach d).enterClosing a ⟨.aborted, some .holdTimeout⟩
  | _, _ => s

/-- HOLD_TIMER_EXPIRY (R38). -/
def execHoldTimerExpiry (arm : ArmId) (s : State) : Host.Outcome State Fault Refusal :=
  .next (s.holdExpiry arm)

/-- The duration of the final window: from the window start to now in whole milliseconds, floor (R83). -/
def State.finalDuration (s : State) (a : ArmId) : Nat :=
  match (s.arm a).windowStart with
  | some t => (s.now - t) / 1000
  | none => 0

/-- An arm from its drain expiry: meters in IDLE_COUNT, drain and window timers stopped (R53, R83). -/
def Arm.drained (arm : Arm) : Arm :=
  { arm.setMeters Meter.toIdleCount with
    drainTimer := none
    windowTimer := none
    windowStart := none }

/-- The drain timer expires in CLOSING: the final window closes (R46, R83). -/
def State.drainExpires (s : State) (a : ArmId) : State :=
  match (s.arm a).state, (s.arm a).drainTimer with
  | .closing, some d =>
    let s := s.reach d
    (s.closeWindow a (s.finalDuration a) true).setArm a Arm.drained
  | _, _ => s

/-- DRAIN_EXPIRY (R46, R83). -/
def execDrainExpiry (arm : ArmId) (s : State) : Host.Outcome State Fault Refusal :=
  .next (s.drainExpires arm)

/-- The next window starts at `now` with period `p` (R78). -/
def Arm.startWindow (arm : Arm) (now p : Nat) : Arm :=
  { arm with windowTimer := some (now + p * 1000), windowStart := some now }

/-- The window timer expires: the window closes and the next starts at the same instant (R78, R79). -/
def State.windowExpires (s : State) (a : ArmId) : State :=
  match (s.arm a).windowTimer, (s.arm a).windowPeriod with
  | some d, some p =>
    let s := s.reach d
    (s.closeWindow a p false).setArm a (·.startWindow s.now p)
  | _, _ => s

/-- WINDOW_EXPIRY (R79). -/
def execWindowExpiry (arm : ArmId) (s : State) : Host.Outcome State Fault Refusal :=
  .next (s.windowExpires arm)

/-- The lapse timer of a granted restricted release expires (R99). -/
def State.releaseLapses (s : State) (a : ArmId) : State :=
  match (s.arm a).release with
  | some d => (s.reach d).setArm a fun arm => { arm with release := none }
  | none => s

/-- RELEASE_LAPSE (R99). -/
def execReleaseLapse (arm : ArmId) (s : State) : Host.Outcome State Fault Refusal :=
  .next (s.releaseLapses arm)

/-! ## The BAU and the header -/

/-- BAU_TAKE_REQUEST (R84). -/
def execBauTakeRequest (s : State) : Host.Outcome State Fault Refusal := .next s.bauTake

/-- A computation completes 200 µs after it started, and the BAU takes its next request (R84). -/
def State.computationCompletes (s : State) : State :=
  match s.bau with
  | some k => (State.finishComputation { s.reach (k.started + 200) with bau := none } k.request).bauTake
  | none => s

/-- COMPUTATION_COMPLETE (R4, R84). -/
def execComputationComplete (s : State) : Host.Outcome State Fault Refusal :=
  .next s.computationCompletes

/-- HEAD_EXAMINATION (R148). -/
def execHeadExamination (s : State) : Host.Outcome State Fault Refusal := .next s.examine

end Sys2Proof.Machine
end

