-- ==== Sys2Proof/Machine/InjectorEvents.lean ====
section
/-! DEFINITION. The events of the stroke cycle (R128 to R133), of the Valve Drive (R140) and of the Probe
Scanner (R68 to R72), and the outputs they drive. -/

namespace Sys2Proof.Machine

open Sys2Proof

/-! ## The stroke cycle -/

/-- The end of a slot's cycle: the next stroke starts if its conditions hold, and a CLOSING arm may close
(R47, R128). -/
def State.cycleEnds (s : State) (a : ArmId) (i : SlotId) : State := (s.tryStroke a i).tryClose a

/-- A slot whose cycle is over. -/
def Slot.toReady (slot : Slot) : Slot :=
  { slot with phase := .ready, pulseTimer := none, verifyTimer := none }

/-- The pulse timer expires: the drive turns off, and the slot acts on its stroke outcome (R128). -/
def State.pulseEnds (s : State) (a : ArmId) (i : SlotId) : State :=
  match (s.arm a).slots[i].phase, (s.arm a).slots[i].pulseTimer with
  | .stroking .unresolved, some d =>
    (s.reach d).setArm a (·.setSlot i fun x => { x with phase := .awaitVerify, pulseTimer := none })
  | .stroking _, some d => ((s.reach d).setArm a (·.setSlot i Slot.toReady)).cycleEnds a i
  | _, _ => s

/-- PULSE_END (R128). -/
def execPulseEnd (arm : ArmId) (slot : SlotId) (s : State) : Host.Outcome State Fault Refusal :=
  .next (s.pulseEnds arm slot)

/-- A stroke is verified (R129). -/
def Slot.verify (slot : Slot) : Slot :=
  { slot with verified := slot.verified + 1, consecutive := 0, verifyTimer := none }

/-- A verify edge (R129). -/
def State.verifyEdge (s : State) (a : ArmId) (i : SlotId) : State :=
  match (s.arm a).slots[i].phase with
  | .stroking .unresolved =>
    s.setArm a (·.setSlot i fun x => { x.verify with phase := .stroking .verified })
  | .awaitVerify => (s.setArm a (·.setSlot i fun x => x.verify.toReady)).cycleEnds a i
  | _ => s

/-- VERIFY_EDGE (R129). -/
def execVerifyEdge (arm : ArmId) (slot : SlotId) (s : State) : Host.Outcome State Fault Refusal :=
  .next (s.verifyEdge arm slot)

/-- The miss limit of an arm's snapshot (R132). -/
def Arm.missLimit (arm : Arm) : Nat := (arm.snapshot.map (·.params.missLimit)).getD 0

/-- A further miss brings a slot's consecutive missed count to the miss limit (R132). -/
def Arm.limitReached (arm : Arm) (i : SlotId) : Bool :=
  decide (arm.missLimit ≤ arm.slots[i].consecutive + 1)

/-- A stroke is missed; at the miss limit the consecutive count restarts (R130, R132). -/
def Slot.miss (slot : Slot) (reached : Bool) : Slot :=
  { slot with
    missed := slot.missed + 1
    consecutive := if reached then 0 else slot.consecutive + 1
    verifyTimer := none }

/-- The effect of a faulty injector: flag ADDITIVE, and cause ADDITIVE under action HOLD (R132). -/
def State.injectorFault (s : State) (a : ArmId) : State :=
  let s := s.setFlag a .additive
  s.addCauseIf (decide ((s.arm a).snapshot.map (·.faultAction) = some .hold)) a .additive

/-- The injector fault when the miss limit is reached. -/
def State.injectorFaultIf (s : State) (b : Bool) (a : ArmId) : State :=
  if b then s.injectorFault a else s

/-- The verify timer expires: the stroke is missed (R130, R132, R133). -/
def State.verifyExpires (s : State) (a : ArmId) (i : SlotId) : State :=
  let reached := (s.arm a).limitReached i
  match (s.arm a).slots[i].phase, (s.arm a).slots[i].verifyTimer with
  | .stroking .unresolved, some d =>
    ((s.reach d).setArm a (·.setSlot i fun x =>
      { x.miss reached with phase := .stroking .missed })).injectorFaultIf reached a
  | .awaitVerify, some d =>
    (((s.reach d).setArm a (·.setSlot i fun x => (x.miss reached).toReady)).injectorFaultIf reached
      a).cycleEnds a i
  | _, _ => s

/-- VERIFY_TIMEOUT (R130). -/
def execVerifyTimeout (arm : ArmId) (slot : SlotId) (s : State) :
    Host.Outcome State Fault Refusal :=
  .next (s.verifyExpires arm slot)

/-! ## The Valve Drive -/

/-- A period of the Valve Drive starts: the commanded value becomes the applied duty (R140). -/
def State.periodStarts (s : State) (a : ArmId) : State :=
  match (s.arm a).config, (s.arm a).valve.periodStart with
  | some c, some t =>
    let s := s.reach (t + c.pwmPeriod * 1000)
    s.setArm a fun arm =>
      { arm with valve :=
        { arm.valve with applied := arm.valve.commanded, periodStart := some s.now } }
  | _, _ => s

/-- PWM_PERIOD_START (R140). -/
def execPwmPeriodStart (arm : ArmId) (s : State) : Host.Outcome State Fault Refusal :=
  .next (s.periodStarts arm)

/-- The output of a Valve Drive: on from the period start for period × duty / 10000, floor, in whole µs;
for the whole period at 10000; off without a config (R140). -/
def State.valveOutput (s : State) (a : ArmId) : Bool :=
  match (s.arm a).config, (s.arm a).valve.periodStart with
  | some c, some t =>
    decide (10000 ≤ (s.arm a).valve.applied) ||
      decide (s.now < t + c.pwmPeriod * 1000 * (s.arm a).valve.applied / 10000)
  | _, _ => false

/-! ## The Probe Scanner -/

/-- The calibration of a channel in its arm's config (Table 4-1). -/
def calibrationOf (config : ArmConfig) (ch : Channel) : Calibration :=
  if ch.val % 2 = 0 then config.probeG else config.probeE

/-- The temperature of a conversion: offset + floor(code × span / 65536) (R69). -/
def temperatureOf (k : Calibration) (code : BitVec 16) : Int :=
  k.offset + (code.toNat * k.span / 65536 : Nat)

/-- A temperature is accepted: it lies within the plausibility window (R70). -/
def plausible (k : ScanSettings) (t : Int) : Bool := decide (k.low ≤ t) && decide (t ≤ k.high)

/-- A probe record after an accepted result (R70). -/
def ProbeRecord.accept (t : Int) (stale : Timer) (_ : ProbeRecord) : ProbeRecord := ⟨some t, .good, 0, stale⟩

/-- A probe record after a rejected result (R70). -/
def ProbeRecord.reject (p : ProbeRecord) : ProbeRecord :=
  { p with
    rejects := min 255 (p.rejects + 1)
    state := if p.state = .good ∧ 4 ≤ p.rejects + 1 then .suspect else p.state }

/-- The PROBE flag of a channel's arm (R73). -/
def probeFlag (ch : Channel) : Flag := if ch.val % 2 = 0 then .probeG else .probeE

/-- A formed temperature recorded for its channel: accepted, or rejected with PROBE set when the record
becomes SUSPECT (R70, R73). -/
def State.recordTemperature (s : State) (ch : Channel) (t : Int) : State :=
  let p := s.scanner.records[ch]
  if plausible s.scanner.settings t then
    s.setProbe ch (ProbeRecord.accept t (s.timerMs (s.scanner.settings.staleLimit * 1000)))
  else
    (s.setProbe ch ProbeRecord.reject).setFlagIf
      (decide (p.state = .good ∧ 4 ≤ p.rejects + 1)) (armOfChannel ch) (probeFlag ch)

/-- The channel after `ch` in the scan list (R65, R68). -/
def nextChannel (k : ScanSettings) (ch : Channel) : Channel :=
  if ch.val = k.last then Fin.ofNat 16 k.first else ch + 1

/-- The temperature of a completed conversion; none when the owning arm has no config (R69). -/
def State.converted (s : State) (ch : Channel) (code : BitVec 16) : Option Int :=
  (s.arm (armOfChannel ch)).config.map fun c => temperatureOf (calibrationOf c ch) code

/-- The result of a conversion recorded, when a temperature was formed (R69, R70). -/
def State.recordResult (s : State) (ch : Channel) (t : Option Int) : State :=
  match t with
  | some t => s.recordTemperature ch t
  | none => s

/-- A conversion completes 4 ms after it began: the result is judged, recorded and handed to the monitor,
and the next channel's conversion begins (R68 to R70, R182). -/
def State.conversionCompletes (s : State) (code : BitVec 16) : State :=
  match s.scanner.conversion with
  | some v =>
    let s := s.reach (v.began + 4000)
    let t := s.converted v.channel code
    let accepted := (t.map (plausible s.scanner.settings)).getD false
    let s := s.recordResult v.channel t
    let s := s.monitorProbe ⟨v.channel, code, t, accepted⟩
    s.setConversion (some ⟨nextChannel s.scanner.settings v.channel, s.now⟩)
  | none => s

/-- CONVERSION_COMPLETE (R68). -/
def execConversionComplete (code : BitVec 16) (s : State) : Host.Outcome State Fault Refusal :=
  .next (s.conversionCompletes code)

/-- A record after its stale timer expired: STALE, the timer stopped, T_last kept (R72). -/
def ProbeRecord.toStale (p : ProbeRecord) : ProbeRecord := { p with state := .stale, staleTimer := none }

/-- The stale timer of a GOOD or SUSPECT record expires (R72, R73). -/
def State.staleExpires (s : State) (ch : Channel) : State :=
  match s.scanner.records[ch].staleTimer with
  | some d =>
    if s.scanner.records[ch].state = .good ∨ s.scanner.records[ch].state = .suspect then
      ((s.reach d).setProbe ch ProbeRecord.toStale).setFlag (armOfChannel ch) (probeFlag ch)
    else s
  | none => s

/-- STALE_EXPIRY (R72). -/
def execStaleExpiry (channel : Channel) (s : State) : Host.Outcome State Fault Refusal :=
  .next (s.staleExpires channel)

end Sys2Proof.Machine
end

