-- ==== Sys2Proof/Machine/StoreEvents.lean ====
section
/-! DEFINITION. The completions of store operations (Table 6-6, R106), the store load and the recovery of
open batches (R107 to R109, R161), and the resets (R107, R110, R177). A completion whose kind is not the
current operation's cannot occur, and its command changes nothing (log entry 7). -/

namespace Sys2Proof.Machine

open Sys2Proof

/-- STORE_OPERATION_START: the oldest operation becomes current when none is (R103). -/
def execStoreOperationStart (s : State) : Host.Outcome State Fault Refusal := .next s.advanceStore

/-! ## Walks -/

/-- A walk's completion with its outcome: the cache is filled, the entry leaves the walk list, and every
waiter takes the outcome (R106, R114, R122). -/
def State.finishWalk (s : State) (key : Key) (o : WalkOutcome) : State :=
  let waiters := s.waitersOf key
  let s := s.fillFrom key o
  let s := { s with walks := s.walks.filter fun w => decide (w.key ≠ key) }
  waiters.foldl (State.handOutcome o) s

/-- WALK_COMPLETION (R97, R122). -/
def execWalkCompletion (fault : Option StoreFault) (s : State) : Host.Outcome State Fault Refusal :=
  match s.current with
  | some ⟨.walk key, started, _⟩ =>
    let (o, b) := runWalk key (s.bus fault)
    .next ((s.leaveBus started b).finishWalk key o).advanceStore
  | _ => .next s

/-! ## Custody operations -/

/-- A failed DISPENSED clears the dispensed copy of every key that asked for it (R106, R115). -/
def State.dispensedFailed (s : State) (askers : List Key) : State :=
  askers.foldl (fun s key => s.setDispensedCopy key false) s

/-- DISPENSED_COMPLETION (R101). -/
def execDispensedCompletion (fault : Option StoreFault) (s : State) :
    Host.Outcome State Fault Refusal :=
  match s.current with
  | some ⟨.dispensed page package askers, started, _⟩ =>
    let (ok, b) := runDispensed page package (s.bus fault)
    let t := s.leaveBus started b
    .next (if ok then t else t.dispensedFailed askers).advanceStore
  | _ => .next s

/-- A CHECKPOINT's result: a failure sets the arm's STORE flag (R106). -/
def State.checkpointDone (s : State) (a : ArmId) (ok : Bool) : State := s.setFlagIf (!ok) a .store

/-- CHECKPOINT_COMPLETION: the counter item carries the batch counter's value at that item's own moment (R104). -/
def execCheckpointCompletion (fault : Option StoreFault) (s : State) :
    Host.Outcome State Fault Refusal :=
  match s.current with
  | some ⟨.checkpointOpen a m, started, noted⟩ =>
    let (ok, b) := runCheckpointOpen a m (noted.getD s.batchCounter) (s.bus fault)
    .next ((s.leaveBus started b).checkpointDone a ok).advanceStore
  | some ⟨.checkpointIdle a t, started, _⟩ =>
    let (ok, b) := runCheckpointIdle a t (s.bus fault)
    .next ((s.leaveBus started b).checkpointDone a ok).advanceStore
  | _ => .next s

/-- The record in a slot of a lane's queue is marked unsaved (R157). -/
def Lane.markUnsaved (lane : Lane) (slot : Nat) : Lane :=
  { lane with records := lane.records.map fun q =>
      if q.slot = slot then { q with record := { q.record with unsaved := true } } else q }

/-- A failed CLOSE sets the arm's STORE flag and marks its record unsaved (R106, R157). -/
def State.closeFailed (s : State) (a : ArmId) (slot : Nat) : State :=
  (s.setFlag a .store).setLane (laneOf a) (·.markUnsaved slot)

/-- CLOSE_COMPLETION: the counter item carries the batch counter's value at that item's own moment (R104). -/
def execCloseCompletion (fault : Option StoreFault) (s : State) : Host.Outcome State Fault Refusal :=
  match s.current with
  | some ⟨.close a slot r figures, started, noted⟩ =>
    let (ok, b) := runClose a slot r figures (noted.getD s.batchCounter) (s.bus fault)
    let t := s.leaveBus started b
    .next (if ok then t else t.closeFailed a slot).advanceStore
  | _ => .next s

/-- The arm and number of the record in a lane's slot, when its unsaved flag is set (R104). -/
def State.unsavedIn (s : State) (l : LaneId) (slot : Nat) : Option (ArmId × Nat) :=
  match s.lanes[l].records.find? fun q => decide (q.slot = slot) with
  | some q => if q.record.unsaved then some (q.record.arm, q.record.number) else none
  | none => none

/-- A RECORD_FREE's result: on success the oldest record leaves the queue; release pending becomes none,
and every request waiting on it is answered (R160). -/
def State.releaseDone (s : State) (l : LaneId) (ok : Bool) : State :=
  let result := if ok then Result.ok else Result.storeFault
  let s := s.setLane l fun lane =>
    { lane with
      records := if ok then lane.records.tail else lane.records
      releasePending := false }
  (s.settle (.lane l) (.release l) result .nothing).settle .supervisor (.release l) result .nothing

/-- RECORD_FREE_COMPLETION (R160). -/
def execRecordFreeCompletion (fault : Option StoreFault) (s : State) :
    Host.Outcome State Fault Refusal :=
  match s.current with
  | some ⟨.recordFree l slot, started, _⟩ =>
    let (ok, b) := runRecordFree l slot (s.unsavedIn l slot) (s.bus fault)
    .next ((s.leaveBus started b).releaseDone l ok).advanceStore
  | _ => .next s

/-! ## Supervisor operations -/

/-- The supervisor's deferred store response (R93, R106). -/
def State.answerStore (s : State) (result : Result) (body : Body) : State :=
  s.settle .supervisor .store result body

/-- The supervisor's answer to a read: the item, or STORE_FAULT with no fields (R93). -/
def State.answerRead (s : State) (body : Option Body) : State :=
  match body with
  | some b => s.answerStore .ok b
  | none => s.answerStore .storeFault .nothing

/-- SUP_READ_COMPLETION (R93). -/
def execSupReadCompletion (fault : Option StoreFault) (s : State) :
    Host.Outcome State Fault Refusal :=
  match s.current with
  | some ⟨.readEntry product, started, _⟩ =>
    let (e, b) := (s.bus fault).read asEntry (directoryAt product)
    .next ((s.leaveBus started b).answerRead (e.map Body.entry)).advanceStore
  | some ⟨.readRecipe page package, started, _⟩ =>
    let (r, b) := (s.bus fault).read asRecipe (recipeAt page package)
    .next ((s.leaveBus started b).answerRead (r.map Body.recipeRecord)).advanceStore
  | _ => .next s

/-- The supervisor's answer to a write. -/
def State.answerWrite (s : State) (ok : Bool) : State :=
  s.answerStore (if ok then .ok else .storeFault) .nothing

/-- The entries that a WRITE RECIPE of a page and package invalidates (R117). -/
def affectedBy (page package : Nat) (e : CacheEntry) : Bool :=
  e.page == page && e.key.package == package

/-- The entries that a WRITE DIRECTORY ENTRY of a product invalidates: those of the product, and those filled from
the page `before` that it pointed to, when the write gives it another page (R117, log entry 27). -/
def affectedByEntry (product page : Nat) (before : Option Nat) (e : CacheEntry) : Bool :=
  e.key.product == product || before.any fun p => p != page && e.page == p

/-- SUP_WRITE_COMPLETION: the answer, and the invalidation whether or not the write succeeded (R106,
R117). -/
def execSupWriteCompletion (fault : Option StoreFault) (s : State) :
    Host.Outcome State Fault Refusal :=
  match s.current with
  | some ⟨.writeEntry product e, started, _⟩ =>
    let (ok, b) := (s.bus fault).write (directoryAt product) (.entry e)
    let affected := affectedByEntry product e.page (Store.pageOf s.store product)
    .next (((s.leaveBus started b).invalidate affected).answerWrite ok).advanceStore
  | some ⟨.writeRecipe page package r, started, _⟩ =>
    let (ok, b) := (s.bus fault).write (recipeAt page package) (.recipe r)
    .next (((s.leaveBus started b).invalidate (affectedBy page package)).answerWrite ok).advanceStore
  | _ => .next s

/-- The result of a USAGE_CLEAR (R102). -/
def usageResult : UsageOutcome → Result
  | .cleared => .ok
  | .unknownProduct => .unknownProduct
  | .storeFault => .storeFault

/-- USAGE_CLEAR_COMPLETION: the answer, and the invalidation of the product whatever the response (R102,
R118). -/
def execUsageClearCompletion (fault : Option StoreFault) (s : State) :
    Host.Outcome State Fault Refusal :=
  match s.current with
  | some ⟨.usageClear product, started, _⟩ =>
    let (o, b) := runUsageClear product (s.bus fault)
    .next (((s.leaveBus started b).flushProduct product).answerStore (usageResult o)
      .nothing).advanceStore
  | _ => .next s

/-! ## The store load -/

/-- Read items one after another, ending at the first store failure (R107, R108). -/
def Bus.readAll {α : Type} (view : Option StoreCell → Option α) : List Nat → Bus → Option (List α) × Bus
  | [], b => (some [], b)
  | a :: rest, b =>
    match b.read view a with
    | (none, b) => (none, b)
    | (some x, b) =>
      match Bus.readAll view rest b with
      | (some xs, b) => (some (x :: xs), b)
      | (none, b) => (none, b)

/-- All lanes, in order. -/
def allLanes : List LaneId := [0, 1, 2, 3]

/-- The record slots of a lane. -/
def slotNumbers : List Nat := [0, 1, 2, 3, 4, 5]

/-- What the load of 41 items reads (R107). -/
structure Loaded where
  counter : Nat
  totals : List TotalsBlock
  slots : List (Option BatchRecord)
  markers : List (Option OpenMarker)
deriving DecidableEq, Repr

/-- The load: batch counter, totals blocks, record slots, markers; `none` after a failure (R107, R108). -/
def runLoad (b : Bus) : Option Loaded × Bus :=
  match b.read asCounter counterAt with
  | (none, b) => (none, b)
  | (some counter, b) =>
    match Bus.readAll asTotals (allArms.map totalsAt) b with
    | (none, b) => (none, b)
    | (some totals, b) =>
      match Bus.readAll asSlot (allLanes.flatMap fun l => slotNumbers.map (slotAt l)) b with
      | (none, b) => (none, b)
      | (some slots, b) =>
        match Bus.readAll asMarker (allArms.map markerAt) b with
        | (none, b) => (none, b)
        | (some markers, b) => (some ⟨counter, totals, slots, markers⟩, b)

/-- The records found in a lane's slots, each with its slot and its unsaved flag clear (R158, R161). -/
def Loaded.recordsOf (d : Loaded) (l : LaneId) : List QueuedRecord :=
  slotNumbers.filterMap fun i =>
    match (d.slots[l.val * 6 + i]?).getD none with
    | some r => some ⟨{ r with unsaved := false }, i⟩
    | none => none

/-- The distance from one post number on to another, round the circle of 0 to 255 (R161). -/
def postDistance (first other : Nat) : Nat := (other + 256 - first) % 256

/-- The oldest of a list of records: every other's post number is among the 127 that follow its own
(R161). -/
def oldestOf (rs : List QueuedRecord) : Option QueuedRecord :=
  rs.find? fun q => rs.all fun r => decide (postDistance q.record.post r.record.post ≤ 127)

/-- A record put into its place in post order, counted from the post number `first`. -/
def insertByPost (first : Nat) (q : QueuedRecord) : List QueuedRecord → List QueuedRecord
  | [] => [q]
  | r :: rest =>
    if postDistance first q.record.post < postDistance first r.record.post then q :: r :: rest
    else r :: insertByPost first q rest

/-- Records in post order, oldest first (R161). When no record has every other's post number among the 127 that follow
its own, or two records share one (contents that a failed slot write may leave, R89), R161 gives no order: the model
then keeps slot order, of the whole list or of those that share a number (DESIGN CHOICE, unsafe, log entry 28). -/
def inPostOrder (rs : List QueuedRecord) : List QueuedRecord :=
  match oldestOf rs with
  | some q => rs.foldl (fun done r => insertByPost q.record.post r done) []
  | none => rs

/-- The post number of the newest record, or 0 with none (R161). -/
def newestPost (rs : List QueuedRecord) : Nat := (rs.getLast?.map (·.record.post)).getD 0

/-- A lane after the load: its records in post order and its post counter (R161). -/
def Loaded.laneOf (d : Loaded) (l : LaneId) (lane : Lane) : Lane :=
  let rs := inPostOrder (d.recordsOf l)
  { lane with records := rs, postCounter := newestPost rs }

/-- The set marker of an arm, if the load found one. -/
def Loaded.markerOf (d : Loaded) (a : ArmId) : Option OpenMarker := (d.markers[a.val]?).getD none

/-- The record of a marker's batch in the slots of the arm's lane (R109). When two slots hold a record of that number,
which R153 rules out for records as written, the model takes the lower slot's (DESIGN CHOICE, unsafe, log entry 28). -/
def Loaded.recordOf (d : Loaded) (a : ArmId) (m : OpenMarker) : Option QueuedRecord :=
  (d.recordsOf (Machine.laneOf a)).find? fun q => q.record.number == m.number

/-- The figures an arm takes from the load: its marker's when that is recovered as an INTERRUPTED record,
and its totals block's otherwise (R63, R107, R109, R151). -/
def Loaded.figuresOf (d : Loaded) (a : ArmId) : TotalsBlock :=
  let block := (d.totals[a.val]?).getD blankTotals
  match d.markerOf a with
  | some m => if (d.recordOf a m).isSome then block else m.figures
  | none => block

/-- Figures with loaded figures added, with their wraps (R63, R107). -/
def addFigures (x y : TotalsBlock) : TotalsBlock :=
  ⟨advanceTotals x.totals y.totals.grossG y.totals.grossE y.totals.netG y.totals.netE,
    wrapPulses (x.pulsesG + y.pulsesG), wrapPulses (x.pulsesE + y.pulsesE)⟩

/-- An arm after the load: its totalizers as loaded, and the loaded unauthorized-pulse totals added to the
pulses counted since the reset (R63, R151). -/
def Arm.load (arm : Arm) (t : TotalsBlock) : Arm :=
  { arm with
    totals := t.totals
    meterG := { arm.meterG with unauthorized := wrapPulses (arm.meterG.unauthorized + t.pulsesG) }
    meterE := { arm.meterE with unauthorized := wrapPulses (arm.meterE.unauthorized + t.pulsesE) } }

/-- A waiting CHECKPOINT has the loaded figures added to those it carries (R107). -/
def Loaded.addTo (d : Loaded) : StoreOp → StoreOp
  | .checkpointIdle a t => .checkpointIdle a (addFigures t (d.figuresOf a))
  | .checkpointOpen a m =>
    .checkpointOpen a { m with figures := addFigures m.figures (d.figuresOf a) }
  | op => op

/-- The recovery CLOSE of an arm, carrying a record of its lane (R109). -/
def State.askRecoveryClose (s : State) (a : ArmId) (q : QueuedRecord) : State :=
  s.askOp (.close a q.slot q.record (s.arm a).figures)

/-- The recovery of one arm's open-batch marker: an INTERRUPTED record is posted when no slot holds the
batch's record, and in both cases a CLOSE is queued (R109, R161, R162). -/
def State.recoverArm (d : Loaded) (s : State) (a : ArmId) : State :=
  match d.markerOf a with
  | none => s
  | some m =>
    match d.recordOf a m with
    | some q => s.askRecoveryClose a q
    | none =>
      let q := s.lanes[Machine.laneOf a].posting (interruptedRecord a m)
      (s.setLane (Machine.laneOf a) (·.post (interruptedRecord a m))).askRecoveryClose a q

/-- The custody state taken from a successful load (R107, R109, R151, R153, R161). -/
def State.takeLoad (s : State) (d : Loaded) : State :=
  let s := { s with
    batchCounter := d.counter
    arms := Vector.ofFn fun a => s.arms[a].load (d.figuresOf a)
    lanes := Vector.ofFn fun l => d.laneOf l s.lanes[l]
    storeQueue := s.storeQueue.map fun q => { q with op := d.addTo q.op } }
  allArms.foldl (State.recoverArm d) s

/-- The load ends: READY with the custody state taken, or LOAD_FAILED; a RESTART is answered and the queue
resumes (R107, R108, R110, R177). -/
def State.endLoad (s : State) (d : Option Loaded) : State :=
  match d with
  | some d =>
    (({ s.takeLoad d with load := .ready } : State).settle .supervisor .restart .ok
      .nothing).advanceStore
  | none =>
    (({ s with load := .loadFailed } : State).settle .supervisor .restart .storeFault
      .nothing).advanceStore

/-- The failure of a load whose item `failing` fails its read. -/
def loadFault (failing : Option Nat) : Option StoreFault := failing.map fun i => ⟨i, .unchanged⟩

/-- STORE_LOAD_END (R107, R108). -/
def execStoreLoadEnd (failing : Option Nat) (s : State) : Host.Outcome State Fault Refusal :=
  match s.load with
  | .loading started =>
    let (d, b) := runLoad (s.bus (loadFault failing))
    .next ((s.reach (started + b.items * 1000)).endLoad d)
  | _ => .next s

/-! ## Resets -/

/-- RESTART_RESET: in a pending restart whose carried operations are done, the part is reset (R110,
R177). -/
def execRestartReset (s : State) : Host.Outcome State Fault Refusal :=
  .next
    (if s.restartPending && s.current.isNone && !(s.storeQueue.any (·.carried)) then s.restartReset
    else s)

/-- The store as a power loss leaves it: the items of the current operation whose 1 ms has passed are
performed, and the rest stand (R89, log entry 6). -/
def State.storeAtPowerLoss (s : State) : Store :=
  match s.current with
  | some k =>
    let unsaved :=
      match k.op with
      | .recordFree l slot => s.unsavedIn l slot
      | _ => none
    (k.op.run (k.counter.getD s.batchCounter) unsaved ⟨s.store, 0, none, some ((s.now - k.started) / 1000)⟩).store
  | none => s.store

/-- POWER_ON_RESET: every block, the Link Ports too, at its reset values, the recipe store kept, and the
store load begun (R107, R110, R178). -/
def execPowerOnReset (s : State) : Host.Outcome State Fault Refusal :=
  .next (s.resetBlocks (Vector.replicate 5 LinkPort.reset) s.storeAtPowerLoss)

end Sys2Proof.Machine
end

