-- ==== Sys2Proof/Machine/Wire.lean ====
section
/-! DEFINITION. The bytes on the lines: the response frames of the links (Table 11-1), the packets of the monitor
line (Tables 12-3 and 12-4), and the reading and writing of a request's fields. -/

namespace Sys2Proof.Machine

open Sys2Proof

/-! ## Named values: the place in their list (R164) -/

/-- The place of an arm state in Table 2-1 and R25. -/
def ArmState.place : ArmState → Nat
  | .idle => 0
  | .authorizing => 1
  | .authorized => 2
  | .waitingHeader => 3
  | .delivering => 4
  | .flushing => 5
  | .held _ => 6
  | .closing => 7

/-- The held-from state, present in HELD: DELIVERING or FLUSHING (R25, R170). -/
def ArmState.origin : ArmState → Option HeldFrom
  | .held o => some o
  | _ => none

/-- The place of a held-from state in R25's list. -/
def HeldFrom.place : HeldFrom → Nat
  | .delivering => 0
  | .flushing => 1

/-- The place of a stage in Table 1-2. -/
def Stage.place : Stage → Nat
  | .lowStart => 0
  | .main => 1
  | .topOff => 2

/-- The place of a probe state in Table 4-3. -/
def ProbeState.place : ProbeState → Nat
  | .none => 0
  | .good => 1
  | .suspect => 2
  | .stale => 3

/-- The value of a result code (Table 11-2). -/
def Result.value : Result → Nat
  | .ok => 0
  | .linkBusy => 1
  | .badRequest => 2
  | .badField => 3
  | .notYourArm => 4
  | .wrongState => 5
  | .notConfigured => 6
  | .notReady => 7
  | .unknownProduct => 8
  | .noRecipe => 9
  | .withheld => 10
  | .restricted => 11
  | .noInjector => 12
  | .additiveUnavailable => 13
  | .recordsFull => 14
  | .faultPending => 15
  | .notPermitted => 16
  | .storeFault => 17
  | .capacityInUse => 18
  | .scanRunning => 19
  | .armBusy => 20
  | .armsActive => 21
  | .notOldest => 22
  | .empty => 23
  | .aborted => 24

/-! ## The fields of responses -/

/-- The resolved fields of an OK response to AUTHORIZE (R28). -/
def resolvedFields (snap : Snapshot) : List Byte :=
  nameField snap.name ++ byteField (kindPlace snap.kind) ++ unsignedField 2 snap.params.target ++
    unsignedField 4 snap.params.flush ++ unsignedField 2 snap.params.mainFlow ++
    snap.params.additives.toList.flatMap additiveField

/-- The running figures that ARM STATUS reports, each preceded by its presence byte, with u between De and
r_s (R170). -/
def figureFields (f : Option Figures) (u : Nat) : List Byte :=
  optionalField (fun f : Figures => byteField f.stage.place) f ++
    optionalField (fun f : Figures => unsignedField 6 f.flowLimit) f ++
    optionalField (fun f : Figures => unsignedField 6 (f.ng + f.ne)) f ++
    optionalField (fun f : Figures => unsignedField 4 f.demand) f ++
    unsignedField 2 u ++
    optionalField (fun f : Figures => unsignedField 6 f.rate) f

/-- The fields of ARM STATUS in the order of R170. -/
def statusFields (r : StatusReport) : List Byte :=
  byteField r.arm.val ++ byteField r.state.place ++ setField r.causes ++
    optionalField (fun o : HeldFrom => byteField o.place) r.state.origin ++
    optionalField (unsignedField 4) r.number ++
    optionalField (fun e : Ending => byteField (recordKindPlace e.kind)) r.ending ++
    optionalField (fun c : AbortCause => byteField (abortPlace c)) (r.ending.bind (·.cause)) ++
    figureFields r.figures r.u ++ optionalField (unsignedField 4) r.remaining ++ setField r.flags

/-- The fields of READ TOTALS in the order of R152. -/
def totalsFields (a : ArmId) (t : TotalsBlock) (counter : Nat) : List Byte :=
  byteField a.val ++ blockFields t ++ unsignedField 4 counter

/-- The fields of READ HEADER (R150). -/
def headerFields (h : Header) : List Byte :=
  unsignedField 2 h.capacity ++
    h.grants.toList.flatMap
      (fun g : Grant => unsignedField 2 g.flow ++ optionalField (unsignedField 2) g.limit) ++
    listField
      (fun p : HeaderPlace =>
        byteField p.arm.val ++ unsignedField 2 p.request ++ unsignedField 2 p.minimum) h.queue

/-- One channel of READ PROBES (R76). -/
def probeFields (p : ProbeReport) : List Byte :=
  byteField p.state.place ++ byteField p.rejects ++ optionalField (signedField 2) p.last ++
    optionalField (unsignedField 4) p.remaining

/-- The fields of READ PROBES: scanner state, settings and the sixteen channels (R76). -/
def probesFields (scanning : Bool) (k : ScanSettings) (channels : List ProbeReport) : List Byte :=
  boolField scanning ++ byteField k.first ++ byteField k.last ++ signedField 2 k.low ++
    signedField 2 k.high ++ byteField k.staleLimit ++ channels.flatMap probeFields

/-- The fields of a response, in the order of the rule of its request (R164). -/
def Body.fields : Body → List Byte
  | .nothing => []
  | .recipe snap => resolvedFields snap
  | .armState st => byteField st.place
  | .status r => statusFields r
  | .flags fs none => setField fs
  | .flags fs (some overrun) => setField fs ++ unsignedField 2 overrun
  | .cleared gone left => setField gone ++ setField left
  | .record r => recordFields r
  | .totals a t counter => totalsFields a t counter
  | .header h => headerFields h
  | .entry e => directoryFields e
  | .recipeRecord r => recipeFields r
  | .probes scanning k channels => probesFields scanning k channels
  | .overflow stood => boolField stood

/-- A run of bytes followed by its check word, high byte first (R164). -/
def withCheckWord (bytes : List Byte) : List Byte := bytes ++ beBytes 2 (crc16 bytes).toNat

/-- The frame of a response: sync, length, kind with its highest bit set, tag, result, fields and check
word (R164, Table 11-1). -/
def Response.frame (r : Response) : List Byte :=
  let content := [r.code ||| 0x80, r.tag, BitVec.ofNat 8 r.result.value] ++ r.body.fields
  0xA5 :: withCheckWord (BitVec.ofNat 8 content.length :: content)

/-! ## Monitor packets -/

/-- The content of a TRIM packet from its kind through its second value (Table 12-3). A packet is always of
full size (R183), and what stands in the place of an absent figure is free (log entry 13). -/
def trimFields (p : TrimPacket) : List Byte :=
  [0x01] ++ byteField p.arm.val ++ unsignedField 4 p.number ++ byteField p.state.place ++
    boolField p.final ++ byteField p.stage.place ++ unsignedField 4 p.volume ++
    unsignedField 4 p.demand ++ signedField 4 p.error ++ unsignedField 2 p.u ++
    (match p.rate with
      | some r => 1 :: unsignedField 4 r
      | none => 0 :: beBytes 4 (Config.absentFigure 4)) ++
    unsignedField 4 p.smoothed ++ unsignedField 2 p.flowLimit ++ byteField p.parameter ++
    unsignedField 4 p.value ++ unsignedField 2 p.second

/-- The content of a PROBE packet from its kind through its outcome (Table 12-4, log entry 13). -/
def probePacketFields (p : ProbePacket) : List Byte :=
  [0x02] ++ byteField p.channel.val ++ unsignedField 2 p.code.toNat ++
    (match p.temperature with
      | some t => 1 :: signedField 2 t
      | none => 0 :: beBytes 2 (Config.absentFigure 2)) ++
    (if p.accepted then [0] else [1])

/-- The bytes of a packet of the monitor line: sync, content and check word (Tables 12-3 and 12-4). -/
def Packet.bytes : Packet → List Byte
  | .trim p => 0x5A :: withCheckWord (trimFields p)
  | .probe p => 0x5A :: withCheckWord (probePacketFields p)

/-! ## Reading the fields of a request -/

/-- The quantity of `n` bytes at offset `offset` of a request's fields (R164). -/
def fieldAt (fields : List Byte) (offset n : Nat) : Nat := beValue ((fields.drop offset).take n)

/-- The signed quantity of two bytes at an offset (R164). -/
def signedAt (fields : List Byte) (offset : Nat) : Int :=
  let v := fieldAt fields offset 2
  if v < 32768 then v else (v : Int) - 65536

/-- The name at an offset (R164). -/
def nameAt (fields : List Byte) (offset : Nat) : Name :=
  Vector.ofFn fun i => ((fields.drop (offset + i.val)).head?).getD 0

/-- A slot configuration at an offset (Table 8-1). -/
def slotConfigAt (fields : List Byte) (offset : Nat) : SlotConfig :=
  ⟨fieldAt fields offset 1, fieldAt fields (offset + 1) 2, fieldAt fields (offset + 3) 2,
    fieldAt fields (offset + 5) 2⟩

/-- The config that SET ARM CONFIG carries after its arm, in the order of R174. -/
def configAt (fields : List Byte) : ArmConfig where
  factorG := fieldAt fields 1 4
  factorE := fieldAt fields 5 4
  trimPeriod := fieldAt fields 9 2
  drainTime := fieldAt fields 11 2
  smoothing := fieldAt fields 13 1
  pwmPeriod := fieldAt fields 14 2
  slots := Vector.ofFn fun i => slotConfigAt fields (16 + 7 * i.val)
  probeG := ⟨signedAt fields 37, fieldAt fields 39 2⟩
  probeE := ⟨signedAt fields 41, fieldAt fields 43 2⟩

/-- The fields of SET WINDOW after the window number, in the order of Table 6-5. -/
def windowAt (fields : List Byte) : WindowFields where
  enable := fieldAt fields 1 1
  base := fieldAt fields 2 1
  mask := fieldAt fields 3 1
  withheld := fieldAt fields 4 1
  alphaG := fieldAt fields 5 2
  mainFlow := fieldAt fields 7 2
  holdLimit := fieldAt fields 9 2
  name := nameAt fields 11

/-- The parameters of WRITE RECIPE, from offset 17 on (Table 6-4). -/
def paramsAt (fields : List Byte) : Params where
  target := fieldAt fields 17 2
  tolerance := fieldAt fields 19 1
  excursion := fieldAt fields 20 4
  flush := fieldAt fields 24 4
  alphaG := fieldAt fields 28 2
  alphaE := fieldAt fields 30 2
  gain := fieldAt fields 32 2
  stepLimit := fieldAt fields 34 2
  uLo := fieldAt fields 36 2
  uHi := fieldAt fields 38 2
  u0 := fieldAt fields 40 2
  nSat := fieldAt fields 42 1
  lowStart := fieldAt fields 43 4
  lowFlow := fieldAt fields 47 2
  mainFlow := fieldAt fields 49 2
  topOffVolume := fieldAt fields 51 4
  topOffFlow := fieldAt fields 55 2
  holdLimit := fieldAt fields 57 2
  missLimit := fieldAt fields 59 1
  additives := Vector.ofFn fun i =>
    ⟨fieldAt fields (61 + 3 * i.val) 1, fieldAt fields (62 + 3 * i.val) 2⟩
  precision := fieldAt fields 70 1

/-- The fields of WRITE RECIPE after the page and package, in the order of Table 6-3 (R92). -/
def recipeAtFields (fields : List Byte) : RecipeFields where
  valid := fieldAt fields 2 1
  restricted := fieldAt fields 3 1
  name := nameAt fields 4
  kind := fieldAt fields 16 1
  params := paramsAt fields
  faultAction := fieldAt fields 60 1

/-- The settings that SET SCAN carries (R67). -/
def scanAt (fields : List Byte) : ScanSettings :=
  ⟨fieldAt fields 0 1, fieldAt fields 1 1, signedAt fields 2, signedAt fields 4, fieldAt fields 6 1⟩

/-- The number of bytes that the fields of a request take after its tag (R164). READ RECORD and RELEASE
RECORD carry a lane from the supervisor alone (R159, R160). -/
def fieldsLength (port : Port) (code : Nat) : Nat :=
  match code with
  | 0x01 => 7
  | 0x02 => 1
  | 0x03 => 1
  | 0x04 => 1
  | 0x05 => 1
  | 0x06 => 1
  | 0x07 => 1
  | 0x08 => 1
  | 0x09 => 3
  | 0x0A => if port = .supervisor then 1 else 0
  | 0x0B => if port = .supervisor then 5 else 4
  | 0x0C => 1
  | 0x20 => 45
  | 0x21 => 2
  | 0x22 => 2
  | 0x23 => 23
  | 0x24 => 2
  | 0x25 => 1
  | 0x30 => 1
  | 0x31 => 4
  | 0x32 => 2
  | 0x33 => 71
  | 0x35 => 1
  | 0x36 => 1
  | 0x40 => 7
  | 0x48 => 2
  | 0x49 => 2
  | _ => 0

/-- A request of a known code with well-sized fields, taken by its port (Table 11-3). -/
def takeFields (c : Caller) (fields : List Byte) (s : State) : State :=
  match c.code.toNat with
  | 0x01 => askAuthorize c (fieldAt fields 0 1) (Fin.ofNat 256 (fieldAt fields 1 1))
      (fieldAt fields 2 1) (fieldAt fields 3 4) s
  | 0x02 => askStart c (fieldAt fields 0 1) s
  | 0x03 => askStop c (fieldAt fields 0 1) s
  | 0x04 => askResume c (fieldAt fields 0 1) s
  | 0x05 => askEnd c (fieldAt fields 0 1) s
  | 0x06 => askAbort c (fieldAt fields 0 1) s
  | 0x07 => askArmStatus c (fieldAt fields 0 1) s
  | 0x08 => askReadFlags c (fieldAt fields 0 1) s
  | 0x09 => askClearFlags c (fieldAt fields 0 1) (BitVec.ofNat 16 (fieldAt fields 1 2)) s
  | 0x0A => askReadRecord c (fieldAt fields 0 1) s
  | 0x0B => askReleaseRecord c (fieldAt fields 0 4) (fieldAt fields 4 1) s
  | 0x0C => askReadTotals c (fieldAt fields 0 1) s
  | 0x20 => askSetArmConfig c (fieldAt fields 0 1) (configAt fields) s
  | 0x21 => askSetHeaderCapacity c (fieldAt fields 0 2) s
  | 0x22 => askSetAuthorizeTimeout c (fieldAt fields 0 2) s
  | 0x23 => askSetWindow c (fieldAt fields 0 1) (windowAt fields) s
  | 0x24 => askSetAdditiveService c (fieldAt fields 0 1) (fieldAt fields 1 1) s
  | 0x25 => askReleaseRestricted c (fieldAt fields 0 1) s
  | 0x26 => askReadHeader c s
  | 0x30 => askReadDirectoryEntry c (fieldAt fields 0 1) s
  | 0x31 => askWriteDirectoryEntry c (fieldAt fields 0 1)
      ⟨fieldAt fields 1 1, fieldAt fields 2 1, fieldAt fields 3 1⟩ s
  | 0x32 => askReadRecipe c (fieldAt fields 0 1) (fieldAt fields 1 1) s
  | 0x33 => askWriteRecipe c (fieldAt fields 0 1) (fieldAt fields 1 1) (recipeAtFields fields) s
  | 0x34 => askFlushAll c s
  | 0x35 => askFlushProduct c (fieldAt fields 0 1) s
  | 0x36 => askClearUsage c (fieldAt fields 0 1) s
  | 0x40 => askSetScan c (scanAt fields) s
  | 0x41 => askStartScan c s
  | 0x42 => askStopScan c s
  | 0x43 => askReadProbes c s
  | 0x48 => askSetMonitor c (fieldAt fields 0 1) (fieldAt fields 1 1) s
  | 0x49 => askSetAlertModes c (fieldAt fields 0 1) (BitVec.ofNat 8 (fieldAt fields 1 1)) s
  | 0x7F => askRestart c s
  | _ => s

/-! ## Writing the frame of a request -/

/-- A signed quantity of two bytes, in two's complement (R164). -/
def signedBytes (z : Int) : List Byte := beBytes 2 (z % 65536).toNat

/-- The fields of SET ARM CONFIG after its arm, in the order of R174. -/
def configContent (c : ArmConfig) : List Byte :=
  beBytes 4 c.factorG ++ beBytes 4 c.factorE ++ beBytes 2 c.trimPeriod ++ beBytes 2 c.drainTime ++
    beBytes 1 c.smoothing ++ beBytes 2 c.pwmPeriod ++
    c.slots.toList.flatMap
      (fun sc => beBytes 1 sc.code ++ beBytes 2 sc.strokeVolume ++ beBytes 2 sc.pulseWidth ++
        beBytes 2 sc.verifyTimeout) ++
    signedBytes c.probeG.offset ++ beBytes 2 c.probeG.span ++ signedBytes c.probeE.offset ++
    beBytes 2 c.probeE.span

/-- The fields of SET WINDOW after the window number, in the order of Table 6-5. -/
def windowContent (w : WindowFields) : List Byte :=
  beBytes 1 w.enable ++ beBytes 1 w.base ++ beBytes 1 w.mask ++ beBytes 1 w.withheld ++
    beBytes 2 w.alphaG ++ beBytes 2 w.mainFlow ++ beBytes 2 w.holdLimit ++ w.name.toList

/-- The fields of WRITE RECIPE after the page and package, in the order of Tables 6-3 and 6-4. -/
def recipeContent (r : RecipeFields) : List Byte :=
  beBytes 1 r.valid ++ beBytes 1 r.restricted ++ r.name.toList ++ beBytes 1 r.kind ++
    beBytes 2 r.params.target ++ beBytes 1 r.params.tolerance ++ beBytes 4 r.params.excursion ++
    beBytes 4 r.params.flush ++ beBytes 2 r.params.alphaG ++ beBytes 2 r.params.alphaE ++
    beBytes 2 r.params.gain ++ beBytes 2 r.params.stepLimit ++ beBytes 2 r.params.uLo ++
    beBytes 2 r.params.uHi ++ beBytes 2 r.params.u0 ++ beBytes 1 r.params.nSat ++
    beBytes 4 r.params.lowStart ++ beBytes 2 r.params.lowFlow ++ beBytes 2 r.params.mainFlow ++
    beBytes 4 r.params.topOffVolume ++ beBytes 2 r.params.topOffFlow ++
    beBytes 2 r.params.holdLimit ++ beBytes 1 r.params.missLimit ++ beBytes 1 r.faultAction ++
    r.params.additives.toList.flatMap (fun ad => beBytes 1 ad.code ++ beBytes 2 ad.rate) ++
    beBytes 1 r.params.precision

/-- The settings of SET SCAN, in the order of Table 4-1 (R67). -/
def scanContent (k : ScanSettings) : List Byte :=
  beBytes 1 k.first ++ beBytes 1 k.last ++ signedBytes k.low ++ signedBytes k.high ++
    beBytes 1 k.staleLimit

/-- The lane a record request names on the wire: a byte from the supervisor, nothing from a lane link
(R159). -/
def laneContent (port : Port) (lane : Nat) : List Byte :=
  match port with
  | .lane _ => []
  | .supervisor => beBytes 1 lane

/-- The content of the frame of a request, from its kind byte to its last field (R164, Table 11-3); a
command that is no request has none. -/
def requestContent : Instr → List Byte
  | .authorize _ tag arm product package preset =>
    0x01 :: tag :: (beBytes 1 arm ++ beBytes 1 product.val ++ beBytes 1 package ++ beBytes 4 preset)
  | .start _ tag arm => 0x02 :: tag :: beBytes 1 arm
  | .stop _ tag arm => 0x03 :: tag :: beBytes 1 arm
  | .resume _ tag arm => 0x04 :: tag :: beBytes 1 arm
  | .endBatch _ tag arm => 0x05 :: tag :: beBytes 1 arm
  | .abort _ tag arm => 0x06 :: tag :: beBytes 1 arm
  | .armStatus _ tag arm => 0x07 :: tag :: beBytes 1 arm
  | .readFlags _ tag arm => 0x08 :: tag :: beBytes 1 arm
  | .clearFlags _ tag arm mask => 0x09 :: tag :: (beBytes 1 arm ++ beBytes 2 mask.toNat)
  | .readRecord port tag lane => 0x0A :: tag :: laneContent port lane
  | .releaseRecord port tag number lane => 0x0B :: tag :: (beBytes 4 number ++ laneContent port lane)
  | .readTotals _ tag arm => 0x0C :: tag :: beBytes 1 arm
  | .setArmConfig _ tag arm config => 0x20 :: tag :: (beBytes 1 arm ++ configContent config)
  | .setHeaderCapacity _ tag capacity => 0x21 :: tag :: beBytes 2 capacity
  | .setAuthorizeTimeout _ tag seconds => 0x22 :: tag :: beBytes 2 seconds
  | .setWindow _ tag window fields => 0x23 :: tag :: (beBytes 1 window ++ windowContent fields)
  | .setAdditiveService _ tag code setting => 0x24 :: tag :: (beBytes 1 code ++ beBytes 1 setting)
  | .releaseRestricted _ tag arm => 0x25 :: tag :: beBytes 1 arm
  | .readHeader _ tag => [0x26, tag]
  | .readDirectoryEntry _ tag product => 0x30 :: tag :: beBytes 1 product
  | .writeDirectoryEntry _ tag product fields =>
    0x31 :: tag :: (beBytes 1 product ++ beBytes 1 fields.valid ++ beBytes 1 fields.restricted ++
      beBytes 1 fields.page)
  | .readRecipe _ tag page package => 0x32 :: tag :: (beBytes 1 page ++ beBytes 1 package)
  | .writeRecipe _ tag page package fields =>
    0x33 :: tag :: (beBytes 1 page ++ beBytes 1 package ++ recipeContent fields)
  | .flushAll _ tag => [0x34, tag]
  | .flushProduct _ tag product => 0x35 :: tag :: beBytes 1 product
  | .clearUsage _ tag product => 0x36 :: tag :: beBytes 1 product
  | .setScan _ tag settings => 0x40 :: tag :: scanContent settings
  | .startScan _ tag => [0x41, tag]
  | .stopScan _ tag => [0x42, tag]
  | .readProbes _ tag => [0x43, tag]
  | .setMonitor _ tag mode arm => 0x48 :: tag :: (beBytes 1 mode ++ beBytes 1 arm)
  | .setAlertModes _ tag lane selection => 0x49 :: tag :: (beBytes 1 lane ++ [selection])
  | .restart _ tag => [0x7F, tag]
  | .frameGapTimeout _ => []
  | .responseSent _ => []
  | .powerOnReset => []
  | .meterPulseA _ _ => []
  | .meterPulseB _ _ => []
  | .permissiveLost _ => []
  | .verifyEdge _ _ => []
  | .authorizeTimerExpiry _ => []
  | .holdTimerExpiry _ => []
  | .drainExpiry _ => []
  | .windowExpiry _ => []
  | .bauTakeRequest => []
  | .computationComplete => []
  | .headExamination => []
  | .releaseLapse _ => []
  | .conversionComplete _ => []
  | .staleExpiry _ => []
  | .pulseEnd _ _ => []
  | .verifyTimeout _ _ => []
  | .pwmPeriodStart _ => []
  | .storeOperationStart => []
  | .walkCompletion _ => []
  | .dispensedCompletion _ => []
  | .checkpointCompletion _ => []
  | .closeCompletion _ => []
  | .recordFreeCompletion _ => []
  | .supReadCompletion _ => []
  | .supWriteCompletion _ => []
  | .usageClearCompletion _ => []
  | .storeLoadEnd _ => []
  | .restartReset => []
  | .packetSent => []
  | .frameByteReceived _ _ => []
  | .permissiveReturns _ => []

end Sys2Proof.Machine
end

