-- ==== Sys2Proof/Machine/LinkEvents.lean ====
section
/-! DEFINITION. The events of the links and of the monitor line: a byte received (R165, R166), the gap
between two bytes (R165), a response sent (R168) and a packet sent (R183). -/

namespace Sys2Proof.Machine

open Sys2Proof

/-! ## Receiving -/

/-- The longest gap between two bytes of a frame: 20 ms, in µs (R165). -/
def gapLimit : Nat := 20000

/-- A request whose frame carries its content `bytes`, the kind byte first: taken by its port (R166). A
frame with no tag is answered with a tag of 0. -/
def State.takeFrame (s : State) (p : Port) (bytes : List Byte) : State :=
  let c : Caller := ⟨p, (bytes.tail.head?).getD 0, (bytes.head?).getD 0⟩
  if s.flooded p then s
  else
    match s.frontCheck c with
    | some r => s.refuse c r
    | none =>
      if bytes.length ≠ fieldsLength p c.code.toNat + 2 then s.refuse c .badField
      else takeFields c (bytes.drop 2) s

/-- The length byte of a frame ends it at once when it is 0 or above 240 (R165). -/
def badLength (b : Byte) : Bool := b.toNat == 0 || decide (240 < b.toNat)

/-- The bytes taken after the sync byte, from the length byte to the check word, make a whole frame
(Table 11-1). -/
def frameWhole (bytes : List Byte) : Bool :=
  match bytes with
  | n :: rest => decide (n.toNat + 2 ≤ rest.length)
  | [] => false

/-- The check word formed over the length byte, the kind byte and the payload agrees with the two bytes
received (R164, R165). -/
def frameGood (bytes : List Byte) : Bool :=
  let body := bytes.dropLast.dropLast
  beBytes 2 (crc16 body).toNat == bytes.drop body.length

/-- A port's receiver replaced. -/
def State.setReceiver (s : State) (p : Port) (r : Receiver) : State :=
  s.setPort p fun lp => { lp with receiver := r }

/-- A byte in HUNTING: a sync byte starts a frame, and any other byte is dropped (R165). -/
def State.hunt (s : State) (p : Port) (b : Byte) : State :=
  if b = 0xA5 then s.setReceiver p (.collecting [] s.now) else s.setReceiver p .hunting

/-- A byte in COLLECTING that came in time (R165). -/
def State.collect (s : State) (p : Port) (bytes : List Byte) (b : Byte) : State :=
  if bytes.isEmpty && badLength b then s.setReceiver p .hunting
  else
    let all := bytes ++ [b]
    if frameWhole all then
      let t := s.setReceiver p .hunting
      if frameGood all then t.takeFrame p all.tail.dropLast.dropLast else t
    else s.setReceiver p (.collecting all s.now)

/-- A byte received on a link. A byte more than 20 ms after the last one ends the gap: the partial frame is
dropped and the byte is treated as any byte in HUNTING (R165). -/
def State.receive (s : State) (p : Port) (b : Byte) : State :=
  match (s.port p).receiver with
  | .hunting => s.hunt p b
  | .collecting bytes last =>
    if last + gapLimit < s.now then s.hunt p b else s.collect p bytes b

/-- FRAME_BYTE_RECEIVED (R165, R166). -/
def execFrameByteReceived (port : Port) (byte : Byte) (s : State) :
    Host.Outcome State Fault Refusal :=
  .next (s.receive port byte)

/-- The gap between two bytes of a frame runs out: the partial frame is dropped (R165). "More than 20 ms" has no first
instant: the model lets the timeout act at exactly 20 ms after the last byte, so a byte of that same instant is taken in
HUNTING when it comes after the timeout, and is still collected when it comes without it (DESIGN CHOICE, unsafe, log
entry 29). -/
def State.gapRunsOut (s : State) (p : Port) : State :=
  match (s.port p).receiver with
  | .collecting _ last => (s.reach (last + gapLimit)).setReceiver p .hunting
  | .hunting => s

/-- FRAME_GAP_TIMEOUT (R165). -/
def execFrameGapTimeout (port : Port) (s : State) : Host.Outcome State Fault Refusal :=
  .next (s.gapRunsOut port)

/-! ## Sending -/

/-- A port whose response has been sent: the oldest response of its transmit queue begins (R168). -/
def LinkPort.sent (lp : LinkPort) : LinkPort :=
  match lp.transmit with
  | r :: rest => { lp with sending := some r, transmit := rest }
  | [] => { lp with sending := none }

/-- RESPONSE_SENT (R168). -/
def execResponseSent (port : Port) (s : State) : Host.Outcome State Fault Refusal :=
  .next (if (s.port port).sending.isSome then s.setPort port LinkPort.sent else s)

/-- The monitor line once its packet has been sent, at instant `now`: the oldest packet of the queue begins
(R183). -/
def Monitor.sent (m : Monitor) (now : Nat) : Monitor :=
  match m.queue with
  | p :: rest => { m with sending := some ⟨p, now⟩, queue := rest }
  | [] => { m with sending := none }

/-- The packet being sent has been sent (R183). -/
def State.packetSent (s : State) : State :=
  match s.monitor.sending with
  | some k =>
    let s := s.reach (k.began + k.packet.sendTime)
    { s with monitor := s.monitor.sent s.now }
  | none => s

/-- PACKET_SENT (R183). -/
def execPacketSent (s : State) : Host.Outcome State Fault Refusal := .next s.packetSent

end Sys2Proof.Machine
end

