-- ==== Sys2Proof/Machine/Alerts.lean ====
section
/-! DEFINITION. The output lines of the Alert and Monitor block, as functions of the state they follow: the alert
lines (R179, R180) and the level of the monitor line (R183). -/

namespace Sys2Proof.Machine

open Sys2Proof

/-- The two arms of a lane: 2L and 2L + 1 (00_scope section 3). -/
def armsOf (l : LaneId) : List ArmId := [⟨2 * l.val, by omega⟩, ⟨2 * l.val + 1, by omega⟩]

/-- The conditions of Table 12-1 that hold for a lane, in table order, HELD in the least significant
bit (R179). -/
def State.laneConditions (s : State) (l : LaneId) : BitVec 5 :=
  BitVec.ofBoolListLE
    [(armsOf l).any fun a => (s.arm a).state.isHeld,
      (armsOf l).any fun a => decide ((s.arm a).flags ≠ 0),
      !s.lanes[l].records.isEmpty,
      (armsOf l).any fun a => decide ((s.arm a).state = .waitingHeader),
      (armsOf l).any fun a => decide ((s.arm a).state = .authorized)]

/-- A lane's alert line: active while at least one selected condition holds (R179). -/
def State.laneAlert (s : State) (l : LaneId) : Bool :=
  decide (s.laneConditions l &&& s.lanes[l].alertSelection ≠ 0)

/-- The supervisor alert line (R180). -/
def State.supervisorAlert (s : State) : Bool :=
  (allArms.any fun a => decide ((s.arm a).flags ≠ 0)) ||
    (s.scanner.records.toList.any fun p => decide (p.state = .stale)) ||
    s.monitor.overflow || decide (s.load = .loadFailed)

/-- The level of one of the ten bits of a byte on the monitor line, `true` for marking: one start bit, eight data
bits least significant first, one stop bit (R183). -/
def lineBit (b : Byte) (i : Nat) : Bool :=
  if i = 0 then false else if i ≤ 8 then b.getLsbD (i - 1) else true

/-- The level of a run of bytes on the monitor line, bit `n` of the run; the line marks after the last. -/
def lineLevel (bytes : List Byte) (n : Nat) : Bool :=
  match bytes[n / 10]? with
  | some b => lineBit b (n % 10)
  | none => true

/-- The level of the monitor line, `true` for marking: the bit of the packet being sent that 115,200 bit/s have
reached since its beginning, and marking when no packet is being sent (R183). -/
def State.monitorLine (s : State) : Bool :=
  match s.monitor.sending with
  | some k => lineLevel k.packet.bytes ((s.now - k.began) * 115200 / 1000000)
  | none => true

end Sys2Proof.Machine
end

