-- ==== Sys2Proof/Machine/Dispatch.lean ====
section
/-! DEFINITION. The dispatch: one arm per command, each one call of the command's meaning. -/

namespace Sys2Proof.Machine

open Sys2Proof

/-- The effect of a command on everything but the queue of waiting commands. -/
def exec (i : Instr) (s : State) : Host.Outcome State Fault Refusal :=
  match i with
  | .authorize port tag arm product package preset => Sys2Proof.Machine.execAuthorize port tag arm product package preset s
  | .start port tag arm => Sys2Proof.Machine.execStart port tag arm s
  | .stop port tag arm => Sys2Proof.Machine.execStop port tag arm s
  | .resume port tag arm => Sys2Proof.Machine.execResume port tag arm s
  | .endBatch port tag arm => Sys2Proof.Machine.execEndBatch port tag arm s
  | .abort port tag arm => Sys2Proof.Machine.execAbort port tag arm s
  | .armStatus port tag arm => Sys2Proof.Machine.execArmStatus port tag arm s
  | .readFlags port tag arm => Sys2Proof.Machine.execReadFlags port tag arm s
  | .clearFlags port tag arm mask => Sys2Proof.Machine.execClearFlags port tag arm mask s
  | .readRecord port tag lane => Sys2Proof.Machine.execReadRecord port tag lane s
  | .releaseRecord port tag number lane => Sys2Proof.Machine.execReleaseRecord port tag number lane s
  | .readTotals port tag arm => Sys2Proof.Machine.execReadTotals port tag arm s
  | .setArmConfig port tag arm config => Sys2Proof.Machine.execSetArmConfig port tag arm config s
  | .setHeaderCapacity port tag capacity => Sys2Proof.Machine.execSetHeaderCapacity port tag capacity s
  | .setAuthorizeTimeout port tag seconds => Sys2Proof.Machine.execSetAuthorizeTimeout port tag seconds s
  | .setWindow port tag window fields => Sys2Proof.Machine.execSetWindow port tag window fields s
  | .setAdditiveService port tag code setting => Sys2Proof.Machine.execSetAdditiveService port tag code setting s
  | .releaseRestricted port tag arm => Sys2Proof.Machine.execReleaseRestricted port tag arm s
  | .readHeader port tag => Sys2Proof.Machine.execReadHeader port tag s
  | .readDirectoryEntry port tag product => Sys2Proof.Machine.execReadDirectoryEntry port tag product s
  | .writeDirectoryEntry port tag product fields => Sys2Proof.Machine.execWriteDirectoryEntry port tag product fields s
  | .readRecipe port tag page package => Sys2Proof.Machine.execReadRecipe port tag page package s
  | .writeRecipe port tag page package fields => Sys2Proof.Machine.execWriteRecipe port tag page package fields s
  | .flushAll port tag => Sys2Proof.Machine.execFlushAll port tag s
  | .flushProduct port tag product => Sys2Proof.Machine.execFlushProduct port tag product s
  | .clearUsage port tag product => Sys2Proof.Machine.execClearUsage port tag product s
  | .setScan port tag settings => Sys2Proof.Machine.execSetScan port tag settings s
  | .startScan port tag => Sys2Proof.Machine.execStartScan port tag s
  | .stopScan port tag => Sys2Proof.Machine.execStopScan port tag s
  | .readProbes port tag => Sys2Proof.Machine.execReadProbes port tag s
  | .setMonitor port tag mode arm => Sys2Proof.Machine.execSetMonitor port tag mode arm s
  | .setAlertModes port tag lane selection => Sys2Proof.Machine.execSetAlertModes port tag lane selection s
  | .restart port tag => Sys2Proof.Machine.execRestart port tag s
  | .frameGapTimeout port => Sys2Proof.Machine.execFrameGapTimeout port s
  | .responseSent port => Sys2Proof.Machine.execResponseSent port s
  | .powerOnReset => Sys2Proof.Machine.execPowerOnReset s
  | .meterPulseA arm meter => Sys2Proof.Machine.execMeterPulseA arm meter s
  | .meterPulseB arm meter => Sys2Proof.Machine.execMeterPulseB arm meter s
  | .permissiveLost arm => Sys2Proof.Machine.execPermissiveLost arm s
  | .verifyEdge arm slot => Sys2Proof.Machine.execVerifyEdge arm slot s
  | .authorizeTimerExpiry arm => Sys2Proof.Machine.execAuthorizeTimerExpiry arm s
  | .holdTimerExpiry arm => Sys2Proof.Machine.execHoldTimerExpiry arm s
  | .drainExpiry arm => Sys2Proof.Machine.execDrainExpiry arm s
  | .windowExpiry arm => Sys2Proof.Machine.execWindowExpiry arm s
  | .bauTakeRequest => Sys2Proof.Machine.execBauTakeRequest s
  | .computationComplete => Sys2Proof.Machine.execComputationComplete s
  | .headExamination => Sys2Proof.Machine.execHeadExamination s
  | .releaseLapse arm => Sys2Proof.Machine.execReleaseLapse arm s
  | .conversionComplete code => Sys2Proof.Machine.execConversionComplete code s
  | .staleExpiry channel => Sys2Proof.Machine.execStaleExpiry channel s
  | .pulseEnd arm slot => Sys2Proof.Machine.execPulseEnd arm slot s
  | .verifyTimeout arm slot => Sys2Proof.Machine.execVerifyTimeout arm slot s
  | .pwmPeriodStart arm => Sys2Proof.Machine.execPwmPeriodStart arm s
  | .storeOperationStart => Sys2Proof.Machine.execStoreOperationStart s
  | .walkCompletion fault => Sys2Proof.Machine.execWalkCompletion fault s
  | .dispensedCompletion fault => Sys2Proof.Machine.execDispensedCompletion fault s
  | .checkpointCompletion fault => Sys2Proof.Machine.execCheckpointCompletion fault s
  | .closeCompletion fault => Sys2Proof.Machine.execCloseCompletion fault s
  | .recordFreeCompletion fault => Sys2Proof.Machine.execRecordFreeCompletion fault s
  | .supReadCompletion fault => Sys2Proof.Machine.execSupReadCompletion fault s
  | .supWriteCompletion fault => Sys2Proof.Machine.execSupWriteCompletion fault s
  | .usageClearCompletion fault => Sys2Proof.Machine.execUsageClearCompletion fault s
  | .storeLoadEnd failing => Sys2Proof.Machine.execStoreLoadEnd failing s
  | .restartReset => Sys2Proof.Machine.execRestartReset s
  | .packetSent => Sys2Proof.Machine.execPacketSent s
  | .frameByteReceived port byte => Sys2Proof.Machine.execFrameByteReceived port byte s
  | .permissiveReturns arm => Sys2Proof.Machine.execPermissiveReturns arm s

end Sys2Proof.Machine
end

