-- ==== Sys2Proof/Safety.lean ====
section
/-! DEFINITION. The terms in which the claims speak: which commands are requests and when a port takes one
(R166, R168), and the laws of the device as predicates of a state. -/

namespace Sys2Proof.Machine

open Sys2Proof

/-! ## Requests -/

/-- The request a command is, if it is one: who asks, and the arm or lane it names (Table 11-3). -/
def requestOf : Instr → Option (Caller × Names)
  | .authorize port tag arm _ _ _ => some (⟨port, tag, 0x01⟩, .arm arm)
  | .start port tag arm => some (⟨port, tag, 0x02⟩, .arm arm)
  | .stop port tag arm => some (⟨port, tag, 0x03⟩, .arm arm)
  | .resume port tag arm => some (⟨port, tag, 0x04⟩, .arm arm)
  | .endBatch port tag arm => some (⟨port, tag, 0x05⟩, .arm arm)
  | .abort port tag arm => some (⟨port, tag, 0x06⟩, .arm arm)
  | .armStatus port tag arm => some (⟨port, tag, 0x07⟩, .arm arm)
  | .readFlags port tag arm => some (⟨port, tag, 0x08⟩, .arm arm)
  | .clearFlags port tag arm _ => some (⟨port, tag, 0x09⟩, .arm arm)
  | .readRecord port tag lane => some (⟨port, tag, 0x0A⟩, .lane lane)
  | .releaseRecord port tag _ lane => some (⟨port, tag, 0x0B⟩, .lane lane)
  | .readTotals port tag arm => some (⟨port, tag, 0x0C⟩, .arm arm)
  | .setArmConfig port tag arm _ => some (⟨port, tag, 0x20⟩, .arm arm)
  | .setHeaderCapacity port tag _ => some (⟨port, tag, 0x21⟩, .nothing)
  | .setAuthorizeTimeout port tag _ => some (⟨port, tag, 0x22⟩, .nothing)
  | .setWindow port tag _ _ => some (⟨port, tag, 0x23⟩, .nothing)
  | .setAdditiveService port tag _ _ => some (⟨port, tag, 0x24⟩, .nothing)
  | .releaseRestricted port tag arm => some (⟨port, tag, 0x25⟩, .arm arm)
  | .readHeader port tag => some (⟨port, tag, 0x26⟩, .nothing)
  | .readDirectoryEntry port tag _ => some (⟨port, tag, 0x30⟩, .nothing)
  | .writeDirectoryEntry port tag _ _ => some (⟨port, tag, 0x31⟩, .nothing)
  | .readRecipe port tag _ _ => some (⟨port, tag, 0x32⟩, .nothing)
  | .writeRecipe port tag _ _ _ => some (⟨port, tag, 0x33⟩, .nothing)
  | .flushAll port tag => some (⟨port, tag, 0x34⟩, .nothing)
  | .flushProduct port tag _ => some (⟨port, tag, 0x35⟩, .nothing)
  | .clearUsage port tag _ => some (⟨port, tag, 0x36⟩, .nothing)
  | .setScan port tag _ => some (⟨port, tag, 0x40⟩, .nothing)
  | .startScan port tag => some (⟨port, tag, 0x41⟩, .nothing)
  | .stopScan port tag => some (⟨port, tag, 0x42⟩, .nothing)
  | .readProbes port tag => some (⟨port, tag, 0x43⟩, .nothing)
  | .setMonitor port tag _ arm => some (⟨port, tag, 0x48⟩, .arm arm)
  | .setAlertModes port tag lane _ => some (⟨port, tag, 0x49⟩, .lane lane)
  | .restart port tag => some (⟨port, tag, 0x7F⟩, .nothing)
  | .frameGapTimeout _ => none
  | .responseSent _ => none
  | .powerOnReset => none
  | .meterPulseA _ _ => none
  | .meterPulseB _ _ => none
  | .permissiveLost _ => none
  | .verifyEdge _ _ => none
  | .authorizeTimerExpiry _ => none
  | .holdTimerExpiry _ => none
  | .drainExpiry _ => none
  | .windowExpiry _ => none
  | .bauTakeRequest => none
  | .computationComplete => none
  | .headExamination => none
  | .releaseLapse _ => none
  | .conversionComplete _ => none
  | .staleExpiry _ => none
  | .pulseEnd _ _ => none
  | .verifyTimeout _ _ => none
  | .pwmPeriodStart _ => none
  | .storeOperationStart => none
  | .walkCompletion _ => none
  | .dispensedCompletion _ => none
  | .checkpointCompletion _ => none
  | .closeCompletion _ => none
  | .recordFreeCompletion _ => none
  | .supReadCompletion _ => none
  | .supWriteCompletion _ => none
  | .usageClearCompletion _ => none
  | .storeLoadEnd _ => none
  | .restartReset => none
  | .packetSent => none
  | .frameByteReceived _ _ => none
  | .permissiveReturns _ => none

/-- A port takes a request: its transmit queue is below its limit and none of the six conditions of R166
applies (R166, R168). -/
def State.takes (s : State) (c : Caller) (names : Names) : Prop :=
  s.flooded c.port = false ∧ s.portCheck c names = none

/-- The bytes of a frame that carries `content`, its kind byte first (Table 11-1). -/
def frameOf (content : List Byte) : List Byte :=
  0xA5 :: withCheckWord (BitVec.ofNat 8 content.length :: content)

/-- A run of bytes received on a link, one after another. -/
def State.receiveAll (s : State) (p : Port) (bytes : List Byte) : State :=
  bytes.foldl (fun s b => s.receive p b) s

/-! ## Laws of the device -/

/-- The sum of the grants never exceeds the header capacity (R149). -/
def State.grantsWithinCapacity (s : State) : Prop := s.header.granted ≤ s.header.capacity

/-- The recipe store is in its canonical form. -/
def State.storeCanonical (s : State) : Prop := Store.wf s.store = true

/-- The arithmetic queue holds at most one request per arm (R80). -/
def State.oneRequestPerArm (s : State) : Prop := (s.arithmeticQueue.map (·.arm)).Nodup

/-- The store queue holds at most one CHECKPOINT per arm (R103). -/
def State.oneCheckpointPerArm (s : State) : Prop :=
  ∀ a : ArmId, (s.storeQueue.filter (·.op.isCheckpoint a)).length ≤ 1

/-- A port's transmit queue and its outstanding request together are at most five, so a fifth entry stands
only when nothing is outstanding (R168). -/
def LinkPort.bounded (lp : LinkPort) : Prop :=
  lp.transmit.length + (if lp.outstanding.isSome then 1 else 0) ≤ 5

/-- Every transmit queue is bounded (R168). -/
def State.transmitBounded (s : State) : Prop := ∀ p : Fin 5, s.ports[p].bounded

/-- The packet queue holds at most 8 packets (Table 12-2). -/
def State.packetsBounded (s : State) : Prop := s.monitor.queue.length ≤ 8

/-- The counts of a meter are in the ranges of Table 3-1. -/
def Meter.inRange (m : Meter) : Prop :=
  m.countA ≤ 65535 ∧ m.countB ≤ 65535 ∧ m.mismatch ≤ 2 ∧ m.idleCount ≤ 9 ∧
    m.unauthorized ≤ 4294967295

/-- The counts of the delivery checks are in the ranges of Table 1-2. -/
def Figures.checksInRange (f : Figures) : Prop :=
  f.overspeed ≤ 2 ∧ f.excursion ≤ 2 ∧ f.ethanolOnly ≤ 2 ∧ f.grace ≤ 2

/-- The counts an arm holds are in range (Tables 1-2, 3-1 and 5-1). -/
def Arm.countsInRange (arm : Arm) : Prop :=
  arm.meterG.inRange ∧ arm.meterE.inRange ∧ arm.overrun ≤ 65535 ∧
    ∀ b ∈ arm.batch, b.figures.checksInRange

/-- The counts of every arm are in range. -/
def State.countsInRange (s : State) : Prop := ∀ a : ArmId, (s.arm a).countsInRange

/-- A probe record holds together: a GOOD record has fewer than four rejects, its stale timer runs exactly
in GOOD and SUSPECT, and T_last is absent exactly in NONE (R70, R72, R76, Table 4-3). -/
def ProbeRecord.sound (p : ProbeRecord) : Prop :=
  p.rejects ≤ 255 ∧ (p.state = .good → p.rejects ≤ 3) ∧
    (p.staleTimer.isSome = true ↔ p.state = .good ∨ p.state = .suspect) ∧
    (p.last = none ↔ p.state = .none)

/-- Every probe record holds together. -/
def State.probesSound (s : State) : Prop := ∀ c : Channel, s.scanner.records[c].sound

/-- A component's pulses, gross volume and residue in a batch: the pulses times 1,000,000 are the volume
times the meter factor plus the residue, and the residue is below the factor (R6). -/
def metered (factor pulses gross residue : Nat) : Prop :=
  pulses * 1000000 = gross * factor + residue ∧ residue < factor

/-- The metering law of an arm (R6); an IDLE arm holds no batch (R2). -/
def Arm.meteringLaw (arm : Arm) : Prop :=
  (arm.state = .idle → arm.batch = none) ∧
    ∀ c ∈ arm.config, 0 < c.factorG ∧ 0 < c.factorE ∧
      ∀ b ∈ arm.batch,
        metered c.factorG b.figures.pulsesG b.figures.vg b.figures.grossResidueG ∧
          metered c.factorE b.figures.pulsesE b.figures.ve b.figures.grossResidueE

/-- The metering law of every arm (R6). -/
def State.meteringLaw (s : State) : Prop := ∀ a : ArmId, (s.arm a).meteringLaw

/-- The demand of an admitted batch is at most the demand at its net blend, and so never exceeds its E_goal
(R9). -/
def Arm.demandFollows (arm : Arm) : Prop :=
  arm.state.admitted = true →
    ∀ b ∈ arm.batch, ∀ fx ∈ b.fixed,
      b.figures.demand ≤ demandAt fx (b.figures.ng + b.figures.ne) ∧ b.figures.demand ≤ fx.goal

/-- The demand law of every arm (R9). -/
def State.demandFollows (s : State) : Prop := ∀ a : ArmId, (s.arm a).demandFollows

/-- The keys of the valid cache entries, in place order. -/
def State.cachedKeys (s : State) : List Key := s.cache.toList.filterMap fun e => e.map (·.key)

/-- The keys of the walk list, in order. -/
def State.walkKeys (s : State) : List Key := s.walks.map (·.key)

/-- The key of a WALK operation. -/
def StoreOp.walkKey : StoreOp → Option Key
  | .walk key => some key
  | _ => none

/-- The keys of the WALK operations, the current one first and then the waiting ones in order. -/
def State.walkOps (s : State) : List Key :=
  (s.current.toList.map (·.op) ++ s.storeQueue.map (·.op)).filterMap StoreOp.walkKey

/-- The cache and the walk list hold together: no key twice among the valid entries and the walks (R120),
an entry lies in its key's set (R111), each WALK has its entry and a current one's is CURRENT (R119). -/
def State.keysDistinct (s : State) : Prop :=
  (s.cachedKeys ++ s.walkKeys).Nodup ∧ s.walkOps.Nodup ∧ (∀ k ∈ s.walkOps, k ∈ s.walkKeys) ∧
    (∀ i : Fin 32, ∀ e ∈ s.cache[i], i.val / 4 = (e.key.product + e.key.package) % 8) ∧
    ∀ k ∈ s.current.bind (·.op.walkKey), ∃ w ∈ s.walks, w.key = k ∧ w.current = true

/-- What an arm holds in each of its states (Table 2-1, R25, R29, R38, R52, R53, R141, R154, R156). -/
structure Arm.coherent (arm : Arm) : Prop where
  batch : arm.batch.isSome = true ↔ arm.state ≠ .idle
  reserved : arm.reserved = true ↔ arm.state ≠ .idle
  opened : arm.opened = true ↔ arm.state.admitted = true
  configured : arm.state ≠ .idle → arm.config.isSome = true
  causes : arm.causes ≠ 0 ↔ arm.state.isHeld = true
  holdTimer : arm.holdTimer.isSome = true ↔ arm.state.isHeld = true
  authorizeTimer : arm.authorizeTimer.isSome = true ↔ arm.state = .authorized
  drainTimer : arm.drainTimer.isSome = true → arm.state = .closing
  valveShut : arm.state ≠ .delivering → arm.u = 0
  commanded : arm.valve.commanded = arm.u
  sameMode : arm.meterG.mode = arm.meterE.mode
  counting : arm.state.underway = true → arm.meterG.mode = .windowCount

/-- The arms waiting on walks. -/
def State.waiters (s : State) : List ArmId := s.walks.flatMap (·.waiters)

/-- The arms hold together with the header queue, the walk list, and the load and restart: an arm is in the
header queue exactly when it is WAITING_HEADER, and once (R146); a waiter is AUTHORIZING and waits on one
walk (R119); while a load runs or a RESTART is pending every arm is IDLE (R176, R177). -/
structure State.coherent (s : State) : Prop where
  arms : ∀ a : ArmId, (s.arm a).coherent
  queue : ∀ a : ArmId, a ∈ s.header.queue.map (·.arm) ↔ (s.arm a).state = .waitingHeader
  queueOnce : (s.header.queue.map (·.arm)).Nodup
  waiting : ∀ a ∈ s.waiters, (s.arm a).state = .authorizing
  waitersOnce : s.waiters.Nodup
  restarting : s.restartPending = true → s.allIdle = true
  loading : ∀ t : Nat, s.load = .loading t → s.allIdle = true

/-- The counts of a stroke cycle hold together: strokes issued never exceed strokes due, and verified and
missed strokes, with one stroke still unresolved in the cycle, never exceed those issued (R127). -/
def Slot.sound (slot : Slot) : Prop :=
  slot.issued ≤ slot.due ∧
    slot.verified + slot.missed +
      (if slot.phase = .stroking .unresolved ∨ slot.phase = .awaitVerify then 1 else 0) ≤ slot.issued

/-- Every slot of an arm that holds no admitted batch is READY; in every state each slot's cycle holds together,
and the strokes due of a slot that serves an additive never exceed those of the gross blend so far (R19,
R126, R127). -/
def Arm.strokesSound (arm : Arm) : Prop :=
  (∀ i : SlotId, arm.slots[i].sound) ∧
    (arm.state.admitted = false → arm.slotsReady = true) ∧
    (arm.state.admitted = true →
      ∀ i : SlotId, ∀ b ∈ arm.batch, ∀ snap ∈ b.snapshot, ∀ c ∈ arm.config,
        ∀ ad ∈ servedAdditive snap c.slots[i],
          arm.slots[i].due ≤
            strokesDue (b.figures.vg + b.figures.ve) ad.rate c.slots[i].strokeVolume)

/-- The strokes of every arm hold together. -/
def State.strokesSound (s : State) : Prop := ∀ a : ArmId, (s.arm a).strokesSound

/-- The valve command of a DELIVERING arm lies within its snapshot's range, and so does the command that a
resume gives back, for a snapshot whose starting command lies in its range (R10, R36, Table 6-4). -/
def Arm.valveWithinRange (arm : Arm) : Prop :=
  ∀ b ∈ arm.batch, ∀ snap ∈ b.snapshot,
    snap.params.uLo ≤ snap.params.u0 → snap.params.u0 ≤ snap.params.uHi →
      (arm.state = .delivering →
        snap.params.uLo ≤ b.figures.u ∧ b.figures.u ≤ snap.params.uHi) ∧
      (arm.state = .held .delivering →
        snap.params.uLo ≤ b.figures.uResume ∧ b.figures.uResume ≤ snap.params.uHi)

/-- The valve command of every arm is within range. -/
def State.valveWithinRange (s : State) : Prop := ∀ a : ArmId, (s.arm a).valveWithinRange

/-- The step from a state ends a store load: a load runs and STORE_LOAD_END is at the front of the queue. -/
def State.endsLoad (s : State) : Prop :=
  (∃ d, s.load = .loading d) ∧ ∃ failing rest, s.pending = .storeLoadEnd failing :: rest

/-- The records in a lane's queue and the reservations of its arms are never more than 6 (R156). -/
def State.placesBounded (s : State) : Prop :=
  ∀ l : LaneId, s.lanes[l].records.length + s.reservations l ≤ 6

/-- The number of an arm's open batch. -/
def Arm.openNumber (arm : Arm) : Option Nat := if arm.opened then arm.batch.bind (·.number) else none

/-- The batch numbers held: those of the queued records, lane by lane, and those of the open batches (R153). -/
def State.heldNumbers (s : State) : List Nat :=
  s.lanes.toList.flatMap (fun lane => lane.records.map (·.record.number)) ++
    allArms.filterMap fun a => (s.arm a).openNumber

/-- No batch number is held twice, and every open batch has one (R153, R154). -/
def State.numbersDistinct (s : State) : Prop :=
  s.heldNumbers.Nodup ∧ ∀ a : ArmId, (s.arm a).opened = true → (s.arm a).openNumber.isSome = true

/-! ## What a command leaves alone -/

/-- The parts of the state, for saying what a command leaves alone. -/
inductive Part where
  | clock | arm (a : ArmId) | arithmeticQueue | bau | scanner | windows | cache | replacement | walks
  | store | storeQueue | current | load | restartPending | authorizeTimeout | inService | header
  | batchCounter | lane (l : LaneId) | port (p : Port) | monitor
deriving DecidableEq, Repr

/-- Two states agree on a part. -/
def Part.same (s t : State) : Part → Prop
  | .clock => t.now = s.now
  | .arm a => t.arm a = s.arm a
  | .arithmeticQueue => t.arithmeticQueue = s.arithmeticQueue
  | .bau => t.bau = s.bau
  | .scanner => t.scanner = s.scanner
  | .windows => t.windows = s.windows
  | .cache => t.cache = s.cache
  | .replacement => t.replacement = s.replacement
  | .walks => t.walks = s.walks
  | .store => t.store = s.store
  | .storeQueue => t.storeQueue = s.storeQueue
  | .current => t.current = s.current
  | .load => t.load = s.load
  | .restartPending => t.restartPending = s.restartPending
  | .authorizeTimeout => t.authorizeTimeout = s.authorizeTimeout
  | .inService => t.inService = s.inService
  | .header => t.header = s.header
  | .batchCounter => t.batchCounter = s.batchCounter
  | .lane l => t.lanes[l] = s.lanes[l]
  | .port p => t.port p = s.port p
  | .monitor => t.monitor = s.monitor

/-- From `s` to `t` nothing changes but the parts that `parts` picks; the queue of waiting commands stands. -/
def State.changesOnly (s t : State) (parts : Part → Bool) : Prop :=
  t.pending = s.pending ∧ ∀ q : Part, parts q = false → q.same s t

/-! ## When an AUTHORIZE passes -/

/-- An enabled window matches a product code that agrees with its base in every binary digit its mask leaves
clear (R95). -/
def StraightWindow.agrees (w : StraightWindow) (product : Nat) : Prop :=
  w.enabled = true ∧
    ∀ i : Nat, w.mask.getLsbD i = false → w.base.getLsbD i = (BitVec.ofNat 8 product).getLsbD i

/-- The window that governs a product code: window 0 before window 1 (R95). -/
def State.governs (s : State) (product : Nat) (w : StraightWindow) : Prop :=
  s.windows[0].agrees product ∧ w = s.windows[0] ∨
    ¬ s.windows[0].agrees product ∧ s.windows[1].agrees product ∧ w = s.windows[1]

/-- No window governs a product code (R95). -/
def State.ungoverned (s : State) (product : Nat) : Prop :=
  ¬ s.windows[0].agrees product ∧ ¬ s.windows[1].agrees product

/-- An arm holds one of the three flags that bar a new batch (R26). -/
def Arm.barred (arm : Arm) : Prop :=
  FlagSet.has arm.flags .meterG = true ∨ FlagSet.has arm.flags .meterE = true ∨
    FlagSet.has arm.flags .store = true

/-- The preset and package of an AUTHORIZE are in range (Table 2-4, check 4). -/
def inBatchRange (package preset : Nat) : Prop :=
  50000 ≤ preset ∧ preset ≤ 60000000 ∧ package ≤ 15

/-- An AUTHORIZE of an arm meets none of the refusals of R27. -/
def State.authorizes (s : State) (a : ArmId) (package preset : Nat) : Prop :=
  (s.arm a).state = .idle ∧ s.restartPending = false ∧ s.load ≠ .loadFailed ∧
    (s.arm a).config.isSome = true ∧ ¬ (s.arm a).barred ∧
    s.lanes[laneOf a].records.length + s.reservations (laneOf a) < 6 ∧ inBatchRange package preset

/-- An additive passes the checks of R100: its code is 0, or a slot of the arm's config carries it and it is in
service. -/
def State.additivePasses (s : State) (c : ArmConfig) (ad : Additive) : Prop :=
  ad.code ≠ 0 → (∃ i : SlotId, c.slots[i].code = ad.code) ∧ s.codeInService ad.code = true

/-- Every additive of a recipe passes (R100). -/
def State.additivesPass (s : State) (c : ArmConfig) (p : Params) : Prop :=
  ∀ ad ∈ p.additives.toList, s.additivePasses c ad

/-- A cache place holds the valid entry of a key (R112). -/
def State.holds (s : State) (e : CacheEntry) : Prop := ∃ i ∈ waysOf e.key, s.cache[i] = some e

/-- The batch that an AUTHORIZE forms, resolved to a snapshot from a page or from a window (R28). -/
def resolvedBatch (key : Key) (preset : Nat) (snap : Snapshot) (page : Option Nat) : Batch :=
  { newBatch key preset with snapshot := some snap, page := page }

/-- An arm that has been authorized at instant `now` with a timeout in seconds (R28, R29). -/
def Arm.authorizedWith (arm : Arm) (batch : Batch) (now timeout : Nat) : Arm :=
  { arm with
    state := .authorized
    authorizeTimer := some (now + timeout * 1000000)
    reserved := true
    batch := some batch
    meterG := { arm.meterG with idleCount := 0 }
    meterE := { arm.meterE with idleCount := 0 } }

/-! ## Holds and strokes -/

/-- An arm as a hold cause leaves it at instant `now`: from DELIVERING or FLUSHING it enters HELD with its hold timer
started, a HELD arm takes the cause into its set, and in any other state nothing changes (R35, R36, R38). -/
def Arm.takesCause (arm : Arm) (c : HoldCause) (now : Nat) : Arm :=
  let timer := some (now + ((arm.snapshot.map (·.params.holdLimit)).getD 0) * 1000 * 1000)
  match arm.state with
  | .delivering =>
    { arm with
      state := .held .delivering
      causes := HoldSet.only c
      holdTimer := timer
      batch := arm.batch.map fun b =>
        { b with figures := { b.figures with uResume := b.figures.u, u := 0 } }
      valve := { arm.valve with commanded := 0 } }
  | .flushing =>
    { arm with state := .held .flushing, causes := HoldSet.only c, holdTimer := timer }
  | .held _ => { arm with causes := HoldSet.add arm.causes c }
  | _ => arm

/-- A slot of an arm meets the start conditions of a stroke under a config and a snapshot (R127, R136). -/
def Arm.strokeDue (arm : Arm) (inService : Vector Bool 6) (c : ArmConfig) (snap : Snapshot)
    (i : SlotId) : Prop :=
  arm.slots[i].phase = .ready ∧ arm.slots[i].issued < arm.slots[i].due ∧
    (arm.state = .delivering ∨ arm.state = .flushing ∨
      arm.state = .closing ∧ arm.drainTimer.isSome = true) ∧
    (∃ ad ∈ snap.params.additives.toList, ad.code = c.slots[i].code) ∧ c.slots[i].code ≠ 0 ∧
    (inService[c.slots[i].code - 1]?).getD true = true

/-- A slot that starts a stroke at instant `now` (R128). -/
def Slot.struck (slot : Slot) (k : SlotConfig) (now : Nat) : Slot :=
  { slot with
    phase := .stroking .unresolved
    pulseTimer := some (now + k.pulseWidth * 1000)
    verifyTimer := some (now + k.verifyTimeout * 1000)
    issued := slot.issued + 1 }

/-- Between two settings of its slots an arm starts, at instant `now`, a stroke in every slot that meets the start
conditions, and its other slots stand (R127, R128). -/
def Arm.startsStrokes (arm : Arm) (inService : Vector Bool 6) (now : Nat)
    (after : Vector Slot 3) : Prop :=
  (∀ c ∈ arm.config, ∀ snap ∈ arm.snapshot, ∀ i : SlotId,
    (arm.strokeDue inService c snap i → after[i] = arm.slots[i].struck c.slots[i] now) ∧
      (¬ arm.strokeDue inService c snap i → after[i] = arm.slots[i])) ∧
  (arm.config = none ∨ arm.snapshot = none → after = arm.slots)

/-- An arm as the emptying of its hold causes leaves it, before its slots strike: back in DELIVERING or FLUSHING with
its check counts 0 and its grace 2, and in DELIVERING its kept valve command applied again (R41). -/
def Arm.resumed (arm : Arm) (o : HeldFrom) : Arm :=
  { arm with
    state := match o with | .delivering => .delivering | .flushing => .flushing
    causes := 0
    holdTimer := none
    batch := arm.batch.map fun b =>
      { b with figures := { b.figures with
        overspeed := 0, excursion := 0, ethanolOnly := 0, grace := 2
        u := match o with | .delivering => b.figures.uResume | .flushing => b.figures.u } }
    valve := match o with
      | .delivering => { arm.valve with commanded := (arm.batch.map (·.figures.uResume)).getD 0 }
      | .flushing => arm.valve }

/-! ## Admission and closing -/

/-- The CHECKPOINT that arm `a` asks for at its admission: its open-batch marker with no volume yet, and its totals
(R34, R104, R154). -/
def State.admissionCheckpoint (s : State) (a : ArmId) (b : Batch) : StoreOp :=
  .checkpointOpen a
    { number := s.nextNumber a
      key := b.key
      preset := b.preset
      vg := 0
      ve := 0
      ng := 0
      ne := 0
      figures :=
        ⟨(s.arm a).totals, (s.arm a).meterG.unauthorized, (s.arm a).meterE.unauthorized⟩ }

/-- A CHECKPOINT of arm `a` is posted between two states: it joins the store queue as R105 gives, and on a store
without a current operation the oldest operation of that queue becomes current at once (R103). `current` is what
the operation current before becomes. -/
def State.postsCheckpoint (s t : State) (a : ArmId) (op : StoreOp) (current : CurrentOp → CurrentOp) :
    Prop :=
  let queue := joinCheckpoint a op s.storeQueue
  (∀ k, s.current = some k →
    t.storeQueue = queue ∧ t.current = some (current k) ∧ t.walks = s.walks) ∧
  (s.current = none → (∀ d : Nat, s.load ≠ .loading d) →
    ∀ w rest, queue = w :: rest →
      t.storeQueue = rest ∧ t.current = some ⟨w.op, s.now, none⟩ ∧
        t.walks = s.walks.map fun x =>
          if w.op = .walk x.key then { x with current := true } else x)

/-- What the admission of an arm does: the values of Table 1-2 and R34, the grant in the grant table, the
batch number, the meters and slots of R53 and R126, the admission CHECKPOINT posted, and a current operation keeping
the batch counter's value of its counter item (R104); a code out of service holds the arm at once (R138).
`reduced` is the marker FLUSH_REDUCED, and `also` picks what else may change. -/
def State.admitsArm (s t : State) (a : ArmId) (b : Batch) (snap : Snapshot) (config : ArmConfig)
    (fx : Fixed) (reduced : Bool) (g : Grant) (also : Part → Bool) : Prop :=
  (t.arm a).state = (if s.additivesInService snap then .delivering else .held .delivering) ∧
  (s.additivesInService snap = false →
    (t.arm a).causes = HoldSet.only .additive ∧
      (t.arm a).holdTimer = some (s.now + snap.params.holdLimit * 1000 * 1000)) ∧
  (t.arm a).authorizeTimer = none ∧ (t.arm a).opened = true ∧ (t.arm a).finalDone = false ∧
  (t.arm a).windowTimer = some (s.now + config.trimPeriod * 1000) ∧
  (t.arm a).windowStart = some s.now ∧ (t.arm a).windowPeriod = some config.trimPeriod ∧
  (t.arm a).meterG =
    { (s.arm a).meterG with mode := .windowCount, countA := 0, countB := 0, mismatch := 0 } ∧
  (t.arm a).meterE =
    { (s.arm a).meterE with mode := .windowCount, countA := 0, countB := 0, mismatch := 0 } ∧
  (∀ i : SlotId, (t.arm a).slots[i] =
    { (s.arm a).slots[i] with due := 0, issued := 0, verified := 0, missed := 0, consecutive := 0 }) ∧
  (t.arm a).batch = some { b with
    fixed := some fx
    number := some (s.nextNumber a)
    figures := { Figures.zero with
      u := if s.additivesInService snap then snap.params.u0 else 0
      uResume := snap.params.u0
      flowLimit := (match g.limit with | none => snap.params.lowFlow | some l => min snap.params.lowFlow l)
      markers := { Markers.clear with flushReduced := reduced } } } ∧
  (t.arm a).valve.commanded = (if s.additivesInService snap then snap.params.u0 else 0) ∧
  t.header.grants = s.header.grants.set a g ∧ t.batchCounter = s.nextNumber a ∧
  s.postsCheckpoint t a (s.admissionCheckpoint a b) (·.noteCounter s.batchCounter s.now) ∧
  s.changesOnly t (fun q => q == .arm a || q == .header || q == .batchCounter || q == .storeQueue ||
    q == .current || q == .walks || also q)

/-- What a batch's entry into CLOSING does: the ending is written, the valve is shut, the causes are emptied,
the hold and authorize timers are stopped, the drain timer starts, every slot with a stroke pending whose start
conditions hold starts it (R127, R136), and a grant still held is released (R45, R147) with the head examination of
R148 in the same event: from the state `m` with the arm closed and its grant 0, the examination goes to `u`, which is
the state after the event but for what `also` picks. Without a grant to release nothing but the arm changes. -/
def State.closesBatch (s t : State) (a : ArmId) (b : Batch) (config : ArmConfig) (e : Ending)
    (also : Part → Bool) : Prop :=
  (let closed : Arm := { s.arm a with
    state := .closing
    causes := 0
    holdTimer := none
    authorizeTimer := none
    drainTimer := some (s.now + config.drainTime * 1000)
    batch := some { b with ending := some e, figures := { b.figures with u := 0 } }
    valve := { (s.arm a).valve with commanded := 0 } }
   t.arm a = { closed with slots := (t.arm a).slots } ∧
    closed.startsStrokes s.inService s.now (t.arm a).slots) ∧
  ((s.arm a).state = .delivering ∨ (s.arm a).state = .held .delivering →
    t.header.grants[a] = ⟨0, none⟩) ∧
  ((s.arm a).state = .delivering ∨ (s.arm a).state = .held .delivering →
    ∃ m u : State, m.arm a = t.arm a ∧
      m.header = { s.header with grants := s.header.grants.set a ⟨0, none⟩ } ∧
      s.changesOnly m (fun q => q == .arm a || q == .header) ∧
      exec .headExamination m = .next u ∧ u.changesOnly t also) ∧
  ((s.arm a).state = .flushing ∨ (s.arm a).state = .held .flushing →
    t.header = s.header ∧ s.changesOnly t (fun q => q == .arm a || also q)) ∧
  (∀ x : ArmId, x ≠ a → x ∉ s.header.queue.map (·.arm) → t.arm x = s.arm x) ∧
  s.changesOnly t (fun q => q == .header || q == .batchCounter || q == .storeQueue ||
    q == .current || q == .walks || also q || match q with | .arm _ => true | _ => false)

/-! ## Net volumes -/

/-- The net volume of a component's window: floor of the gross volume times the VCF plus the residue, over
1,000,000 (R8). -/
def netOf (alpha : Nat) (temperature : Int) (gross residue : Nat) : Nat :=
  (((gross : Int) * (1000000 - roundDiv (alpha * (temperature - 1500)) 100) + residue) /
    1000000).toNat

/-- The net gasoline of a request's window (R6, R8). -/
def TrimRequest.netG (r : TrimRequest) (f : Figures) (p : Params) (c : ArmConfig) : Nat :=
  netOf p.alphaG r.probeG.temperature ((r.pulsesG * 1000000 + f.grossResidueG) / c.factorG)
    f.netResidueG

/-- The net ethanol of a request's window (R6, R8). -/
def TrimRequest.netE (r : TrimRequest) (f : Figures) (p : Params) (c : ArmConfig) : Nat :=
  netOf p.alphaE r.probeE.temperature ((r.pulsesE * 1000000 + f.grossResidueE) / c.factorE)
    f.netResidueE

/-! ## Walk completion -/

/-- A walk's end: its entry leaves the walk list, no operation is current, and nothing changes but the clock,
the arms that waited, the store, the cache and the ports (R122). -/
def State.walkEnds (s t : State) (key : Key) (w : WalkEntry) : Prop :=
  t.walks = s.walks.filter (fun x => decide (x.key ≠ key)) ∧ t.current = none ∧
    s.changesOnly t (fun q => q == .clock || q == .walks || q == .current || q == .store ||
      q == .cache || match q with | .arm a => w.waiters.contains a | .port _ => true | _ => false)

/-- The lane link that waits for arm `a`'s AUTHORIZE has its response formed and is free (R28, R167). -/
def State.walkAnswers (s t : State) (a : ArmId) (result : Result) (body : Body) : Prop :=
  ∀ code tag, (s.port (.lane (laneOf a))).outstanding = some ⟨code, tag, .authorize a⟩ →
    t.port (.lane (laneOf a)) =
      LinkPort.form
        { s.port (.lane (laneOf a)) with
          outstanding := none, seen := (t.port (.lane (laneOf a))).seen }
        ⟨code, tag, result, body⟩

/-- A walk's end in a store failure at instant `now`: the cache stands, and every arm that waited becomes IDLE with its
STORE flag set and is answered STORE_FAULT (R106, R122). -/
def State.walkFails (s t : State) (key : Key) (w : WalkEntry) (now : Nat) : Prop :=
  t.now = max s.now now ∧ s.walkEnds t key w ∧ t.cache = s.cache ∧
    ∀ a ∈ w.waiters,
      t.arm a = { (s.arm a).toIdle with flags := FlagSet.add (s.arm a).flags .store } ∧
        s.walkAnswers t a .storeFault .nothing

end Sys2Proof.Machine

namespace Sys2Proof

/-! ## Ranges of request fields -/

/-- A slot configuration is in the ranges of Table 8-1. -/
def SlotConfig.acceptable (sc : SlotConfig) : Prop :=
  sc.code ≤ 6 ∧ 100 ≤ sc.strokeVolume ∧ sc.strokeVolume ≤ 20000 ∧ 10 ≤ sc.pulseWidth ∧
    sc.pulseWidth ≤ 500 ∧ 50 ≤ sc.verifyTimeout ∧ sc.verifyTimeout ≤ 2000

/-- A calibration is in the ranges of Table 4-1. -/
def Calibration.acceptable (k : Calibration) : Prop :=
  -10000 ≤ k.offset ∧ k.offset ≤ 10000 ∧ k.span ≤ 20000

/-- The config of SET ARM CONFIG is accepted (R125, R174). -/
def ArmConfig.acceptable (c : ArmConfig) : Prop :=
  10000 ≤ c.factorG ∧ c.factorG ≤ 999999 ∧ 10000 ≤ c.factorE ∧ c.factorE ≤ 999999 ∧
    100 ≤ c.trimPeriod ∧ c.trimPeriod ≤ 1000 ∧ c.trimPeriod % 10 = 0 ∧ 500 ≤ c.drainTime ∧
    c.drainTime ≤ 10000 ∧ 1 ≤ c.smoothing ∧ c.smoothing ≤ 16 ∧ 20 ≤ c.pwmPeriod ∧
    c.pwmPeriod ≤ 500 ∧ (∀ i : SlotId, c.slots[i].acceptable) ∧
    (∀ i j : SlotId, i ≠ j → c.slots[i].code = c.slots[j].code → c.slots[i].code = 0) ∧
    c.probeG.acceptable ∧ c.probeE.acceptable

/-- The fields of SET WINDOW are in the ranges of Table 6-5; a byte for enabled or set is 0 or 1 (log entry
15). -/
def WindowFields.acceptable (w : WindowFields) : Prop :=
  w.enable ≤ 1 ∧ w.base ≤ 255 ∧ w.mask ≤ 255 ∧ w.withheld ≤ 1 ∧ w.alphaG ≤ 2000 ∧
    100 ≤ w.mainFlow ∧ w.mainFlow ≤ 6000 ∧ 10 ≤ w.holdLimit ∧ w.holdLimit ≤ 3600 ∧
    ∀ c ∈ w.name.toList, 32 ≤ c.toNat ∧ c.toNat ≤ 126

/-- The settings of SET SCAN are in the ranges of Table 4-1, the low limit not above the high (R67). -/
def ScanSettings.acceptable (k : ScanSettings) : Prop :=
  k.first ≤ 15 ∧ k.last ≤ 15 ∧ -4000 ≤ k.low ∧ k.low ≤ k.high ∧ k.high ≤ 6000 ∧
    5 ≤ k.staleLimit ∧ k.staleLimit ≤ 120

/-- The parameters of a recipe are in the ranges of Table 6-4 and agree with one another (R92). -/
def Params.acceptable (p : Params) : Prop :=
  p.target ≤ 8500 ∧ p.tolerance ≤ 200 ∧ 1000 ≤ p.excursion ∧ p.excursion ≤ 500000 ∧
    p.flush ≤ 2000000 ∧ p.alphaG ≤ 2000 ∧ p.alphaE ≤ 2000 ∧ p.gain ≤ 4000 ∧ 1 ≤ p.stepLimit ∧
    p.stepLimit ≤ 2000 ∧ p.uLo < p.uHi ∧ p.uHi ≤ 10000 ∧ p.uLo ≤ p.u0 ∧ p.u0 ≤ p.uHi ∧
    1 ≤ p.nSat ∧ p.nSat ≤ 255 ∧ p.lowStart ≤ 2000000 ∧ 100 ≤ p.lowFlow ∧ p.lowFlow ≤ 6000 ∧
    100 ≤ p.mainFlow ∧ p.mainFlow ≤ 6000 ∧ p.topOffVolume ≤ 2000000 ∧ 100 ≤ p.topOffFlow ∧
    p.topOffFlow ≤ 6000 ∧ 10 ≤ p.holdLimit ∧ p.holdLimit ≤ 3600 ∧ 1 ≤ p.missLimit ∧
    p.missLimit ≤ 10 ∧ (∀ ad ∈ p.additives.toList, ad.code ≤ 6 ∧ ad.rate ≤ 20000) ∧
    (∀ i j : Fin 3, i ≠ j → p.additives[i].code = p.additives[j].code → p.additives[i].code = 0) ∧
    p.precision ≤ 2

end Sys2Proof

namespace Sys2Proof.Machine

open Sys2Proof

/-! ## The supervisor's store requests -/

/-- The code and operation of a supervisor store request with a tag (R92, R93, R102). -/
def storeRequest (tag : Byte) (i : Instr) : Option (Byte × StoreOp) :=
  match i with
  | .readDirectoryEntry .supervisor x product =>
    if x = tag then some (0x30, .readEntry product) else none
  | .writeDirectoryEntry .supervisor x product f =>
    if x = tag then some (0x31, .writeEntry product ⟨f.valid == 1, f.restricted == 1, false, f.page⟩)
    else none
  | .readRecipe .supervisor x page package =>
    if x = tag then some (0x32, .readRecipe page package) else none
  | .writeRecipe .supervisor x page package f =>
    if x = tag then
      some (0x33, .writeRecipe page package
        ⟨f.valid == 1, f.restricted == 1, false, f.name, if f.kind = 0 then .blend else .straight,
          f.params, if f.faultAction = 0 then .hold else .flag⟩)
    else none
  | .clearUsage .supervisor x product => if x = tag then some (0x36, .usageClear product) else none
  | _ => none

/-- The selectors and fields of a supervisor store request are in range (R92, R93, R102). -/
def storeFieldsOk (i : Instr) : Prop :=
  match i with
  | .readDirectoryEntry _ _ product => product ≤ 255
  | .writeDirectoryEntry _ _ product f =>
    product ≤ 255 ∧ f.valid ≤ 1 ∧ f.restricted ≤ 1 ∧ f.page ≤ 63
  | .readRecipe _ _ page package => page ≤ 63 ∧ package ≤ 15
  | .writeRecipe _ _ page package f =>
    page ≤ 63 ∧ package ≤ 15 ∧ f.valid ≤ 1 ∧ f.restricted ≤ 1 ∧
      (∀ c ∈ f.name.toList, 32 ≤ c.toNat ∧ c.toNat ≤ 126) ∧ f.kind ≤ 1 ∧ f.faultAction ≤ 1 ∧
      f.params.acceptable ∧
      (f.kind = 1 → f.params.target = 0 ∧ f.params.flush = 0 ∧
        ∀ ad ∈ f.params.additives.toList, ad.code = 0)
  | .clearUsage _ _ product => product ≤ 255
  | _ => False

end Sys2Proof.Machine
end

