-- ==== Sys2Proof/WellFormed.lean ====
section
/-! DEFINITION. Well-formed commands: every operand of a request fits the frame field that carries it
(R164), a lane link's record requests name no lane (R159), and a store failure names an item its operation
can have (Table 6-6, R107). A field out of its own range is not ill-formed: refusing it is the request's
rule. -/

namespace Sys2Proof

/-- A number fits a field of `n` bytes. -/
def fits (n v : Nat) : Bool := decide (v < 256 ^ n)

/-- A signed number fits a field of two bytes. -/
def fitsSigned (z : Int) : Bool := decide (-32768 ≤ z) && decide (z ≤ 32767)

/-- An injector slot's fields fit (Table 8-1). -/
def SlotConfig.fits (sc : SlotConfig) : Bool :=
  Sys2Proof.fits 1 sc.code && Sys2Proof.fits 2 sc.strokeVolume && Sys2Proof.fits 2 sc.pulseWidth &&
    Sys2Proof.fits 2 sc.verifyTimeout

/-- A calibration's fields fit (Table 4-1). -/
def Calibration.fits (k : Calibration) : Bool := fitsSigned k.offset && Sys2Proof.fits 2 k.span

/-- The fields of SET ARM CONFIG fit (R174). -/
def ArmConfig.fits (c : ArmConfig) : Bool :=
  Sys2Proof.fits 4 c.factorG && Sys2Proof.fits 4 c.factorE && Sys2Proof.fits 2 c.trimPeriod &&
    Sys2Proof.fits 2 c.drainTime && Sys2Proof.fits 1 c.smoothing && Sys2Proof.fits 2 c.pwmPeriod &&
    c.slots.toList.all SlotConfig.fits && c.probeG.fits && c.probeE.fits

/-- The fields of SET WINDOW fit (Table 6-5). -/
def WindowFields.fits (w : WindowFields) : Bool :=
  Sys2Proof.fits 1 w.enable && Sys2Proof.fits 1 w.base && Sys2Proof.fits 1 w.mask &&
    Sys2Proof.fits 1 w.withheld && Sys2Proof.fits 2 w.alphaG && Sys2Proof.fits 2 w.mainFlow &&
    Sys2Proof.fits 2 w.holdLimit

/-- The fields of SET SCAN fit (R67). -/
def ScanSettings.fits (k : ScanSettings) : Bool :=
  Sys2Proof.fits 1 k.first && Sys2Proof.fits 1 k.last && fitsSigned k.low && fitsSigned k.high &&
    Sys2Proof.fits 1 k.staleLimit

/-- The recipe parameters fit (Table 6-4). -/
def Params.fits (p : Params) : Bool :=
  Sys2Proof.fits 2 p.target && Sys2Proof.fits 1 p.tolerance && Sys2Proof.fits 4 p.excursion &&
    Sys2Proof.fits 4 p.flush && Sys2Proof.fits 2 p.alphaG && Sys2Proof.fits 2 p.alphaE &&
    Sys2Proof.fits 2 p.gain && Sys2Proof.fits 2 p.stepLimit && Sys2Proof.fits 2 p.uLo &&
    Sys2Proof.fits 2 p.uHi && Sys2Proof.fits 2 p.u0 && Sys2Proof.fits 1 p.nSat &&
    Sys2Proof.fits 4 p.lowStart && Sys2Proof.fits 2 p.lowFlow && Sys2Proof.fits 2 p.mainFlow &&
    Sys2Proof.fits 4 p.topOffVolume && Sys2Proof.fits 2 p.topOffFlow &&
    Sys2Proof.fits 2 p.holdLimit && Sys2Proof.fits 1 p.missLimit &&
    p.additives.toList.all (fun ad => Sys2Proof.fits 1 ad.code && Sys2Proof.fits 2 ad.rate) &&
    Sys2Proof.fits 1 p.precision

/-- The fields of WRITE RECIPE fit (R92). -/
def RecipeFields.fits (r : RecipeFields) : Bool :=
  Sys2Proof.fits 1 r.valid && Sys2Proof.fits 1 r.restricted && Sys2Proof.fits 1 r.kind &&
    Sys2Proof.fits 1 r.faultAction && r.params.fits

/-- The fields of WRITE DIRECTORY ENTRY fit (R92). -/
def EntryFields.fits (e : EntryFields) : Bool :=
  Sys2Proof.fits 1 e.valid && Sys2Proof.fits 1 e.restricted && Sys2Proof.fits 1 e.page

/-- The lane a record request names: one byte from the supervisor, none from a lane link (R159). -/
def laneNamed (port : Port) (lane : Nat) : Bool :=
  match port with
  | .lane _ => lane == 0
  | .supervisor => fits 1 lane

/-- A store failure names one of the items an operation can have, at most 34 (R102). -/
def faultNamed (fault : Option StoreFault) : Bool :=
  match fault with
  | some f => decide (f.item < 34)
  | none => true

/-- A command is well-formed. -/
def Instr.wellFormed : Instr → Bool
  | .authorize _ _ arm _ package preset => fits 1 arm && fits 1 package && fits 4 preset
  | .start _ _ arm => fits 1 arm
  | .stop _ _ arm => fits 1 arm
  | .resume _ _ arm => fits 1 arm
  | .endBatch _ _ arm => fits 1 arm
  | .abort _ _ arm => fits 1 arm
  | .armStatus _ _ arm => fits 1 arm
  | .readFlags _ _ arm => fits 1 arm
  | .clearFlags _ _ arm _ => fits 1 arm
  | .readRecord port _ lane => laneNamed port lane
  | .releaseRecord port _ number lane => fits 4 number && laneNamed port lane
  | .readTotals _ _ arm => fits 1 arm
  | .setArmConfig _ _ arm config => fits 1 arm && config.fits
  | .setHeaderCapacity _ _ capacity => fits 2 capacity
  | .setAuthorizeTimeout _ _ seconds => fits 2 seconds
  | .setWindow _ _ window fields => fits 1 window && fields.fits
  | .setAdditiveService _ _ code setting => fits 1 code && fits 1 setting
  | .releaseRestricted _ _ arm => fits 1 arm
  | .readHeader _ _ => true
  | .readDirectoryEntry _ _ product => fits 1 product
  | .writeDirectoryEntry _ _ product fields => fits 1 product && fields.fits
  | .readRecipe _ _ page package => fits 1 page && fits 1 package
  | .writeRecipe _ _ page package fields => fits 1 page && fits 1 package && fields.fits
  | .flushAll _ _ => true
  | .flushProduct _ _ product => fits 1 product
  | .clearUsage _ _ product => fits 1 product
  | .setScan _ _ settings => settings.fits
  | .startScan _ _ => true
  | .stopScan _ _ => true
  | .readProbes _ _ => true
  | .setMonitor _ _ mode arm => fits 1 mode && fits 1 arm
  | .setAlertModes _ _ lane _ => fits 1 lane
  | .restart _ _ => true
  | .frameGapTimeout _ => true
  | .responseSent _ => true
  | .powerOnReset => true
  | .meterPulseA _ _ => true
  | .meterPulseB _ _ => true
  | .permissiveLost _ => true
  | .verifyEdge _ _ => true
  | .authorizeTimerExpiry _ => true
  | .holdTimerExpiry _ => true
  | .drainExpiry _ => true
  | .windowExpiry _ => true
  | .bauTakeRequest => true
  | .computationComplete => true
  | .headExamination => true
  | .releaseLapse _ => true
  | .conversionComplete _ => true
  | .staleExpiry _ => true
  | .pulseEnd _ _ => true
  | .verifyTimeout _ _ => true
  | .pwmPeriodStart _ => true
  | .storeOperationStart => true
  | .walkCompletion fault => faultNamed fault
  | .dispensedCompletion fault => faultNamed fault
  | .checkpointCompletion fault => faultNamed fault
  | .closeCompletion fault => faultNamed fault
  | .recordFreeCompletion fault => faultNamed fault
  | .supReadCompletion fault => faultNamed fault
  | .supWriteCompletion fault => faultNamed fault
  | .usageClearCompletion fault => faultNamed fault
  | .storeLoadEnd failing =>
    match failing with
    | some i => decide (i < 41)
    | none => true
  | .restartReset => true
  | .packetSent => true
  | .frameByteReceived _ _ => true
  | .permissiveReturns _ => true

end Sys2Proof
end

