-- ==== Sys2Proof/Certificates/Slice0/Obligations.lean ====
section
/-! DEFINITION. The statements about the model, each formalising what the rules of spec/ say of the commands,
of the machine's state or of the laws every step keeps. -/

open Sys2Proof Sys2Proof.Machine

/-! ## The machine -/

/-- A step with a command at the front of the queue carries out exactly that command on the state with the
rest of the queue; with no command waiting the block idles for 1 µs, which is the model's choice (log entry
5). -/
def Obligations.StepRunsFrontCommand : Prop :=
  (∀ (c : Instr) (s : State), step { s with pending := c :: s.pending } = exec c s) ∧
  ∀ s : State, s.pending = [] → step s = .next { s with now := s.now + 1 }

/-- No command is refused and none faults: every command answers a next state, leaves the queue of waiting
commands as it was, and never turns the clock back. The model's choices: that no event, a power-on reset among them,
turns the clock back is log entry 5, and that an event without its condition answers a next state is log entry 7. -/
def Obligations.EveryCommandAnswersANextState : Prop :=
  ∀ (c : Instr) (s : State), ∃ t : State,
    exec c s = .next t ∧ t.pending = s.pending ∧ s.now ≤ t.now

/-! ## Laws that every step keeps -/

/-- R149: the sum of the ethanol grants never exceeds the header capacity. -/
def Obligations.GrantsStayWithinCapacity : Prop :=
  ∀ s t : State, s.grantsWithinCapacity → step s = .next t → t.grantsWithinCapacity

/-- The recipe store keeps the one canonical form in which equal stores are equal lists (the model's choice
of representation of R88's items, log entry 3). -/
def Obligations.StoreStaysCanonical : Prop :=
  ∀ s t : State, s.storeCanonical → step s = .next t → t.storeCanonical

/-- R80 and R103: the arithmetic queue holds at most one request per arm, and the store queue at most one
CHECKPOINT per arm. -/
def Obligations.QueuesHoldOneEntryPerArm : Prop :=
  (∀ s t : State, s.oneRequestPerArm → step s = .next t → t.oneRequestPerArm) ∧
  (∀ s t : State, s.oneCheckpointPerArm → step s = .next t → t.oneCheckpointPerArm)

/-- R168, R183 and Tables 1-2, 3-1 and 5-1: a transmit queue with its outstanding request is never more than
five, the packet queue never more than eight, and the counts of meters, checks and overruns stay in range; and R70,
R72 and R76: a GOOD probe record has fewer than four rejects, and its stale timer runs in GOOD and SUSPECT. -/
def Obligations.QueuesAndCountsStayInRange : Prop :=
  (∀ s t : State, s.transmitBounded ∧ s.packetsBounded → step s = .next t →
      t.transmitBounded ∧ t.packetsBounded) ∧
  (∀ s t : State, s.countsInRange → step s = .next t → t.countsInRange) ∧
  (∀ s t : State, s.probesSound → step s = .next t → t.probesSound)

/-- R6: a batch's channel A pulses times 1,000,000 are its gross volume times the meter factor plus the gross
residue, and the residue lies below the factor. -/
def Obligations.MeteringLawIsKept : Prop :=
  ∀ s t : State, s.meteringLaw → step s = .next t → t.meteringLaw

/-- R9 and R2: the demand of a batch never exceeds E_goal; within a batch the volumes and the demand never
decrease, and key, preset, snapshot, fixed quantities and number do not change. -/
def Obligations.DemandAndVolumesFollowTheirLaw : Prop :=
  (∀ s t : State, s.demandFollows → step s = .next t → t.demandFollows) ∧
  (∀ (s t : State) (a : ArmId) (b b' : Batch), s.coherent → s.demandFollows → step s = .next t →
      (s.arm a).state.admitted = true → (t.arm a).state.admitted = true →
      (s.arm a).batch = some b → (t.arm a).batch = some b' →
        b.figures.vg ≤ b'.figures.vg ∧ b.figures.ve ≤ b'.figures.ve ∧
        b.figures.ng ≤ b'.figures.ng ∧ b.figures.ne ≤ b'.figures.ne ∧
        b.figures.demand ≤ b'.figures.demand ∧
        b'.key = b.key ∧ b'.preset = b.preset ∧ b'.snapshot = b.snapshot ∧ b'.fixed = b.fixed ∧
        b'.number = b.number)

/-- R111, R119 and R120: no key stands twice among the valid cache entries and the walk list, every entry lies
in its key's set, and each WALK operation has its walk-list entry. -/
def Obligations.CacheAndWalkKeysStayDistinct : Prop :=
  ∀ s t : State, s.keysDistinct → step s = .next t → t.keysDistinct

/-- Table 2-1 and R146: what an arm holds in each state, an arm in the header queue exactly when it is
WAITING_HEADER and once, waiters AUTHORIZING, and every arm IDLE during a load or a pending restart. The premise that
no key has two walks is the law of R120, stated by CacheAndWalkKeysStayDistinct. -/
def Obligations.ArmsStayCoherent : Prop :=
  ∀ s t : State, s.coherent → s.keysDistinct → step s = .next t → t.coherent

/-- R127: strokes issued never exceed strokes due, and verified plus missed strokes never exceed those issued;
an arm without an admitted batch has every slot READY. -/
def Obligations.StrokeCountsStaySound : Prop :=
  ∀ s t : State, s.coherent → s.strokesSound → step s = .next t → t.strokesSound

/-- R10: the valve command of a DELIVERING arm stays within its snapshot's range. -/
def Obligations.ValveCommandStaysInRange : Prop :=
  ∀ s t : State, s.valveWithinRange → step s = .next t → t.valveWithinRange

/-- R156: a lane's records and the reservations of its arms never exceed six, by any step but the one in which a
STORE_LOAD_END command, at the front of the queue, ends a store load. -/
def Obligations.RecordPlacesStayBounded : Prop :=
  ∀ s t : State, s.coherent → s.placesBounded → ¬ s.endsLoad → step s = .next t → t.placesBounded

/-- R153: the batch numbers of the queued records and of the open batches stay distinct, by any step but the one in
which a STORE_LOAD_END command, at the front of the queue, ends a store load. -/
def Obligations.BatchNumbersStayDistinct : Prop :=
  ∀ s t : State, s.coherent → s.placesBounded → s.numbersDistinct → ¬ s.endsLoad →
    step s = .next t → t.numbersDistinct

/-- The laws above hold in the state right after reset. That the store is canonical there rests on the blank store
that State.reset holds, the model's choice (log entry 3). -/
def Obligations.LawsHoldAtReset : Prop :=
  State.reset.grantsWithinCapacity ∧ State.reset.storeCanonical ∧ State.reset.oneRequestPerArm ∧
    State.reset.oneCheckpointPerArm ∧ State.reset.transmitBounded ∧ State.reset.packetsBounded ∧
    State.reset.countsInRange ∧ State.reset.probesSound ∧ State.reset.meteringLaw ∧
    State.reset.demandFollows ∧ State.reset.keysDistinct ∧ State.reset.coherent ∧
    State.reset.strokesSound ∧ State.reset.valveWithinRange ∧ State.reset.placesBounded ∧
    State.reset.numbersDistinct

/-! ## The links -/

/-- R166 and R168: a request is dropped by a full transmit queue; otherwise the first of the port's conditions
that applies gives the response, and nothing else changes. -/
def Obligations.RequestsMeetThePortChecksInOrder : Prop :=
  ∀ (i : Instr) (c : Caller) (names : Names) (s : State), requestOf i = some (c, names) →
    (4 ≤ (s.port c.port).transmit.length → exec i s = .next s) ∧
    ((s.port c.port).transmit.length < 4 →
      (∀ d : Nat, s.load = .loading d → exec i s = .next (s.refuse c .notReady)) ∧
      ((∀ d : Nat, s.load ≠ .loading d) →
        ((s.port c.port).outstanding.isSome = true → exec i s = .next (s.refuse c .linkBusy)) ∧
        ((s.port c.port).outstanding = none →
          (accepts c.port c.code = false → exec i s = .next (s.refuse c .badRequest)) ∧
          (accepts c.port c.code = true →
            ((∃ n, 7 < n ∧ names = .arm n) ∨
                (∃ n, 3 < n ∧ names = .lane n ∧ c.port = .supervisor) →
              exec i s = .next (s.refuse c .badField)) ∧
            (∀ (n : Nat) (l : LaneId), n ≤ 7 → names = .arm n → c.port = .lane l →
              n / 2 ≠ l.val → exec i s = .next (s.refuse c .notYourArm))))))

/-- R165 and R166: the bytes of a whole frame received one after another on a HUNTING port are taken as the
frame's request when its check word agrees, and leave nothing behind when it does not; a frame of a code the link
accepts whose length is not that of the request's fields is refused BAD_FIELD, with a tag of 0 when it carries
none. -/
def Obligations.FrameBytesSpellARequest : Prop :=
  (∀ (p : Port) (content : List Byte) (s : State), (s.port p).receiver = .hunting →
      0 < content.length → content.length ≤ 240 →
        s.receiveAll p (frameOf content) = s.takeFrame p content) ∧
  (∀ (p : Port) (content word : List Byte) (s : State), (s.port p).receiver = .hunting →
      0 < content.length → content.length ≤ 240 → word.length = 2 →
      word ≠ beBytes 2 (crc16 (BitVec.ofNat 8 content.length :: content)).toNat →
        s.receiveAll p (0xA5 :: BitVec.ofNat 8 content.length :: (content ++ word)) = s) ∧
  (∀ (i : Instr) (c : Caller) (names : Names) (content : List Byte) (s : State),
      requestOf i = some (c, names) → i.wellFormed = true → content.head? = some c.code →
      content.length ≠ (requestContent i).length → accepts c.port c.code = true →
      (s.port c.port).transmit.length < 4 → (s.port c.port).outstanding = none →
      (∀ d : Nat, s.load ≠ .loading d) →
        s.takeFrame c.port content =
          s.refuse ⟨c.port, (content.tail.head?).getD 0, c.code⟩ .badField)

/-- R164 and Table 11-3: the frame of every well-formed request is read back as that request, with every
operand, whatever the state it meets. -/
def Obligations.RequestFramesSpellTheirCommands : Prop :=
  ∀ (i : Instr) (c : Caller) (names : Names) (s : State), requestOf i = some (c, names) →
    i.wellFormed = true → exec i s = .next (s.takeFrame c.port (requestContent i))

/-- R165, R167, R168 and R183: bytes reach the receiver and a gap drops the partial frame; a response begins at
once on an idle line and otherwise joins the tail; a deferred one carries its request's code and tag; what is
sent makes room for the oldest waiting. A packet formed begins at once on an idle monitor line, waits while fewer
than eight wait, and otherwise stops the stream with an overflow; the monitor line carries each byte of the packet
being sent as a start bit, eight data bits least significant first and a stop bit, and marks at rest. The model's
choices: that a response formed on an idle line begins at once (log entry 8), that the gap timeout, which R165 puts
at more than 20 ms, acts at exactly 20 ms after the last byte (log entry 29), that the clock moves to the instant of the
gap or of the packet's end where that lies ahead (log entry 5), and that a bit time of the monitor line begins at the
first whole µs at or after its instant (log entry 21). -/
def Obligations.LinesCarryResponsesInOrder : Prop :=
  (∀ (lp : LinkPort) (r : Response),
      (lp.sending = none → lp.transmit = [] → lp.form r = { lp with sending := some r }) ∧
      (lp.sending ≠ none ∨ lp.transmit ≠ [] → lp.form r = { lp with transmit := lp.transmit ++ [r] }) ∧
      ∀ (w : Work) (result : Result) (body : Body),
        (∀ code tag, lp.outstanding = some ⟨code, tag, w⟩ →
          lp.settle w result body =
            LinkPort.form { lp with outstanding := none } ⟨code, tag, result, body⟩) ∧
        ((∀ code tag, lp.outstanding ≠ some ⟨code, tag, w⟩) → lp.settle w result body = lp)) ∧
  ((∀ (p : Port) (b : Byte) (s : State),
      ((s.port p).receiver = .hunting → b ≠ 0xA5 → exec (.frameByteReceived p b) s = .next s) ∧
      ((s.port p).receiver = .hunting → b = 0xA5 →
        exec (.frameByteReceived p b) s =
          .next (s.setPort p fun lp => { lp with receiver := .collecting [] s.now })) ∧
      (∀ n taken last, (s.port p).receiver = .collecting (n :: taken) last → s.now ≤ last + 20000 →
        taken.length + 1 < n.toNat + 2 →
          exec (.frameByteReceived p b) s =
            .next (s.setPort p fun lp =>
              { lp with receiver := .collecting (n :: (taken ++ [b])) s.now }))) ∧
    (∀ (p : Port) (bytes : List Byte) (last : Nat) (s : State),
      (s.port p).receiver = .collecting bytes last →
        exec (.frameGapTimeout p) s =
          .next (State.setPort { s with now := max s.now (last + 20000) } p
            fun lp => { lp with receiver := .hunting })) ∧
    (∀ (p : Port) (r : Response) (s : State), (s.port p).sending = some r →
      exec (.responseSent p) s =
        .next (s.setPort p fun lp =>
          { lp with sending := lp.transmit.head?, transmit := lp.transmit.tail })) ∧
    (∀ (k : SendingPacket) (s : State), s.monitor.sending = some k →
      let now := max s.now (k.began + (k.packet.size * 10 * 1000000 + 115199) / 115200)
      exec .packetSent s =
        .next { s with
          now := now
          monitor := { s.monitor with
            sending := s.monitor.queue.head?.map fun p => ⟨p, now⟩
            queue := s.monitor.queue.tail } })) ∧
  ((∀ (m : Monitor) (p : Packet) (now : Nat),
      (m.sending = none → m.queue = [] → m.form p now = { m with sending := some ⟨p, now⟩ }) ∧
      (m.sending ≠ none ∨ m.queue ≠ [] →
        (m.queue.length < 8 → m.form p now = { m with queue := m.queue ++ [p] }) ∧
        (8 ≤ m.queue.length →
          m.form p now = { m with queue := [], running := false, overflow := true }))) ∧
    (∀ (s : State) (k : SendingPacket), s.monitor.sending = some k →
      let n := (s.now - k.began) * 115200 / 1000000
      (∀ b, k.packet.bytes[n / 10]? = some b →
        (n % 10 = 0 → s.monitorLine = false) ∧
        (∀ i, n % 10 = i + 1 → i < 8 → s.monitorLine = b.getLsbD i) ∧
        (n % 10 = 9 → s.monitorLine = true)) ∧
      (k.packet.bytes.length * 10 ≤ n → s.monitorLine = true)) ∧
    (∀ s : State, s.monitor.sending = none → s.monitorLine = true) ∧
    ∀ p : Packet, p.bytes.length = p.size)

/-! ## Running a batch -/

/-- R27 and Table 2-4: AUTHORIZE meets its refusals in order, and a refused one changes nothing else. -/
def Obligations.AuthorizeIsRefusedInOrder : Prop :=
  ∀ (tag : Byte) (a : ArmId) (product : Fin 256) (package preset : Nat) (r : Result) (s : State),
    s.takes ⟨.lane (laneOf a), tag, 0x01⟩ (.arm a.val) →
    ((s.arm a).state ≠ .idle ∧ r = .wrongState ∨
      (s.arm a).state = .idle ∧
        (s.restartPending = true ∧ r = .notReady ∨
          s.restartPending = false ∧
            (s.load = .loadFailed ∧ r = .storeFault ∨
              s.load ≠ .loadFailed ∧
                ((s.arm a).config = none ∧ r = .notConfigured ∨
                  (s.arm a).config ≠ none ∧
                    ((s.arm a).barred ∧ r = .faultPending ∨
                      ¬ (s.arm a).barred ∧
                        (6 ≤ s.lanes[laneOf a].records.length + s.reservations (laneOf a) ∧
                            r = .recordsFull ∨
                          s.lanes[laneOf a].records.length + s.reservations (laneOf a) < 6 ∧
                            ¬ inBatchRange package preset ∧ r = .badField)))))) →
      exec (.authorize (.lane (laneOf a)) tag a.val product package preset) s =
        .next (s.refuse ⟨.lane (laneOf a), tag, 0x01⟩ r)

/-- R95: a governing straight-product window resolves an AUTHORIZE in its own event, as WITHHELD or as a
straight delivery whose snapshot is the window's, without a look at cache, release or additives. -/
def Obligations.AuthorizeDeliversAStraightWindow : Prop :=
  ∀ (tag : Byte) (a : ArmId) (product : Fin 256) (package preset : Nat) (w : StraightWindow)
    (s : State),
    s.takes ⟨.lane (laneOf a), tag, 0x01⟩ (.arm a.val) → s.authorizes a package preset →
    s.governs product.val w →
    let c : Caller := ⟨.lane (laneOf a), tag, 0x01⟩
    let command := Instr.authorize (.lane (laneOf a)) tag a.val product package preset
    let snap : Snapshot :=
      { name := w.name
        kind := .straight
        params :=
          { target := 0, tolerance := 0, excursion := 0, flush := 0, alphaG := w.alphaG, alphaE := 0,
            gain := 0, stepLimit := 1, uLo := 0, uHi := 10000, u0 := 0, nSat := 255, lowStart := 0,
            lowFlow := w.mainFlow, mainFlow := w.mainFlow, topOffVolume := 0,
            topOffFlow := w.mainFlow, holdLimit := w.holdLimit, missLimit := 1,
            additives := Vector.replicate 3 ⟨0, 0⟩, precision := 2 }
        faultAction := .flag
        excursionOn := false }
    (w.withheld = true →
      exec command s = .next ((s.setArm a Arm.toIdle).reply c .withheld .nothing)) ∧
    (w.withheld = false →
      exec command s =
        .next ((s.setArm a fun arm =>
          arm.authorizedWith (resolvedBatch ⟨product.val, package⟩ preset snap none) s.now
            s.authorizeTimeout).reply c .ok (.recipe snap)))

/-- R96, R98, R100, R112 and R120: a cached recipe resolves an AUTHORIZE in its own event, a restricted one by the
arm's release; on a miss the arm waits in AUTHORIZING, in the walk of its key or in a new one. -/
def Obligations.AuthorizeLooksTheRecipeUp : Prop :=
  (∀ (tag : Byte) (a : ArmId) (product : Fin 256) (package preset : Nat) (e : CacheEntry)
      (config : ArmConfig) (s : State),
      s.takes ⟨.lane (laneOf a), tag, 0x01⟩ (.arm a.val) → s.authorizes a package preset →
      s.ungoverned product.val → s.keysDistinct → s.holds e → e.key = ⟨product.val, package⟩ →
      (s.arm a).config = some config →
      let c : Caller := ⟨.lane (laneOf a), tag, 0x01⟩
      let command := Instr.authorize (.lane (laneOf a)) tag a.val product package preset
      let looked : State := { s with replacement := s.replacement + 1 }
      (e.restricted = true ∧ (s.arm a).release = none →
        exec command s = .next ((looked.setArm a Arm.toIdle).reply c .restricted .nothing)) ∧
      ((e.restricted = true → (s.arm a).release ≠ none) → s.additivesPass config e.decoded.params →
        exec command s =
          .next ((looked.setArm a fun arm =>
            { arm.authorizedWith (resolvedBatch e.key preset e.decoded (some e.page)) s.now
                s.authorizeTimeout with
              release := if e.restricted then none else arm.release }).reply c .ok
                (.recipe e.decoded))) ∧
      ((e.restricted = true → (s.arm a).release ≠ none) →
        ∀ before ad rest, e.decoded.params.additives.toList = before ++ ad :: rest →
          (∀ x ∈ before, s.additivePasses config x) → ad.code ≠ 0 →
          ((∀ i : SlotId, config.slots[i].code ≠ ad.code) →
            exec command s = .next ((looked.setArm a Arm.toIdle).reply c .noInjector .nothing)) ∧
          ((∃ i : SlotId, config.slots[i].code = ad.code) → s.codeInService ad.code = false →
            exec command s =
              .next ((looked.setArm a Arm.toIdle).reply c .additiveUnavailable .nothing)))) ∧
  (∀ (tag : Byte) (a : ArmId) (product : Fin 256) (package preset : Nat) (s : State),
      s.takes ⟨.lane (laneOf a), tag, 0x01⟩ (.arm a.val) → s.authorizes a package preset →
      s.ungoverned product.val → s.cached ⟨product.val, package⟩ = none →
      let key : Key := ⟨product.val, package⟩
      let command := Instr.authorize (.lane (laneOf a)) tag a.val product package preset
      let waiting : State :=
        { (s.setArm a fun arm =>
            { arm with
              state := .authorizing, reserved := true, batch := some (newBatch key preset) }).setPort
            (.lane (laneOf a)) (fun lp => { lp with outstanding := some ⟨0x01, tag, .authorize a⟩ }) with
          replacement := s.replacement + 1 }
      ((∃ w ∈ s.walks, w.key = key) →
        exec command s =
          .next { waiting with
            walks := s.walks.map fun w =>
              if w.key = key then { w with waiters := w.waiters ++ [a] } else w }) ∧
      ((∀ w ∈ s.walks, w.key ≠ key) → s.current.isSome = true →
        exec command s =
          .next { waiting with
            walks := s.walks ++ [⟨key, false, [a]⟩]
            storeQueue := s.storeQueue ++ [⟨.walk key, false⟩] }) ∧
      ((∀ w ∈ s.walks, w.key ≠ key) → s.current = none → s.storeQueue = [] →
        exec command s =
          .next { waiting with
            walks := s.walks ++ [⟨key, true, [a]⟩]
            current := some ⟨.walk key, s.now, none⟩ }))

/-- R32, R34 and R144: a START that the Header Allotment can serve admits the arm with the values of
admission, writes its grant and its batch number, posts its admission CHECKPOINT (R104, R105), and answers with the
state entered. That this is the state after the event, HELD where an additive of the recipe is out of service, is the
model's choice (log entry 18), and so is which value a counter item under way keeps (log entry 6). -/
def Obligations.StartAdmitsTheArm : Prop :=
  ∀ (tag : Byte) (a : ArmId) (b : Batch) (snap : Snapshot) (config : ArmConfig) (g : Grant)
    (s : State),
    s.takes ⟨.lane (laneOf a), tag, 0x02⟩ (.arm a.val) → s.restartPending = false →
    (s.arm a).state = .authorized → (s.arm a).permissive = true → (s.arm a).batch = some b →
    b.snapshot = some snap → (s.arm a).config = some config →
    let fx := fixedQuantities b.preset snap.params
    let request := ceilDiv (snap.params.mainFlow * fx.fraction) 10000
    let minimum := ceilDiv (snap.params.lowFlow * fx.fraction) 10000
    let free := s.header.capacity - s.header.granted
    (request = 0 ∧ g = ⟨0, none⟩ ∨
      0 < request ∧ s.header.queue = [] ∧ request ≤ free ∧ g = ⟨request, none⟩ ∨
      0 < request ∧ s.header.queue = [] ∧ free < request ∧ minimum ≤ free ∧
        g = ⟨free, some (free * 10000 / fx.fraction)⟩) →
    ∃ t : State, exec (.start (.lane (laneOf a)) tag a.val) s = .next t ∧
      s.admitsArm t a b snap config fx (decide (fx.flush < snap.params.flush)) g
        (fun q => q == .port (.lane (laneOf a))) ∧
      t.header.queue = s.header.queue.filter (fun q => decide (q.arm ≠ a)) ∧
      t.port (.lane (laneOf a)) =
        (s.port (.lane (laneOf a))).form ⟨0x02, tag, .ok, .armState (t.arm a).state⟩

/-- R32, R144 and R146: a START that the Header Allotment cannot serve puts the arm at the tail of the header
queue and answers WAITING_HEADER; outside AUTHORIZED, or without the permissive, it is refused. -/
def Obligations.StartWaitsOrIsRefused : Prop :=
  (∀ (tag : Byte) (a : ArmId) (b : Batch) (snap : Snapshot) (s : State),
      s.takes ⟨.lane (laneOf a), tag, 0x02⟩ (.arm a.val) → (s.arm a).state = .authorized →
      (s.arm a).permissive = true → (s.arm a).batch = some b → b.snapshot = some snap →
      let fx := fixedQuantities b.preset snap.params
      let request := ceilDiv (snap.params.mainFlow * fx.fraction) 10000
      let minimum := ceilDiv (snap.params.lowFlow * fx.fraction) 10000
      let free := s.header.capacity - s.header.granted
      0 < request → s.header.queue ≠ [] ∨ free < request ∧ free < minimum →
        exec (.start (.lane (laneOf a)) tag a.val) s =
          .next (State.reply
            (State.setArm
              { s with header := { s.header with
                  queue := s.header.queue ++ [⟨a, request, minimum⟩] } } a
              fun arm => { arm with
                state := .waitingHeader
                authorizeTimer := none
                meterG := { arm.meterG with idleCount := 0 }
                meterE := { arm.meterE with idleCount := 0 }
                batch := some { b with
                  fixed := some fx
                  figures := { b.figures with markers := { b.figures.markers with
                    flushReduced := decide (fx.flush < snap.params.flush) } } } })
            ⟨.lane (laneOf a), tag, 0x02⟩ .ok (.armState .waitingHeader))) ∧
  (∀ (tag : Byte) (a : ArmId) (s : State), s.takes ⟨.lane (laneOf a), tag, 0x02⟩ (.arm a.val) →
      ((s.arm a).state ≠ .authorized →
        exec (.start (.lane (laneOf a)) tag a.val) s =
          .next (s.refuse ⟨.lane (laneOf a), tag, 0x02⟩ .wrongState)) ∧
      ((s.arm a).state = .authorized → (s.arm a).permissive = false →
        exec (.start (.lane (laneOf a)) tag a.val) s =
          .next (s.refuse ⟨.lane (laneOf a), tag, 0x02⟩ .notPermitted)))

/-- R33 and R35 to R38: STOP adds the cause of its link and the loss of the permissive adds PERMISSIVE, taking a
delivering or flushing arm into HELD with its timer started and its valve shut; a waiting arm that loses the
permissive leaves the header queue for AUTHORIZED, and when it was the head the new head is examined in the same event
(R146, R148). -/
def Obligations.StopAndPermissiveHoldTheArm : Prop :=
  (∀ (p : Port) (tag : Byte) (a : ArmId) (s : State), s.takes ⟨p, tag, 0x03⟩ (.arm a.val) →
      let cause : HoldCause := match p with | .lane _ => .lane | .supervisor => .supervisor
      let limit := ((s.arm a).snapshot.map (·.params.holdLimit)).getD 0
      ((s.arm a).state = .delivering →
        exec (.stop p tag a.val) s =
          .next ((s.setArm a fun arm => { arm with
            state := .held .delivering
            causes := HoldSet.only cause
            holdTimer := some (s.now + limit * 1000 * 1000)
            batch := arm.batch.map fun b =>
              { b with figures := { b.figures with uResume := b.figures.u, u := 0 } }
            valve := { arm.valve with commanded := 0 } }).done ⟨p, tag, 0x03⟩)) ∧
      ((s.arm a).state = .flushing →
        exec (.stop p tag a.val) s =
          .next ((s.setArm a fun arm => { arm with
            state := .held .flushing
            causes := HoldSet.only cause
            holdTimer := some (s.now + limit * 1000 * 1000) }).done ⟨p, tag, 0x03⟩)) ∧
      (∀ o, (s.arm a).state = .held o →
        exec (.stop p tag a.val) s =
          .next ((s.setArm a fun arm => { arm with
            causes := HoldSet.add arm.causes cause }).done ⟨p, tag, 0x03⟩)) ∧
      ((s.arm a).state.underway = false →
        exec (.stop p tag a.val) s = .next (s.refuse ⟨p, tag, 0x03⟩ .wrongState))) ∧
  (∀ (a : ArmId) (s : State),
      let gone := fun arm : Arm => { arm with permissive := false }
      let limit := ((s.arm a).snapshot.map (·.params.holdLimit)).getD 0
      (exec (.permissiveReturns a) s =
        .next (s.setArm a fun arm => { arm with permissive := true })) ∧
      ((s.arm a).permissive = false → exec (.permissiveLost a) s = .next s) ∧
      ((s.arm a).permissive = true →
        ((s.arm a).state.underway = false → (s.arm a).state ≠ .waitingHeader →
          exec (.permissiveLost a) s = .next (s.setArm a gone)) ∧
        ((s.arm a).state = .delivering →
          exec (.permissiveLost a) s =
            .next (s.setArm a fun arm => { gone arm with
              state := .held .delivering
              causes := HoldSet.only .permissive
              holdTimer := some (s.now + limit * 1000 * 1000)
              batch := arm.batch.map fun b =>
                { b with figures := { b.figures with uResume := b.figures.u, u := 0 } }
              valve := { arm.valve with commanded := 0 } })) ∧
        ((s.arm a).state = .flushing →
          exec (.permissiveLost a) s =
            .next (s.setArm a fun arm => { gone arm with
              state := .held .flushing
              causes := HoldSet.only .permissive
              holdTimer := some (s.now + limit * 1000 * 1000) })) ∧
        (∀ o, (s.arm a).state = .held o →
          exec (.permissiveLost a) s =
            .next (s.setArm a fun arm => { gone arm with
              causes := HoldSet.add arm.causes .permissive })) ∧
        ((s.arm a).state = .waitingHeader → s.coherent →
          let left : State :=
            { s.setArm a gone with
              header := { s.header with queue := s.header.queue.filter (·.arm ≠ a) } }
          ∃ t u : State, exec (.permissiveLost a) s = .next t ∧
            (s.header.queue.head?.map (·.arm) = some a → exec .headExamination left = .next u) ∧
            (s.header.queue.head?.map (·.arm) ≠ some a → u = left) ∧
            t = u.setArm a (fun arm => { arm with
              state := .authorized
              authorizeTimer := some (s.now + s.authorizeTimeout * 1000 * 1000)
              meterG := { arm.meterG with idleCount := 0 }
              meterE := { arm.meterE with idleCount := 0 } }) ∧
            u.arm a = gone (s.arm a) ∧ a ∉ t.header.queue.map (·.arm) ∧
            t.header.grants[a] = s.header.grants[a])))

/-- R39, R41 and Table 2-6: a lane RESUME tests its three conditions in order; when they hold it clears every
cause but SUPERVISOR, and an emptied set returns the arm to the state it was held from, where its slots start the strokes
pending (R127, R135). -/
def Obligations.LaneResumeClearsItsCauses : Prop :=
  ∀ (tag : Byte) (a : ArmId) (o : HeldFrom) (s : State),
    s.takes ⟨.lane (laneOf a), tag, 0x04⟩ (.arm a.val) → (s.arm a).state = .held o →
    let c : Caller := ⟨.lane (laneOf a), tag, 0x04⟩
    let command := Instr.resume (.lane (laneOf a)) tag a.val
    let inService := ∀ snap ∈ (s.arm a).snapshot, s.additivesInService snap = true
    ((s.arm a).permissive = false → exec command s = .next (s.refuse c .notPermitted)) ∧
    ((s.arm a).permissive = true → (s.arm a).metersClear = false →
      exec command s = .next (s.refuse c .faultPending)) ∧
    ((s.arm a).permissive = true → (s.arm a).metersClear = true → ¬ inService →
      exec command s = .next (s.refuse c .additiveUnavailable)) ∧
    ((s.arm a).permissive = true → (s.arm a).metersClear = true → inService →
      (HoldSet.has (s.arm a).causes .supervisor = true →
        exec command s =
          .next ((s.setArm a fun arm =>
            { arm with causes := HoldSet.only .supervisor }).done c)) ∧
      (HoldSet.has (s.arm a).causes .supervisor = false →
        ∃ t : State, exec command s = .next t ∧
          t.arm a = { (s.arm a).resumed o with slots := (t.arm a).slots } ∧
          ((s.arm a).resumed o).startsStrokes s.inService s.now (t.arm a).slots ∧
          t.port c.port = (s.port c.port).form ⟨0x04, tag, .ok, .nothing⟩ ∧
          s.changesOnly t (fun q => q == .arm a || q == .port c.port)))

/-- R40: a RESUME from the supervisor removes SUPERVISOR with no condition tested; an emptied set resumes the
arm as R41 gives, in a state other than HELD it is refused, and a lane RESUME does not clear SUPERVISOR. -/
def Obligations.SupervisorResumeRemovesItsCause : Prop :=
  (∀ (tag : Byte) (a : ArmId) (s : State), s.takes ⟨.supervisor, tag, 0x04⟩ (.arm a.val) →
      let c : Caller := ⟨.supervisor, tag, 0x04⟩
      let command := Instr.resume .supervisor tag a.val
      ((s.arm a).state.isHeld = false → exec command s = .next (s.refuse c .wrongState)) ∧
      (∀ o, (s.arm a).state = .held o →
        (HoldSet.has (s.arm a).causes .supervisor = false → exec command s = .next (s.done c)) ∧
        (HoldSet.has (s.arm a).causes .supervisor = true →
          HoldSet.drop (s.arm a).causes .supervisor ≠ 0 →
          exec command s =
            .next ((s.setArm a fun arm =>
              { arm with causes := HoldSet.drop arm.causes .supervisor }).done c)) ∧
        (HoldSet.has (s.arm a).causes .supervisor = true →
          HoldSet.drop (s.arm a).causes .supervisor = 0 →
          ∃ t : State, exec command s = .next t ∧
            t.arm a = { (s.arm a).resumed o with slots := (t.arm a).slots } ∧
            ((s.arm a).resumed o).startsStrokes s.inService s.now (t.arm a).slots ∧
            t.port .supervisor = (s.port .supervisor).form ⟨0x04, tag, .ok, .nothing⟩ ∧
            s.changesOnly t (fun q => q == .arm a || q == .port .supervisor)))) ∧
  (∀ (tag : Byte) (a : ArmId) (s t : State), s.takes ⟨.lane (laneOf a), tag, 0x04⟩ (.arm a.val) →
    HoldSet.has (s.arm a).causes .supervisor = true →
    exec (.resume (.lane (laneOf a)) tag a.val) s = .next t →
      HoldSet.has (t.arm a).causes .supervisor = true)

/-- R31, R43, R45, R121 and R146 to R148: END and ABORT take an arm underway into CLOSING with their kind, its pending
strokes start there, and the release of its grant examines the head of the header queue in the same event; ABORT before
admission returns the arm to IDLE without a record, a head that leaves the header queue has the new head examined, and
a WAITING walk left without waiters goes with its WALK operation; elsewhere they are refused or change nothing. -/
def Obligations.EndAndAbortEndTheBatch : Prop :=
  (∀ (p : Port) (tag : Byte) (a : ArmId) (b : Batch) (config : ArmConfig) (s : State),
      (s.arm a).state.underway = true → (s.arm a).batch = some b → (s.arm a).config = some config →
      s.restartPending = false → a ∉ s.header.queue.map (·.arm) →
      (s.takes ⟨.lane (laneOf a), tag, 0x05⟩ (.arm a.val) →
        ∃ t : State, exec (.endBatch (.lane (laneOf a)) tag a.val) s = .next t ∧
          s.closesBatch t a b config ⟨.short, none⟩ (fun q => q == .port (.lane (laneOf a))) ∧
          t.port (.lane (laneOf a)) =
            (s.port (.lane (laneOf a))).form ⟨0x05, tag, .ok, .nothing⟩) ∧
      (s.takes ⟨p, tag, 0x06⟩ (.arm a.val) →
        ∃ t : State, exec (.abort p tag a.val) s = .next t ∧
          s.closesBatch t a b config
            ⟨.aborted, some (match p with | .lane _ => .lane | .supervisor => .supervisor)⟩
            (fun q => q == .port p) ∧
          t.port p = (s.port p).form ⟨0x06, tag, .ok, .nothing⟩)) ∧
  (∀ (p : Port) (tag : Byte) (a : ArmId) (s : State),
      (s.takes ⟨.lane (laneOf a), tag, 0x05⟩ (.arm a.val) → (s.arm a).state.underway = false →
        exec (.endBatch (.lane (laneOf a)) tag a.val) s =
          .next (s.refuse ⟨.lane (laneOf a), tag, 0x05⟩ .wrongState)) ∧
      (s.takes ⟨p, tag, 0x06⟩ (.arm a.val) →
        let c : Caller := ⟨p, tag, 0x06⟩
        let command := Instr.abort p tag a.val
        ((s.arm a).state = .idle → exec command s = .next (s.refuse c .wrongState)) ∧
        ((s.arm a).state = .closing → exec command s = .next (s.done c)) ∧
        ((s.arm a).state = .authorized →
          exec command s = .next ((s.setArm a Arm.toIdle).done c)) ∧
        ((s.arm a).state = .waitingHeader → s.coherent →
          let left : State :=
            { s with header := { s.header with queue := s.header.queue.filter (·.arm ≠ a) } }
          ∃ t u : State, exec command s = .next t ∧
            (s.header.queue.head?.map (·.arm) = some a → exec .headExamination left = .next u) ∧
            (s.header.queue.head?.map (·.arm) ≠ some a → u = left) ∧
            t = (u.setArm a Arm.toIdle).done c ∧ t.arm a = (s.arm a).toIdle ∧
            a ∉ t.header.queue.map (·.arm) ∧ t.header.grants[a] = s.header.grants[a] ∧
            t.port p = (s.port p).form ⟨0x06, tag, .ok, .nothing⟩) ∧
        ((s.arm a).state = .authorizing → p = .supervisor → ∀ code first,
          (s.port (.lane (laneOf a))).outstanding = some ⟨code, first, .authorize a⟩ →
          ∃ t : State, exec command s = .next t ∧ t.arm a = (s.arm a).toIdle ∧
            t.port (.lane (laneOf a)) =
              LinkPort.form { s.port (.lane (laneOf a)) with outstanding := none }
                ⟨code, first, .aborted, .nothing⟩ ∧
            t.port .supervisor = (s.port .supervisor).form ⟨0x06, tag, .ok, .nothing⟩ ∧
            a ∉ t.waiters ∧
            t.walks = (s.walks.map fun w => { w with waiters := w.waiters.filter (· ≠ a) }).filter
              (fun w => w.current || !w.waiters.isEmpty) ∧
            t.storeQueue = s.storeQueue.filter (fun q => !s.walks.any fun w =>
              !w.current && w.waiters.all (· == a) && decide (q.op = .walk w.key)) ∧
            s.changesOnly t (fun q => q == .arm a || q == .walks || q == .storeQueue ||
              q == .port (.lane (laneOf a)) || q == .port .supervisor))))

/-! ## Reading and acknowledging -/

/-- R152, R159, R170, R150 and R76: the reading requests are answered in their own event with the figures as
they stand, and change nothing else. -/
def Obligations.ReadingRequestsOnlyAnswer : Prop :=
  (∀ (p : Port) (tag : Byte) (a : ArmId) (s : State), s.takes ⟨p, tag, 0x07⟩ (.arm a.val) →
    let admitted := (s.arm a).state.admitted
    exec (.armStatus p tag a.val) s =
      .next (s.reply ⟨p, tag, 0x07⟩ .ok (.status
        { arm := a
          state := (s.arm a).state
          causes := (s.arm a).causes
          number := if admitted then (s.arm a).batch.bind (·.number) else none
          ending := if (s.arm a).state = .closing then (s.arm a).batch.bind (·.ending) else none
          figures := if admitted then (s.arm a).batch.map (·.figures) else none
          u := (s.arm a).u
          remaining :=
            match (s.arm a).state with
            | .authorized => (s.arm a).authorizeTimer.map fun d => (d - s.now) / 1000
            | .held _ => (s.arm a).holdTimer.map fun d => (d - s.now) / 1000
            | .closing => some (((s.arm a).drainTimer.map fun d => (d - s.now) / 1000).getD 0)
            | _ => none
          flags := (s.arm a).flags }))) ∧
  (∀ (p : Port) (tag : Byte) (a : ArmId) (s : State), s.takes ⟨p, tag, 0x0C⟩ (.arm a.val) →
    exec (.readTotals p tag a.val) s =
      .next (s.reply ⟨p, tag, 0x0C⟩ .ok (.totals a
        ⟨(s.arm a).totals, (s.arm a).meterG.unauthorized, (s.arm a).meterE.unauthorized⟩
        s.batchCounter))) ∧
  (∀ (p : Port) (tag : Byte) (lane : Nat) (l : LaneId) (s : State),
    s.takes ⟨p, tag, 0x0A⟩ (.lane lane) → p = .lane l ∨ p = .supervisor ∧ lane = l.val →
    (∀ q rest, s.lanes[l].records = q :: rest →
      exec (.readRecord p tag lane) s = .next (s.reply ⟨p, tag, 0x0A⟩ .ok (.record q.record))) ∧
    (s.lanes[l].records = [] →
      exec (.readRecord p tag lane) s = .next (s.refuse ⟨p, tag, 0x0A⟩ .empty))) ∧
  (∀ (tag : Byte) (s : State), s.takes ⟨.supervisor, tag, 0x26⟩ .nothing →
    exec (.readHeader .supervisor tag) s =
      .next (s.reply ⟨.supervisor, tag, 0x26⟩ .ok (.header s.header))) ∧
  (∀ (tag : Byte) (s : State), s.takes ⟨.supervisor, tag, 0x43⟩ .nothing →
    exec (.readProbes .supervisor tag) s =
      .next (s.reply ⟨.supervisor, tag, 0x43⟩ .ok
        (.probes s.scanner.conversion.isSome s.scanner.settings
          (s.scanner.records.toList.map fun r =>
            ⟨r.state, r.rejects, if r.state = .none then none else r.last,
              r.staleTimer.map fun d => (d - s.now) / 1000⟩))))

/-- R172: READ FLAGS answers with the arm's flags as they stand, with the overrun count to the supervisor
alone, and in the same event the port's seen set for the arm becomes the set reported; a flag set in a later
event is not in the seen set. -/
def Obligations.ReadFlagsFillsTheSeenSet : Prop :=
  (∀ (p : Port) (tag : Byte) (a : ArmId) (s : State), s.takes ⟨p, tag, 0x08⟩ (.arm a.val) →
    exec (.readFlags p tag a.val) s =
      .next (State.reply (s.setPort p fun lp => { lp with seen := lp.seen.set a (s.arm a).flags })
        ⟨p, tag, 0x08⟩ .ok (.flags (s.arm a).flags
          (match p with
            | .lane _ => none
            | .supervisor => some (s.arm a).overrun)))) ∧
  ∀ (p : Port) (a : ArmId) (f : Flag) (s : State),
    FlagSet.has ((s.setFlag a f).port p).seen[a] f = false

/-- R26, R171, R173 and R82: CLEAR FLAGS clears the flags that are in the mask, in the port's seen set and set,
and empties that seen set; setting a flag takes it out of every port's seen set for the arm. -/
def Obligations.FlagsAreSeenBeforeTheyClear : Prop :=
  (∀ (p : Port) (tag : Byte) (a : ArmId) (mask : BitVec 16) (s : State),
      s.takes ⟨p, tag, 0x09⟩ (.arm a.val) →
      (2048 ≤ mask.toNat →
        exec (.clearFlags p tag a.val mask) s = .next (s.refuse ⟨p, tag, 0x09⟩ .badField)) ∧
      (mask.toNat < 2048 →
        ∃ (gone left : FlagSet) (t : State), exec (.clearFlags p tag a.val mask) s = .next t ∧
          (∀ f : Flag, FlagSet.has gone f = true ↔
            FlagSet.has (s.arm a).flags f = true ∧ mask.getLsbD f.index = true ∧
              FlagSet.has ((s.port p).seen[a]) f = true) ∧
          (∀ f : Flag, FlagSet.has left f = true ↔
            FlagSet.has (s.arm a).flags f = true ∧ FlagSet.has gone f = false) ∧
          t.arm a = { s.arm a with
            flags := left
            overrun :=
              if p = .supervisor ∧ FlagSet.has gone .trimOverrun = true then 0
              else (s.arm a).overrun } ∧
          t.port p = LinkPort.form { s.port p with seen := (s.port p).seen.set a 0 }
            ⟨0x09, tag, .ok, .cleared gone left⟩ ∧
          s.changesOnly t (fun q => q == .arm a || q == .port p))) ∧
  (∀ (a : ArmId) (f : Flag) (s : State),
      (∀ g : Flag, FlagSet.has ((s.setFlag a f).arm a).flags g = true ↔
        g = f ∨ FlagSet.has (s.arm a).flags g = true) ∧
      (∀ (p : Port) (b : ArmId) (g : Flag),
        FlagSet.has ((s.setFlag a f).port p).seen[b] g = true ↔
          ¬ (b = a ∧ g = f) ∧ FlagSet.has (s.port p).seen[b] g = true) ∧
      (∀ b : ArmId, b ≠ a → (s.setFlag a f).arm b = s.arm b) ∧
      (s.setFlag a f).arm a = { s.arm a with flags := ((s.setFlag a f).arm a).flags } ∧
      s.changesOnly (s.setFlag a f) (fun q => q == .arm a || match q with | .port _ => true | _ => false))

/-- R160: RELEASE RECORD is refused on an empty queue and for a record that is not the oldest; otherwise its
response is deferred, and it queues a RECORD_FREE of the oldest record's slot or joins the one pending. That a number
no record can have, outside 1 to 999,999, is refused as any other wrong number is the model's reading (log entry 17). -/
def Obligations.ReleaseRecordQueuesOneFree : Prop :=
  ∀ (p : Port) (tag : Byte) (number lane : Nat) (l : LaneId) (s : State),
    s.takes ⟨p, tag, 0x0B⟩ (.lane lane) → p = .lane l ∨ p = .supervisor ∧ lane = l.val →
    let c : Caller := ⟨p, tag, 0x0B⟩
    let command := Instr.releaseRecord p tag number lane
    let waiting := s.setPort p fun lp => { lp with outstanding := some ⟨0x0B, tag, .release l⟩ }
    (s.lanes[l].records = [] → exec command s = .next (s.refuse c .empty)) ∧
    (∀ q rest, s.lanes[l].records = q :: rest →
      (q.record.number ≠ number → exec command s = .next (s.refuse c .notOldest)) ∧
      (q.record.number = number → s.lanes[l].releasePending = true →
        exec command s = .next waiting) ∧
      (q.record.number = number → s.lanes[l].releasePending = false →
        (s.current.isSome = true →
          exec command s =
            .next { waiting.setLane l (fun x => { x with releasePending := true }) with
              storeQueue := s.storeQueue ++ [⟨.recordFree l q.slot, false⟩] }) ∧
        (s.current = none → s.storeQueue = [] → s.restartPending = false →
          exec command s =
            .next { waiting.setLane l (fun x => { x with releasePending := true }) with
              current := some ⟨.recordFree l q.slot, s.now, none⟩ })))

/-! ## Settings -/

/-- R174, R74 and R140: SET ARM CONFIG is refused outside IDLE and for a field out of range; otherwise the arm
takes the whole config, its Valve Drive starts a new period, and its two probe records become NONE. -/
def Obligations.SetArmConfigReplacesTheConfig : Prop :=
  ∀ (tag : Byte) (a : ArmId) (config : ArmConfig) (s : State),
    s.takes ⟨.supervisor, tag, 0x20⟩ (.arm a.val) →
    let c : Caller := ⟨.supervisor, tag, 0x20⟩
    let command := Instr.setArmConfig .supervisor tag a.val config
    ((s.arm a).state ≠ .idle → exec command s = .next (s.refuse c .armBusy)) ∧
    ((s.arm a).state = .idle → ¬ config.acceptable → exec command s = .next (s.refuse c .badField)) ∧
    ((s.arm a).state = .idle → config.acceptable →
      exec command s =
        .next (State.done
          { s.setArm a (fun arm => { arm with
              config := some config
              valve := { arm.valve with
                applied := arm.valve.commanded, periodStart := some s.now } }) with
            scanner := { s.scanner with
              records := (s.scanner.records.set (2 * a.val) ⟨none, .none, 0, none⟩ (by omega)).set
                (2 * a.val + 1) ⟨none, .none, 0, none⟩ (by omega) } } c))

/-- R149 and R148: SET HEADER CAPACITY is refused above 20,000 and below the sum of the grants; a value not
above the old one is taken, and a raise is taken with a head examination. -/
def Obligations.SetHeaderCapacityExaminesOnARaise : Prop :=
  ∀ (tag : Byte) (capacity : Nat) (s : State), s.takes ⟨.supervisor, tag, 0x21⟩ .nothing →
    let c : Caller := ⟨.supervisor, tag, 0x21⟩
    let command := Instr.setHeaderCapacity .supervisor tag capacity
    let taken : State := { s with header := { s.header with capacity := capacity } }
    (20000 < capacity → exec command s = .next (s.refuse c .badField)) ∧
    (capacity ≤ 20000 → capacity < (s.header.grants.toList.map (·.flow)).sum →
      exec command s = .next (s.refuse c .capacityInUse)) ∧
    (capacity ≤ 20000 → (s.header.grants.toList.map (·.flow)).sum ≤ capacity →
      capacity ≤ s.header.capacity → exec command s = .next (taken.done c)) ∧
    (capacity ≤ 20000 → (s.header.grants.toList.map (·.flow)).sum ≤ capacity →
      s.header.capacity < capacity →
        (s.header.queue = [] → exec command s = .next (taken.done c)) ∧
        ∃ t : State, exec .headExamination taken = .next t ∧ exec command s = .next (t.done c))

/-- R175: SET AUTHORIZE TIMEOUT takes 10 to 600 seconds and refuses any other value; a timer already running
keeps the value it started with, and after a reset the setting is 120 s. -/
def Obligations.SetAuthorizeTimeoutIsTaken : Prop :=
  (∀ (tag : Byte) (seconds : Nat) (s : State), s.takes ⟨.supervisor, tag, 0x22⟩ .nothing →
    let c : Caller := ⟨.supervisor, tag, 0x22⟩
    (seconds < 10 ∨ 600 < seconds →
      exec (.setAuthorizeTimeout .supervisor tag seconds) s = .next (s.refuse c .badField)) ∧
    (10 ≤ seconds → seconds ≤ 600 →
      exec (.setAuthorizeTimeout .supervisor tag seconds) s =
        .next (State.done { s with authorizeTimeout := seconds } c))) ∧
  (∀ (a : ArmId) (s : State),
    ((s.toAuthorized a).arm a).authorizeTimer = some (s.now + s.authorizeTimeout * 1000 * 1000)) ∧
  State.reset.authorizeTimeout = 120 ∧ (∀ s : State, s.restartReset.authorizeTimeout = 120)

/-- R94, R99, R179 and R181: the settings that only replace what they name. That a byte other than 0 or 1 for a
window's enable or withheld field is refused BAD_FIELD is the model's reading and no rule's (DEDUCED, log entry 15). -/
def Obligations.PlainSettingsReplaceWhatTheyName : Prop :=
  (∀ (tag : Byte) (window : Fin 2) (w : WindowFields) (s : State),
    s.takes ⟨.supervisor, tag, 0x23⟩ .nothing → w.acceptable →
      exec (.setWindow .supervisor tag window.val w) s =
        .next (State.done
          { s with
            windows := s.windows.set window
              ⟨decide (w.enable = 1), BitVec.ofNat 8 w.base, BitVec.ofNat 8 w.mask,
                decide (w.withheld = 1), w.alphaG, w.mainFlow, w.holdLimit, w.name⟩ }
          ⟨.supervisor, tag, 0x23⟩)) ∧
  (∀ (tag : Byte) (window : Nat) (w : WindowFields) (s : State),
    s.takes ⟨.supervisor, tag, 0x23⟩ .nothing → 1 < window ∨ ¬ w.acceptable →
      exec (.setWindow .supervisor tag window w) s =
        .next (s.refuse ⟨.supervisor, tag, 0x23⟩ .badField)) ∧
  (∀ (tag : Byte) (a : ArmId) (s : State), s.takes ⟨.supervisor, tag, 0x25⟩ (.arm a.val) →
    exec (.releaseRestricted .supervisor tag a.val) s =
      .next ((s.setArm a fun arm => { arm with release := some (s.now + 300000000) }).done
        ⟨.supervisor, tag, 0x25⟩)) ∧
  (∀ (tag : Byte) (l : LaneId) (selection : Byte) (s : State),
    s.takes ⟨.supervisor, tag, 0x49⟩ (.lane l.val) →
    (32 ≤ selection.toNat →
      exec (.setAlertModes .supervisor tag l.val selection) s =
        .next (s.refuse ⟨.supervisor, tag, 0x49⟩ .badField)) ∧
    (selection.toNat < 32 →
      exec (.setAlertModes .supervisor tag l.val selection) s =
        .next ((s.setLane l fun lane =>
          { lane with alertSelection := BitVec.ofNat 5 selection.toNat }).done
            ⟨.supervisor, tag, 0x49⟩))) ∧
  (∀ (tag : Byte) (mode : Nat) (a : ArmId) (s : State),
    s.takes ⟨.supervisor, tag, 0x48⟩ (.arm a.val) →
    (2 < mode →
      exec (.setMonitor .supervisor tag mode a.val) s =
        .next (s.refuse ⟨.supervisor, tag, 0x48⟩ .badField)) ∧
    (∀ sel : MonitorSelection,
      mode = 0 ∧ sel = .off ∨ mode = 1 ∧ sel = .trim a ∨ mode = 2 ∧ sel = .probes →
      exec (.setMonitor .supervisor tag mode a.val) s =
        .next (State.reply
          { s with monitor :=
            { selection := sel, running := true, overflow := false, parameter := 0, queue := []
              sending := s.monitor.sending } }
          ⟨.supervisor, tag, 0x48⟩ .ok (.overflow s.monitor.overflow))))

/-- R137 and R138: SET ADDITIVE SERVICE refuses other codes and settings, has no effect for the setting a code
already has, adds cause ADDITIVE to every delivering, flushing or held arm of a code that goes out, and for a code that
returns starts a stroke in every slot whose start conditions then hold; nothing else changes. -/
def Obligations.SetAdditiveServiceActsOnTheArms : Prop :=
  ∀ (tag : Byte) (code setting : Nat) (s : State), s.takes ⟨.supervisor, tag, 0x24⟩ .nothing →
    let c : Caller := ⟨.supervisor, tag, 0x24⟩
    let command := Instr.setAdditiveService .supervisor tag code setting
    (code < 1 ∨ 6 < code ∨ 1 < setting → exec command s = .next (s.refuse c .badField)) ∧
    (∀ i : Fin 6, code = i.val + 1 →
      (setting = 0 ∧ s.inService[i] = true ∨ setting = 1 ∧ s.inService[i] = false →
        exec command s = .next (s.done c)) ∧
      (setting = 1 → s.inService[i] = true →
        ∃ t : State, exec command s = .next (t.done c) ∧ t.inService = s.inService.set i false ∧
          (∀ a : ArmId,
            ((∃ snap, (s.arm a).snapshot = some snap ∧
                ∃ ad ∈ snap.params.additives.toList, ad.code = code) →
              t.arm a = (s.arm a).takesCause .additive s.now) ∧
            ((∀ snap, (s.arm a).snapshot = some snap →
                ∀ ad ∈ snap.params.additives.toList, ad.code ≠ code) → t.arm a = s.arm a)) ∧
          s.changesOnly t (fun q => q == .inService || match q with | .arm _ => true | _ => false)) ∧
      (setting = 0 → s.inService[i] = false →
        ∃ t : State, exec command s = .next (t.done c) ∧ t.inService = s.inService.set i true ∧
          (∀ a : ArmId, t.arm a = { s.arm a with slots := (t.arm a).slots } ∧
            (s.arm a).startsStrokes (s.inService.set i true) s.now (t.arm a).slots) ∧
          s.changesOnly t (fun q => q == .inService || match q with | .arm _ => true | _ => false)))

/-! ## Recipes, cache and scanner requests -/

/-- R92, R93 and R102: a supervisor store request is refused with a selector or field out of range; otherwise
its response is deferred and its operation joins the tail of the store queue, or starts on an idle store. That a byte
other than 0 or 1 for a field set or clear is out of range is the model's choice (log entry 15). -/
def Obligations.StoreRequestsQueueTheirOperation : Prop :=
  ∀ (tag : Byte) (i : Instr) (code : Byte) (op : StoreOp) (s : State),
    storeRequest tag i = some (code, op) → s.takes ⟨.supervisor, tag, code⟩ .nothing →
    let waiting := s.setPort .supervisor fun lp => { lp with outstanding := some ⟨code, tag, .store⟩ }
    (¬ storeFieldsOk i → exec i s = .next (s.refuse ⟨.supervisor, tag, code⟩ .badField)) ∧
    (storeFieldsOk i → s.current.isSome = true →
      exec i s = .next { waiting with storeQueue := s.storeQueue ++ [⟨op, false⟩] }) ∧
    (storeFieldsOk i → s.current = none → s.storeQueue = [] → s.restartPending = false →
      exec i s = .next { waiting with current := some ⟨op, s.now, none⟩ })

/-- R116: FLUSH ALL makes every entry of the cache invalid and FLUSH PRODUCT every valid entry of its product;
the replacement counter, the walk list, the store queue and the store stand. -/
def Obligations.FlushesInvalidateTheCache : Prop :=
  (∀ (tag : Byte) (s : State), s.takes ⟨.supervisor, tag, 0x34⟩ .nothing →
    exec (.flushAll .supervisor tag) s =
      .next (State.done { s with cache := Vector.replicate 32 none } ⟨.supervisor, tag, 0x34⟩)) ∧
  (∀ (tag : Byte) (product : Nat) (s : State), s.takes ⟨.supervisor, tag, 0x35⟩ .nothing →
    (255 < product →
      exec (.flushProduct .supervisor tag product) s =
        .next (s.refuse ⟨.supervisor, tag, 0x35⟩ .badField)) ∧
    (product ≤ 255 →
      ∃ t : State, exec (.flushProduct .supervisor tag product) s = .next t ∧
        (∀ i : Fin 32, t.cache[i] = none ↔
          s.cache[i] = none ∨ ∃ e, s.cache[i] = some e ∧ e.key.product = product) ∧
        (∀ (i : Fin 32) (e : CacheEntry), s.cache[i] = some e → e.key.product ≠ product →
          t.cache[i] = some e) ∧
        t.port .supervisor = (s.port .supervisor).form ⟨0x35, tag, .ok, .nothing⟩ ∧
        s.changesOnly t (fun q => q == .cache || q == .port .supervisor)))

/-- R114: a fill takes the lowest-numbered invalid way of the key's set, and in a full set the way the
replacement counter names; no other place of the cache changes. -/
def Obligations.CacheFillTakesItsWay : Prop :=
  ∀ (e : CacheEntry) (s : State), ∃ w : Fin 4,
    (s.fillCache e).cache = s.cache.set (wayOf e.key w) (some e) ∧
    ((∃ v : Fin 4, s.cache[wayOf e.key v] = none) →
      s.cache[wayOf e.key w] = none ∧ ∀ v : Fin 4, v < w → s.cache[wayOf e.key v] ≠ none) ∧
    ((∀ v : Fin 4, s.cache[wayOf e.key v] ≠ none) → w = s.replacement) ∧
    ((∀ v : Fin 4, ∀ x ∈ s.cache[wayOf e.key v], x.key ≠ e.key) →
      (s.fillCache e).cached e.key = some e)

/-- R66, R67 and R68: SET SCAN is refused while SCANNING and for settings out of range; START SCAN begins a
conversion of the start channel and STOP SCAN abandons the one in flight, each changing no probe record. -/
def Obligations.ScanRequestsRunTheScanner : Prop :=
  (∀ (tag : Byte) (k : ScanSettings) (s : State), s.takes ⟨.supervisor, tag, 0x40⟩ .nothing →
    let c : Caller := ⟨.supervisor, tag, 0x40⟩
    (s.scanner.conversion.isSome = true →
      exec (.setScan .supervisor tag k) s = .next (s.refuse c .scanRunning)) ∧
    (s.scanner.conversion = none → ¬ k.acceptable →
      exec (.setScan .supervisor tag k) s = .next (s.refuse c .badField)) ∧
    (s.scanner.conversion = none → k.acceptable →
      exec (.setScan .supervisor tag k) s =
        .next (State.done { s with scanner := { s.scanner with settings := k } } c))) ∧
  (∀ (tag : Byte) (s : State), s.takes ⟨.supervisor, tag, 0x41⟩ .nothing →
    let c : Caller := ⟨.supervisor, tag, 0x41⟩
    (s.scanner.conversion.isSome = true →
      exec (.startScan .supervisor tag) s = .next (s.done c)) ∧
    (s.scanner.conversion = none →
      exec (.startScan .supervisor tag) s =
        .next (State.done { s with scanner := { s.scanner with
          conversion := some ⟨Fin.ofNat 16 s.scanner.settings.first, s.now⟩ } } c))) ∧
  (∀ (tag : Byte) (s : State), s.takes ⟨.supervisor, tag, 0x42⟩ .nothing →
    exec (.stopScan .supervisor tag) s =
      .next (State.done { s with scanner := { s.scanner with conversion := none } }
        ⟨.supervisor, tag, 0x42⟩))

/-! ## Resets -/

/-- R77, R107, R110, R177 and R178: RESTART is refused unless every arm is IDLE, abandons a conversion in flight, and
carries out the operations then current and waiting before the reset; both resets begin the load with every block at
its reset values, and a RESTART keeps the Link Ports. The model's choices: a reset keeps the permissive inputs (log
entry 4) and the clock (log entry 5), a power loss leaves the store as log entry 6 says, a RESTART with nothing to
carry is reset within its own event (log entry 9), and no response is being sent after power-on (log entry 26). -/
def Obligations.RestartAndResetsBeginTheLoad : Prop :=
  ((∀ (tag : Byte) (s : State), s.takes ⟨.supervisor, tag, 0x7F⟩ .nothing →
      let c : Caller := ⟨.supervisor, tag, 0x7F⟩
      let pendingRestart : State :=
        { s.setPort .supervisor
            (fun lp => { lp with outstanding := some ⟨0x7F, tag, .restart⟩ }) with
          restartPending := true
          scanner := { s.scanner with conversion := none } }
      ((∃ a : ArmId, (s.arm a).state ≠ .idle) →
        exec (.restart .supervisor tag) s = .next (s.refuse c .armsActive)) ∧
      ((∀ a : ArmId, (s.arm a).state = .idle) → s.current.isSome = true →
        exec (.restart .supervisor tag) s =
          .next { pendingRestart with
            storeQueue := s.storeQueue.map fun q => { q with carried := true } }) ∧
      ((∀ a : ArmId, (s.arm a).state = .idle) → s.current = none → s.storeQueue = [] →
        exec (.restart .supervisor tag) s = .next pendingRestart.restartReset)) ∧
    (∀ s : State, s.restartPending = true → s.current = none →
      (∀ q ∈ s.storeQueue, q.carried = false) → exec .restartReset s = .next s.restartReset)) ∧
  ((∀ s : State, exec .powerOnReset s =
      .next { State.reset with
        pending := s.pending, now := s.now, load := .loading s.now, store := s.storeAtPowerLoss
        arms := Vector.ofFn fun a => Arm.reset (s.arm a).permissive }) ∧
    (∀ s : State, s.current = none → s.storeAtPowerLoss = s.store) ∧
    (∀ s : State, s.restartReset =
      { State.reset with
        pending := s.pending, now := s.now, load := .loading s.now, store := s.store
        arms := Vector.ofFn fun a => Arm.reset (s.arm a).permissive
        ports := s.restartReset.ports }) ∧
    (∀ (s : State) (p : Port),
      (∀ code tag, (s.port p).outstanding = some ⟨code, tag, .restart⟩ →
        s.restartReset.port p = s.port p) ∧
      ((∀ code tag, (s.port p).outstanding ≠ some ⟨code, tag, .restart⟩) →
        s.restartReset.port p = { s.port p with outstanding := none })))

/-! ## Field events and timers -/

/-- R52, R54, R46, R60, R61 and R62: what a pulse of either channel does in either counting mode. -/
def Obligations.MeterPulsesAreCounted : Prop :=
  ∀ (a : ArmId) (c : Component) (s : State),
    let m := (s.arm a).meter c
    let drained := fun arm : Arm =>
      if arm.state = .closing ∧ arm.drainTimer.isSome = true then
        { arm with drainTimer := arm.config.map fun k => s.now + k.drainTime * 1000 }
      else arm
    (m.mode = .windowCount → m.countA < 65535 →
      exec (.meterPulseA a c) s =
        .next (s.setArm a fun arm =>
          drained (arm.setMeter c fun m => { m with countA := m.countA + 1 }))) ∧
    (m.mode = .windowCount → 65535 ≤ m.countA →
      exec (.meterPulseA a c) s =
        .next (s.setArm a fun arm =>
          drained { arm with batch := arm.batch.map fun b =>
            { b with figures := { b.figures with
              markers := { b.figures.markers with pulseSaturated := true } } } })) ∧
    (m.mode = .idleCount → m.idleCount < 9 →
      exec (.meterPulseA a c) s =
        .next (s.setArm a fun arm => arm.setMeter c fun m =>
          { m with
            idleCount := m.idleCount + 1
            unauthorized := (m.unauthorized + 1) % 4294967296 })) ∧
    (m.mode = .idleCount → 9 ≤ m.idleCount →
      exec (.meterPulseA a c) s =
        .next (((s.setArm a fun arm => arm.setMeter c fun m =>
          { m with
            idleCount := 0
            unauthorized := (m.unauthorized + 1) % 4294967296 }).setFlag a .unauthFlow).askCheckpoint
          a)) ∧
    (m.mode = .windowCount →
      exec (.meterPulseB a c) s =
        .next (s.setArm a fun arm => arm.setMeter c fun m =>
          { m with countB := if m.countB < 65535 then m.countB + 1 else 65535 })) ∧
    (m.mode = .idleCount → exec (.meterPulseB a c) s = .next s)

/-- R30, R38, R99 and R140: the authorize timer returns its arm to IDLE, the hold timer ends the batch as ABORTED
by HOLD_TIMEOUT, a grant it releases having the head of the header queue examined in the same event (R147, R148), the
lapse timer ends a release, and a period start hands the commanded value to the valve. That the clock moves to
the event's own instant, where that lies ahead, is the model's choice (log entry 5). -/
def Obligations.TimersExpireAtTheirInstant : Prop :=
  ((∀ (a : ArmId) (d : Nat) (s : State),
      (s.arm a).state = .authorized → (s.arm a).authorizeTimer = some d →
        exec (.authorizeTimerExpiry a) s =
          .next (State.setArm { s with now := max s.now d } a Arm.toIdle)) ∧
    (∀ (a : ArmId) (o : HeldFrom) (d : Nat) (b : Batch) (config : ArmConfig) (s : State),
      (s.arm a).state = .held o → (s.arm a).holdTimer = some d → (s.arm a).batch = some b →
      (s.arm a).config = some config → s.restartPending = false → a ∉ s.header.queue.map (·.arm) →
        ∃ t : State, exec (.holdTimerExpiry a) s = .next t ∧
          State.closesBatch { s with now := max s.now d } t a b config
            ⟨.aborted, some .holdTimeout⟩ (fun _ => false)) ∧
    (∀ (a : ArmId) (d : Nat) (s : State), (s.arm a).release = some d →
      exec (.releaseLapse a) s =
        .next (State.setArm { s with now := max s.now d } a fun arm => { arm with release := none }))) ∧
  (∀ (a : ArmId) (config : ArmConfig) (start : Nat) (s : State),
      (s.arm a).config = some config → (s.arm a).valve.periodStart = some start →
      let now := max s.now (start + config.pwmPeriod * 1000)
      exec (.pwmPeriodStart a) s =
        .next (State.setArm { s with now := now } a fun arm =>
          { arm with valve := ⟨arm.valve.commanded, arm.valve.commanded, some now⟩ }) ∧
      (s.valveOutput a = true ↔
        10000 ≤ (s.arm a).valve.applied ∨
          s.now < start + config.pwmPeriod * 1000 * (s.arm a).valve.applied / 10000))

/-- R55, R57, R58 and R78 to R82: a window expiry hands the counts over, judges each meter and starts the next
window; its request joins the queue, goes to an idle BAU at once, or merges into the waiting one of its arm. That the
clock moves to the expiry's own instant, where that lies ahead, is the model's choice (log entry 5). -/
def Obligations.WindowExpiryFormsTheRequest : Prop :=
  (∀ (a : ArmId) (d p : Nat) (s : State),
      (s.arm a).windowTimer = some d → (s.arm a).windowPeriod = some p →
      let now := max s.now d
      let bad := fun m : Meter => m.countB + 2 < m.countA ∨ m.countA + 2 < m.countB
      let faultG := bad (s.arm a).meterG ∧ 2 ≤ (s.arm a).meterG.mismatch
      let faultE := bad (s.arm a).meterE ∧ 2 ≤ (s.arm a).meterE.mismatch
      ∃ t : State, exec (.windowExpiry a) s = .next t ∧ t.now = now ∧
        (t.arm a).windowTimer = some (now + p * 1000) ∧ (t.arm a).windowStart = some now ∧
        (∀ c : Component,
          ((t.arm a).meter c).countA = 0 ∧ ((t.arm a).meter c).countB = 0 ∧
          (¬ bad ((s.arm a).meter c) → ((t.arm a).meter c).mismatch = 0) ∧
          (bad ((s.arm a).meter c) → 2 ≤ ((s.arm a).meter c).mismatch →
            ((t.arm a).meter c).mismatch = 0) ∧
          (bad ((s.arm a).meter c) → ((s.arm a).meter c).mismatch < 2 →
            ((t.arm a).meter c).mismatch = ((s.arm a).meter c).mismatch + 1)) ∧
        (faultG → FlagSet.has (t.arm a).flags .meterG = true) ∧
        (faultE → FlagSet.has (t.arm a).flags .meterE = true) ∧
        (faultG ∨ faultE → (s.arm a).state.underway = true →
          (t.arm a).state.isHeld = true ∧ HoldSet.has (t.arm a).causes .meter = true) ∧
        (¬ faultG → ¬ faultE →
          (t.arm a).state = (s.arm a).state ∧ (t.arm a).causes = (s.arm a).causes) ∧
        s.changesOnly t (fun q => q == .clock || q == .arm a || q == .arithmeticQueue || q == .bau ||
          match q with | .port _ => true | _ => false)) ∧
  (∀ (a : ArmId) (d p : Nat) (s : State),
      (s.arm a).windowTimer = some d → (s.arm a).windowPeriod = some p →
      let r : TrimRequest := ⟨a, (s.arm a).meterG.countA, (s.arm a).meterE.countA,
        s.scanner.records[channelOf a .gasoline].reading,
        s.scanner.records[channelOf a .ethanol].reading, p, false⟩
      ((∀ w ∈ s.arithmeticQueue, w.arm ≠ a) → s.bau.isSome = true →
        ∃ t : State, exec (.windowExpiry a) s = .next t ∧ t.bau = s.bau ∧
          t.arithmeticQueue = s.arithmeticQueue ++ [r] ∧ (t.arm a).overrun = (s.arm a).overrun) ∧
      (s.arithmeticQueue = [] → s.bau = none →
        ∃ t : State, exec (.windowExpiry a) s = .next t ∧ t.arithmeticQueue = [] ∧
          t.bau = some ⟨r, max s.now d⟩) ∧
      (∀ before w rest, s.arithmeticQueue = before ++ w :: rest → w.arm = a →
        (∀ x ∈ before ++ rest, x.arm ≠ a) → s.bau.isSome = true →
        ∃ t : State, exec (.windowExpiry a) s = .next t ∧ t.bau = s.bau ∧
          t.arithmeticQueue = before ++
            { w with
              pulsesG := min 65535 (w.pulsesG + r.pulsesG)
              pulsesE := min 65535 (w.pulsesE + r.pulsesE)
              probeG := r.probeG
              probeE := r.probeE
              duration := w.duration + p } :: rest ∧
          (t.arm a).overrun = min 65535 ((s.arm a).overrun + 1) ∧
          FlagSet.has (t.arm a).flags .trimOverrun = true ∧
          (65535 < w.pulsesG + r.pulsesG ∨ 65535 < w.pulsesE + r.pulsesE →
            ∀ b, (t.arm a).batch = some b → b.figures.markers.pulseSaturated = true)))

/-- R46, R53, R55, R57, R58, R80 to R83 and R171: the drain expiry of a CLOSING arm closes its final window, with its
duration to the millisecond, judges both meters on it, stops the window timer, and puts its meters in IDLE_COUNT. A third
mismatch window sets the meter's flag and adds no hold cause; a flag set leaves every port's seen set. That the clock
moves to the expiry's own instant, where that lies ahead, is the model's choice (log entry 5). -/
def Obligations.DrainExpiryClosesTheFinalWindow : Prop :=
  ∀ (a : ArmId) (d start : Nat) (s : State),
    (s.arm a).state = .closing → (s.arm a).drainTimer = some d → (s.arm a).windowStart = some start →
    let now := max s.now d
    let r : TrimRequest := ⟨a, (s.arm a).meterG.countA, (s.arm a).meterE.countA,
      s.scanner.records[channelOf a .gasoline].reading,
      s.scanner.records[channelOf a .ethanol].reading, (now - start) / 1000, true⟩
    let bad := fun m : Meter => m.countB + 2 < m.countA ∨ m.countA + 2 < m.countB
    let merged := ∃ w ∈ s.arithmeticQueue, w.arm = a
    let raised := fun x : Flag =>
      x = .meterG ∧ bad (s.arm a).meterG ∧ 2 ≤ (s.arm a).meterG.mismatch ∨
        x = .meterE ∧ bad (s.arm a).meterE ∧ 2 ≤ (s.arm a).meterE.mismatch ∨
        x = .trimOverrun ∧ merged
    ∃ t : State, exec (.drainExpiry a) s = .next t ∧ t.now = now ∧
      (t.arm a).state = .closing ∧ (t.arm a).drainTimer = none ∧ (t.arm a).windowTimer = none ∧
      (t.arm a).windowStart = none ∧
      (∀ c : Component, ((t.arm a).meter c).mode = .idleCount ∧ ((t.arm a).meter c).idleCount = 0 ∧
        ((t.arm a).meter c).countA = 0 ∧ ((t.arm a).meter c).countB = 0 ∧
        ((t.arm a).meter c).unauthorized = ((s.arm a).meter c).unauthorized ∧
        (¬ bad ((s.arm a).meter c) → ((t.arm a).meter c).mismatch = 0) ∧
        (bad ((s.arm a).meter c) → 2 ≤ ((s.arm a).meter c).mismatch →
          ((t.arm a).meter c).mismatch = 0) ∧
        (bad ((s.arm a).meter c) → ((s.arm a).meter c).mismatch < 2 →
          ((t.arm a).meter c).mismatch = ((s.arm a).meter c).mismatch + 1)) ∧
      (t.arm a).causes = (s.arm a).causes ∧ (t.arm a).holdTimer = (s.arm a).holdTimer ∧
      (∀ x : Flag, FlagSet.has (t.arm a).flags x = true ↔
        FlagSet.has (s.arm a).flags x = true ∨ raised x) ∧
      (∀ p : Port, t.port p = { s.port p with seen := (t.port p).seen } ∧
        ∀ (b : ArmId) (x : Flag), FlagSet.has (t.port p).seen[b] x = true ↔
          FlagSet.has (s.port p).seen[b] x = true ∧ ¬ (b = a ∧ raised x)) ∧
      (¬ merged → (t.arm a).overrun = (s.arm a).overrun ∧ (t.arm a).batch = (s.arm a).batch) ∧
      (merged → (t.arm a).overrun = min 65535 ((s.arm a).overrun + 1)) ∧
      ((∀ w ∈ s.arithmeticQueue, w.arm ≠ a) → s.bau.isSome = true →
        t.bau = s.bau ∧ t.arithmeticQueue = s.arithmeticQueue ++ [r]) ∧
      (s.arithmeticQueue = [] → s.bau = none →
        t.arithmeticQueue = [] ∧ t.bau = some ⟨r, now⟩) ∧
      (∀ before w rest, s.arithmeticQueue = before ++ w :: rest → w.arm = a →
        (∀ x ∈ before ++ rest, x.arm ≠ a) → s.bau.isSome = true →
        t.arithmeticQueue = before ++ w.merge r :: rest ∧ (w.merge r).final = true) ∧
      s.changesOnly t (fun q => q == .clock || q == .arm a || q == .arithmeticQueue || q == .bau ||
        match q with | .port _ => true | _ => false)

/-- R1, R3 and R10: the device's rounding is to the nearest with halves away from zero; the quantities fixed at
START follow their formulas within their ranges; a trim moves the valve against the error within its limits. -/
def Obligations.BlendArithmeticKeepsItsRanges : Prop :=
  (∀ (n : Int) (d : Nat), 0 < d →
      2 * (d * roundDiv n d - n).natAbs ≤ d ∧
        (2 * (d * roundDiv n d - n).natAbs = d → n.natAbs < (d * roundDiv n d).natAbs)) ∧
  (∀ (preset : Nat) (p : Params), 50000 ≤ preset → preset ≤ 60000000 → p.target ≤ 8500 →
      p.flush ≤ 2000000 →
      let q := fixedQuantities preset p
      let room := preset - ceilDiv (q.goal * 10000) 9000
      q.goal = (p.target * preset + 5000) / 10000 ∧ q.goal ≤ 51000000 ∧ 0 < room ∧
      (q.flush = p.flush ∨ q.flush = preset / 2 ∨ q.flush = room) ∧
      q.flush ≤ p.flush ∧ q.flush ≤ preset / 2 ∧ q.flush ≤ room ∧
      q.flushStart + q.flush = preset ∧ 25000 ≤ q.flushStart ∧
      q.goal * 10000 ≤ q.fraction * q.flushStart ∧
      q.fraction * q.flushStart < q.goal * 10000 + q.flushStart ∧ q.fraction ≤ 9000) ∧
  (∀ (p : Params) (e : Int) (u : Nat), p.uLo ≤ u → u ≤ p.uHi →
      p.uLo ≤ trimmedCommand p e u ∧ trimmedCommand p e u ≤ p.uHi ∧
      trimmedCommand p e u ≤ u + p.stepLimit ∧ u ≤ trimmedCommand p e u + p.stepLimit ∧
      (e ≤ 0 → u ≤ trimmedCommand p e u) ∧ (0 ≤ e → trimmedCommand p e u ≤ u))

/-! ## The computation -/

/-- R4, R6 to R9, R20 and R84: the completion of a computation measures its window into the batch and the
totalizers in any admitted state, forms the demand and the error, and lets the BAU take its next request. R19, R21,
R22, R127, R134 and R182: it also sets the strokes due and starts those whose conditions hold, asks for a CHECKPOINT at
a crossing of 500,000 mL and for a DISPENSED at the first litre, and forms a TRIM packet where the monitor asks for
one. That the packet's u is the one the arm is left with, so 0 where this computation itself holds, flushes or closes
the arm, is the model's choice (log entry 30). So are that the clock moves to the completion's own instant, where that
lies ahead (log entry 5), and the order of the effects within the event where the rules give none (log entry 11). -/
def Obligations.ComputationMeasuresTheWindow : Prop :=
  (∀ (r : TrimRequest) (started : Nat) (b : Batch) (snap : Snapshot) (fx : Fixed)
    (config : ArmConfig) (s : State),
    s.bau = some ⟨r, started⟩ → (s.arm r.arm).state.admitted = true → (s.arm r.arm).batch = some b →
    b.snapshot = some snap → b.fixed = some fx → (s.arm r.arm).config = some config →
    r.final = false → (s.arm r.arm).finalDone = false → s.restartPending = false →
    r.arm ∉ s.header.queue.map (·.arm) →
    let ng := b.figures.ng + r.netG b.figures snap.params config
    let ne := b.figures.ne + r.netE b.figures snap.params config
    let dvg := (r.pulsesG * 1000000 + b.figures.grossResidueG) / config.factorG
    let dve := (r.pulsesE * 1000000 + b.figures.grossResidueE) / config.factorE
    let demand := if ng + ne < fx.flushStart then
      min fx.goal (fx.goal * (ng + ne) / fx.flushStart) else fx.goal
    ∃ (t : State) (b' : Batch), exec .computationComplete s = .next t ∧
      t.now = max s.now (started + 200) ∧
      t.bau = s.arithmeticQueue.head?.map (fun q => ⟨q, t.now⟩) ∧
      t.arithmeticQueue = s.arithmeticQueue.tail ∧
      (t.arm r.arm).batch = some b' ∧ b'.fixed = some fx ∧ b'.snapshot = some snap ∧
      b'.figures.vg = b.figures.vg + dvg ∧ b'.figures.ve = b.figures.ve + dve ∧
      b'.figures.ng = ng ∧ b'.figures.ne = ne ∧
      b'.figures.grossResidueG =
        (r.pulsesG * 1000000 + b.figures.grossResidueG) % config.factorG ∧
      b'.figures.grossResidueE =
        (r.pulsesE * 1000000 + b.figures.grossResidueE) % config.factorE ∧
      b'.figures.pulsesG = b.figures.pulsesG + r.pulsesG ∧
      b'.figures.pulsesE = b.figures.pulsesE + r.pulsesE ∧
      b'.figures.sumG = b.figures.sumG + dvg * r.probeG.temperature ∧
      b'.figures.sumE = b.figures.sumE + dve * r.probeE.temperature ∧
      b'.figures.demand = demand ∧ b'.figures.error = ne - demand ∧
      b'.figures.markers.uncorrectedG =
        (b.figures.markers.uncorrectedG || r.probeG.uncorrected) ∧
      b'.figures.markers.uncorrectedE =
        (b.figures.markers.uncorrectedE || r.probeE.uncorrected) ∧
      (t.arm r.arm).totals =
        ⟨((s.arm r.arm).totals.grossG + dvg) % 1000000000000,
          ((s.arm r.arm).totals.grossE + dve) % 1000000000000,
          ((s.arm r.arm).totals.netG + (ng - b.figures.ng)) % 1000000000000,
          ((s.arm r.arm).totals.netE + (ne - b.figures.ne)) % 1000000000000⟩ ∧
      (b.preset ≤ ng + ne → (s.arm r.arm).state.underway = true →
        (t.arm r.arm).state = .closing ∧ b'.ending = some ⟨.complete, none⟩ ∧ b'.figures.u = 0) ∧
      ((s.arm r.arm).state = .delivering → (t.arm r.arm).state = .delivering →
        ng + ne < fx.flushStart → 0 < fx.goal →
        b'.figures.u = trimmedCommand snap.params b'.figures.error b.figures.u ∧
          (t.arm r.arm).valve.commanded = b'.figures.u)) ∧
  (∀ (r : TrimRequest) (started : Nat) (b : Batch) (snap : Snapshot) (fx : Fixed)
    (config : ArmConfig) (s : State),
    s.bau = some ⟨r, started⟩ → (s.arm r.arm).state.admitted = true → (s.arm r.arm).batch = some b →
    b.snapshot = some snap → b.fixed = some fx → (s.arm r.arm).config = some config →
    r.final = false → (s.arm r.arm).finalDone = false → s.restartPending = false →
    r.arm ∉ s.header.queue.map (·.arm) →
    let a := r.arm
    let dvg := (r.pulsesG * 1000000 + b.figures.grossResidueG) / config.factorG
    let dve := (r.pulsesE * 1000000 + b.figures.grossResidueE) / config.factorE
    let before := b.figures.vg + b.figures.ve
    let gross := before + dvg + dve
    let paced : Vector Slot 3 := Vector.ofFn fun i =>
      match servedAdditive snap config.slots[i] with
      | some ad =>
        { (s.arm a).slots[i] with
          due := gross * ad.rate / (1000 * config.slots[i].strokeVolume) }
      | none => (s.arm a).slots[i]
    let first := b.figures.firstLitre = false ∧ 1000 ≤ gross
    ∃ (t : State) (b' : Batch), exec .computationComplete s = .next t ∧
      (t.arm a).batch = some b' ∧
      Arm.startsStrokes { t.arm a with slots := paced } s.inService t.now (t.arm a).slots ∧
      (b'.figures.markers.additiveLag = true ↔ b.figures.markers.additiveLag = true ∨
        ∃ i : SlotId, (servedAdditive snap config.slots[i]).isSome = true ∧
          paced[i].issued + 20 < paced[i].due) ∧
      b'.figures.firstLitre = (b.figures.firstLitre || decide (1000 ≤ gross)) ∧
      (before / 500000 < gross / 500000 → (s.arm a).opened = true →
        let op := StoreOp.checkpointOpen a
          { number := b.number.getD 0
            key := b.key
            preset := b.preset
            vg := b'.figures.vg
            ve := b'.figures.ve
            ng := b'.figures.ng
            ne := b'.figures.ne
            figures := ⟨(t.arm a).totals, (s.arm a).meterG.unauthorized,
              (s.arm a).meterE.unauthorized⟩ }
        (∃ w ∈ t.storeQueue, w.op = op) ∨ t.current = some ⟨op, t.now, none⟩) ∧
      (first → ∀ page, b.page = some page →
        (∀ e, s.cached b.key = some e → e.dispensed = true → t.cache = s.cache) ∧
        ((∀ e, s.cached b.key = some e → e.dispensed = false) →
          ((∃ w ∈ t.storeQueue, ∃ askers,
                w.op = .dispensed page b.key.package askers ∧ b.key ∈ askers) ∨
              ∃ askers at_ n, b.key ∈ askers ∧
                t.current = some ⟨.dispensed page b.key.package askers, at_, n⟩) ∧
            ∀ e, s.cached b.key = some e →
              t.cached b.key = some { e with dispensed := true })) ∧
      (¬ first ∨ b.page = none → t.cache = s.cache) ∧
      (before / 500000 = gross / 500000 → ¬ first ∨ b.page = none →
        (t.arm a).state = (s.arm a).state →
          t.storeQueue = s.storeQueue ∧ t.current = s.current ∧ t.walks = s.walks) ∧
      (s.monitor.running = true → s.monitor.selection = .trim a →
        ∃ rate : Option Nat,
          ((s.arm a).state = .closing → rate = none) ∧
          ((s.arm a).state ≠ .closing → 0 < r.duration →
            rate = some ((dvg + dve) * 60 / r.duration)) ∧
          t.monitor = Monitor.form { s.monitor with parameter := (s.monitor.parameter + 1) % 24 }
            (.trim
              { arm := a
                number := b.number.getD 0
                state := (t.arm a).state
                final := false
                stage := b'.figures.stage
                volume := b'.figures.ng + b'.figures.ne
                demand := b'.figures.demand
                error := b'.figures.error
                u := b'.figures.u
                rate := rate
                smoothed := b'.figures.rate
                flowLimit := b'.figures.flowLimit
                parameter := s.monitor.parameter
                value := (parameterOf snap s.monitor.parameter).1
                second := (parameterOf snap s.monitor.parameter).2 }) t.now) ∧
      (s.monitor.running = false ∨ s.monitor.selection ≠ .trim a → t.monitor = s.monitor))

/-- R24, R47 to R51 and R157: the completion of the final computation with every slot READY closes the batch:
its record, with every field of Table 10-2, is posted in the lowest free slot with the next post number, a CLOSE joins
the store queue, and the arm is IDLE. -/
def Obligations.FinalComputationClosesTheBatch : Prop :=
  ∀ (r : TrimRequest) (started : Nat) (b : Batch) (snap : Snapshot) (fx : Fixed)
    (config : ArmConfig) (s : State),
    s.bau = some ⟨r, started⟩ → (s.arm r.arm).state = .closing → (s.arm r.arm).batch = some b →
    b.snapshot = some snap → b.fixed = some fx → (s.arm r.arm).config = some config →
    r.final = true → (s.arm r.arm).slotsReady = true → (s.arm r.arm).drainTimer = none →
    s.restartPending = false →
    let ng := b.figures.ng + r.netG b.figures snap.params config
    let ne := b.figures.ne + r.netE b.figures snap.params config
    let dvg := (r.pulsesG * 1000000 + b.figures.grossResidueG) / config.factorG
    let dve := (r.pulsesE * 1000000 + b.figures.grossResidueE) / config.factorE
    let vg := b.figures.vg + dvg
    let ve := b.figures.ve + dve
    let lane := s.lanes[laneOf r.arm]
    ∃ (t : State) (rec : BatchRecord), exec .computationComplete s = .next t ∧
      (t.arm r.arm).state = .idle ∧ (t.arm r.arm).batch = none ∧ (t.arm r.arm).reserved = false ∧
      (t.arm r.arm).opened = false ∧
      t.lanes[laneOf r.arm] = { lane with
        records := lane.records ++ [⟨rec, lane.freeSlot⟩]
        postCounter := (lane.postCounter + 1) % 256 } ∧
      rec.post = (lane.postCounter + 1) % 256 ∧ rec.unsaved = false ∧ rec.arm = r.arm ∧
      rec.key = b.key ∧ rec.preset = b.preset ∧ rec.name = some snap.name ∧
      rec.target = some snap.params.target ∧ rec.precision = some snap.params.precision ∧
      rec.vg = vg ∧ rec.ve = ve ∧ rec.ng = ng ∧ rec.ne = ne ∧
      rec.pulsesG = some (b.figures.pulsesG + r.pulsesG) ∧
      rec.pulsesE = some (b.figures.pulsesE + r.pulsesE) ∧
      rec.excess = ng + ne - b.preset ∧ (∀ n, b.number = some n → rec.number = n) ∧
      (∀ e, b.ending = some e → rec.kind = e.kind ∧ rec.abortCause = e.cause) ∧
      rec.fraction =
        (if ng + ne = 0 then 0 else (roundDiv (ne * 10000 : Nat) (ng + ne)).toNat) ∧
      rec.averageG =
        (if vg = 0 then none
        else some (roundDiv (b.figures.sumG + dvg * r.probeG.temperature) vg)) ∧
      rec.averageE =
        (if ve = 0 then none
        else some (roundDiv (b.figures.sumE + dve * r.probeE.temperature) ve)) ∧
      rec.markers =
        { b.figures.markers with
          uncorrectedG := b.figures.markers.uncorrectedG || r.probeG.uncorrected
          uncorrectedE := b.figures.markers.uncorrectedE || r.probeE.uncorrected
          offRatio := decide (ng + ne ≠ 0) &&
            decide (snap.params.tolerance <
              ((rec.fraction : Int) - snap.params.target).natAbs)
          additiveLag := rec.markers.additiveLag } ∧
      (rec.markers.additiveLag = true ↔ b.figures.markers.additiveLag = true ∨
        ∃ i : SlotId, ∃ ad, servedAdditive snap config.slots[i] = some ad ∧
          (s.arm r.arm).slots[i].issued + 20 <
            (vg + ve) * ad.rate / (1000 * config.slots[i].strokeVolume)) ∧
      rec.additives.map (·.code) =
        (snap.params.additives.toList.map (·.code)).filter (fun code => decide (code ≠ 0)) ∧
      (∀ (n : Nat) (ad : Additive) (entry : AdditiveEntry),
        (snap.params.additives.toList.filter fun x => decide (x.code ≠ 0))[n]? = some ad →
        rec.additives[n]? = some entry →
          entry.required = (vg + ve) * ad.rate / 1000 ∧
          (∀ i : SlotId, config.slots[i].code = ad.code →
            (∀ j : SlotId, j < i → config.slots[j].code ≠ ad.code) →
              entry.verified = (s.arm r.arm).slots[i].verified ∧
              entry.missed = (s.arm r.arm).slots[i].missed ∧
              entry.delivered =
                (s.arm r.arm).slots[i].verified * config.slots[i].strokeVolume ∧
              (entry.short = true ↔
                entry.delivered + config.slots[i].strokeVolume < entry.required))) ∧
      (∃ figures : TotalsBlock, figures.totals = (t.arm r.arm).totals ∧
        (⟨.close r.arm lane.freeSlot rec figures, false⟩ ∈ t.storeQueue ∨
          t.current.map (·.op) = some (.close r.arm lane.freeSlot rec figures)))

/-- R15 to R17: each delivery check counts its bad windows and strikes on the third in a row, after which its
count is 0; a good window judged sets it to 0, and two grace windows are not judged for overspeed. R10 to R14, R18, R23
and R42: a computation of a batch underway trims the valve and counts its saturation, sets the flow rate, the stage and
the flow limit in force, raises the flags and hold causes of the checks, and takes the arm into HELD, FLUSHING or
CLOSING. R147 and R148: where the arm so gives up a grant, the head of the header queue is examined in the same event,
before the BAU takes its next request. -/
def Obligations.DeliveryChecksStrikeOnTheThirdWindow : Prop :=
  (∀ (f : Figures) (st : ArmState) (snap : Snapshot) (w : WindowVolumes),
    let g := f.check st snap w
    let checked := st = .delivering ∨ st = .flushing
    let fast := f.flowLimit * 105 / 100 < f.rate
    let outside := snap.params.excursion < f.error.natAbs
    let judged := st = .delivering ∧ snap.params.lowStart ≤ f.vg + f.ve ∧ snap.excursionOn = true
    let only := 0 < w.grossE ∧ (snap.kind = .blend → w.grossG = 0)
    (checked → 0 < f.grace → g.overspeed = 0 ∧ g.grace = f.grace - 1) ∧
    (checked → f.grace = 0 → g.grace = 0 ∧ (¬ fast → g.overspeed = 0) ∧
      (fast → f.overspeed < 2 → g.overspeed = f.overspeed + 1) ∧
      (fast → 2 ≤ f.overspeed → g.overspeed = 0)) ∧
    (judged → (¬ outside → g.excursion = 0) ∧
      (outside → f.excursion < 2 → g.excursion = f.excursion + 1) ∧
      (outside → 2 ≤ f.excursion → g.excursion = 0)) ∧
    (¬ judged → g.excursion = f.excursion) ∧
    (checked → (¬ only → g.ethanolOnly = 0) ∧
      (only → f.ethanolOnly < 2 → g.ethanolOnly = f.ethanolOnly + 1) ∧
      (only → 2 ≤ f.ethanolOnly → g.ethanolOnly = 0)) ∧
    (¬ checked → g.overspeed = f.overspeed ∧ g.grace = f.grace ∧ g.ethanolOnly = f.ethanolOnly) ∧
    ((overspeedCheck f).2 = true ↔ fast ∧ 2 ≤ f.overspeed) ∧
    ((excursionCheck snap.params f).2 = true ↔ outside ∧ 2 ≤ f.excursion) ∧
    ((ethanolOnlyCheck snap.kind w f).2 = true ↔ only ∧ 2 ≤ f.ethanolOnly)) ∧
  (∀ (r : TrimRequest) (started : Nat) (b : Batch) (snap : Snapshot) (fx : Fixed)
    (config : ArmConfig) (s : State),
    s.bau = some ⟨r, started⟩ → (s.arm r.arm).state.underway = true → (s.arm r.arm).batch = some b →
    b.snapshot = some snap → b.fixed = some fx → (s.arm r.arm).config = some config →
    r.final = false → (s.arm r.arm).finalDone = false → s.restartPending = false →
    r.arm ∉ s.header.queue.map (·.arm) → 0 < r.duration →
    let p := snap.params
    let f := b.figures
    let st := (s.arm r.arm).state
    let dvg := (r.pulsesG * 1000000 + f.grossResidueG) / config.factorG
    let dve := (r.pulsesE * 1000000 + f.grossResidueE) / config.factorE
    let gross := f.vg + f.ve + dvg + dve
    let ne := f.ne + r.netE f p config
    let v := f.ng + r.netG f p config + ne
    let error : Int := ne -
      (if v < fx.flushStart then min fx.goal (fx.goal * v / fx.flushStart) else fx.goal : Nat)
    let trimmed := st = .delivering ∧ v < fx.flushStart ∧ 0 < fx.goal
    let u := if trimmed then trimmedCommand p error f.u else f.u
    let saturated := trimmed ∧ (u = p.uHi ∧ error < 0 ∨ u = p.uLo ∧ 0 < error)
    let reached := saturated ∧ p.nSat ≤ f.saturation + 1
    let rate := (f.rate + (((((dvg + dve) * 60 / r.duration : Nat) : Int) - f.rate) *
      config.smoothing).tdiv 16).toNat
    let stage : Stage :=
      if p.topOffVolume + v ≥ b.preset then .topOff else if gross < p.lowStart then .lowStart
      else .main
    let stageLimit :=
      match stage with | .lowStart => p.lowFlow | .main => p.mainFlow | .topOff => p.topOffFlow
    let flowLimit :=
      match s.header.grants[r.arm].limit with | none => stageLimit | some l => min stageLimit l
    let grace := if flowLimit < f.flowLimit then 2 else f.grace
    let counted := Figures.check
      { f with
        vg := f.vg + dvg, ve := f.ve + dve, error := error, rate := rate, flowLimit := flowLimit
        grace := grace } st snap ⟨dvg, dve, 0, 0⟩
    let checked := st = .delivering ∨ st = .flushing
    let overspeed := checked ∧ grace = 0 ∧ flowLimit * 105 / 100 < rate ∧ 2 ≤ f.overspeed
    let excursion := st = .delivering ∧ p.lowStart ≤ gross ∧ snap.excursionOn = true ∧
      p.excursion < error.natAbs ∧ 2 ≤ f.excursion
    let ethanolOnly := checked ∧ (0 < dve ∧ (snap.kind = .blend → dvg = 0)) ∧ 2 ≤ f.ethanolOnly
    let struck := overspeed ∨ excursion ∨ ethanolOnly
    let released := b.preset ≤ v ∧ (st = .delivering ∨ st = .held .delivering) ∨
      v < b.preset ∧ ¬ struck ∧ st = .delivering ∧ fx.flushStart ≤ v ∧ 0 < fx.flush
    ∃ (t : State) (b' : Batch), exec .computationComplete s = .next t ∧
      (t.arm r.arm).batch = some b' ∧
      b'.figures.saturation =
        (if trimmed then (if saturated then (if reached then 0 else f.saturation + 1) else 0)
        else f.saturation) ∧
      (b'.figures.markers.trimSaturated = true ↔ f.markers.trimSaturated = true ∨ reached) ∧
      b'.figures.rate = rate ∧ b'.figures.stage = stage ∧ b'.figures.flowLimit = flowLimit ∧
      b'.figures.grace = counted.grace ∧ b'.figures.overspeed = counted.overspeed ∧
      b'.figures.excursion = counted.excursion ∧ b'.figures.ethanolOnly = counted.ethanolOnly ∧
      (∀ x : Flag, FlagSet.has (t.arm r.arm).flags x = true ↔
        FlagSet.has (s.arm r.arm).flags x = true ∨ x = .ratio ∧ (reached ∨ excursion) ∨
          x = .overspeed ∧ overspeed ∨ x = .ethanolOnly ∧ ethanolOnly) ∧
      (b.preset ≤ v →
        (t.arm r.arm).state = .closing ∧ b'.ending = some ⟨.complete, none⟩ ∧
          (t.arm r.arm).causes = 0 ∧ b'.figures.u = 0 ∧ (t.arm r.arm).valve.commanded = 0 ∧
          (t.arm r.arm).drainTimer = some (t.now + config.drainTime * 1000)) ∧
      (v < b.preset → struck ∨ st.isHeld = true →
        (t.arm r.arm).state =
          (match st with
            | .delivering => .held .delivering
            | .flushing => .held .flushing
            | other => other) ∧
        (∀ x : HoldCause, HoldSet.has (t.arm r.arm).causes x = true ↔
          st.isHeld = true ∧ HoldSet.has (s.arm r.arm).causes x = true ∨
            x = .ratio ∧ excursion ∨ x = .overspeed ∧ overspeed ∨
            x = .ethanolOnly ∧ ethanolOnly) ∧
        (t.arm r.arm).holdTimer =
          (if st.isHeld then (s.arm r.arm).holdTimer
          else some (t.now + p.holdLimit * 1000 * 1000)) ∧
        (st = .delivering → b'.figures.u = 0 ∧ b'.figures.uResume = u ∧
          (t.arm r.arm).valve.commanded = 0)) ∧
      (v < b.preset → ¬ struck → st = .flushing →
        (t.arm r.arm).state = .flushing ∧ (t.arm r.arm).causes = (s.arm r.arm).causes) ∧
      (v < b.preset → ¬ struck → st = .delivering →
        (t.arm r.arm).causes = (s.arm r.arm).causes ∧
        (fx.flushStart ≤ v ∧ 0 < fx.flush →
          (t.arm r.arm).state = .flushing ∧ b'.figures.u = 0 ∧
            (t.arm r.arm).valve.commanded = 0 ∧ t.header.grants[r.arm] = ⟨0, none⟩) ∧
        (v < fx.flushStart ∨ fx.flush = 0 →
          (t.arm r.arm).state = .delivering ∧ b'.figures.u = u ∧
            t.header.grants = s.header.grants ∧
            (trimmed → (t.arm r.arm).valve.commanded = u) ∧
            (¬ trimmed → (t.arm r.arm).valve.commanded = (s.arm r.arm).valve.commanded))) ∧
      (released → ∃ m u : State, m.now = t.now ∧
        (m.arm r.arm).opened = (s.arm r.arm).opened ∧
        (m.arm r.arm).batch.bind (·.number) = b.number ∧
        m.header = { s.header with grants := s.header.grants.set r.arm ⟨0, none⟩ } ∧
        ((f.vg + f.ve) / 500000 = gross / 500000 → f.firstLitre = true ∨ gross < 1000 →
          m.storeQueue = s.storeQueue ∧ m.current = s.current ∧ m.walks = s.walks) ∧
        s.changesOnly m (fun q => q == .clock || q == .arm r.arm || q == .header || q == .bau ||
          q == .cache || q == .storeQueue || q == .current || q == .walks ||
          match q with | .port _ => true | _ => false) ∧
        exec .headExamination m = .next u ∧
        u.changesOnly t (fun q => q == .arm r.arm || q == .arithmeticQueue || q == .bau ||
          q == .monitor)) ∧
      (¬ released → t.header = s.header ∧ t.batchCounter = s.batchCounter))

/-! ## Header, injectors and probes -/

/-- R34, R104, R138, R145, R148 and R153: a head examination admits the head with its whole request or with the whole
free capacity, giving it the next batch number, posting its admission CHECKPOINT and holding it where an additive is out
of service, and goes on with the arm behind it; a head that cannot be served ends it. Which value the counter item of an
operation under way keeps, at that item's own instant too, is the model's choice (log entry 6). -/
def Obligations.HeadExaminationServesInOrder : Prop :=
  (∀ s : State, s.header.queue = [] → exec .headExamination s = .next s) ∧
  (∀ (head : HeaderPlace) (rest : List HeaderPlace) (b : Batch) (snap : Snapshot) (fx : Fixed)
    (config : ArmConfig) (s : State),
    s.header.queue = head :: rest → (∀ q ∈ rest, q.arm ≠ head.arm) → s.restartPending = false →
    (s.arm head.arm).batch = some b → b.snapshot = some snap → b.fixed = some fx →
    (s.arm head.arm).config = some config → (∀ d : Nat, s.load ≠ .loading d) →
    let free := s.header.capacity - s.header.granted
    (free < head.request → free < head.minimum → exec .headExamination s = .next s) ∧
    (∀ g : Grant,
      head.request ≤ free ∧ g = ⟨head.request, none⟩ ∨
        free < head.request ∧ head.minimum ≤ free ∧
          g = ⟨free, some (free * 10000 / fx.fraction)⟩ →
      ∃ t : State, exec .headExamination s = exec .headExamination t ∧
        s.admitsArm t head.arm b snap config fx b.figures.markers.flushReduced g (fun _ => false) ∧
        t.header.queue = rest ∧
        (rest = [] → exec .headExamination s = .next t)))

/-- R127 to R133, R135 and R136: a verify edge verifies an unresolved stroke and a timeout misses it, with the fault of
R132 at the miss limit, while the pulse goes on; a slot left unresolved at the end of its pulse awaits its edge. At the
end of the cycle, by the end of a resolved stroke's pulse or by the edge or the timeout awaited, a slot whose conditions
hold strikes again, also on a CLOSING arm while its drain runs, and a CLOSING arm with nothing left to wait for closes
its batch. That the clock moves to the event's own instant, where that lies ahead, is the model's choice (log entry
5). -/
def Obligations.StrokesRunTheirCycle : Prop :=
  (∀ (a : ArmId) (i : SlotId) (s : State),
      let slot := (s.arm a).slots[i]
      slot.phase = .stroking .unresolved →
        exec (.verifyEdge a i) s =
          .next (s.setArm a (·.setSlot i fun x =>
            { x with
              phase := .stroking .verified
              verified := x.verified + 1
              consecutive := 0
              verifyTimer := none })) ∧
        (∀ d, slot.pulseTimer = some d →
          exec (.pulseEnd a i) s =
            .next (State.setArm { s with now := max s.now d } a
              (·.setSlot i fun x => { x with phase := .awaitVerify, pulseTimer := none }))) ∧
        (∀ d snap, slot.verifyTimer = some d → (s.arm a).snapshot = some snap →
          slot.consecutive + 1 < snap.params.missLimit →
          exec (.verifyTimeout a i) s =
            .next (State.setArm { s with now := max s.now d } a (·.setSlot i fun x =>
              { x with
                phase := .stroking .missed
                missed := x.missed + 1
                consecutive := x.consecutive + 1
                verifyTimer := none })))) ∧
  (∀ (a : ArmId) (i : SlotId) (d : Nat) (b : Batch) (snap : Snapshot) (config : ArmConfig)
      (s : State),
      let slot := (s.arm a).slots[i]
      slot.phase = .stroking .unresolved ∨ slot.phase = .awaitVerify → slot.verifyTimer = some d →
      (s.arm a).batch = some b → b.snapshot = some snap → (s.arm a).config = some config →
      snap.params.missLimit ≤ slot.consecutive + 1 →
      (s.arm a).state ≠ .closing ∨ s.restartPending = false →
      let now := max s.now d
      let held := snap.faultAction = .hold ∧ (s.arm a).state.underway = true
      let counted : Slot :=
        { slot with missed := slot.missed + 1, consecutive := 0, verifyTimer := none }
      let ended : Slot := { counted with phase := .ready, pulseTimer := none }
      let starts := ¬ held ∧
        Arm.strokeDue { s.arm a with slots := (s.arm a).slots.set i ended } s.inService config snap i
      let complete := slot.phase = .awaitVerify ∧ (s.arm a).state = .closing ∧
        (s.arm a).finalDone = true ∧ ∀ j : SlotId, j ≠ i → (s.arm a).slots[j].phase = .ready
      ∃ t : State, exec (.verifyTimeout a i) s = .next t ∧ t.now = now ∧
        (∀ j : SlotId, j ≠ i → (t.arm a).slots[j] = (s.arm a).slots[j]) ∧
        (slot.phase = .stroking .unresolved →
          (t.arm a).slots[i] = { counted with phase := .stroking .missed }) ∧
        (slot.phase = .awaitVerify → starts → (t.arm a).slots[i] = ended.struck config.slots[i] now) ∧
        (slot.phase = .awaitVerify → ¬ starts → (t.arm a).slots[i] = ended) ∧
        (t.arm a).flags = FlagSet.add (s.arm a).flags .additive ∧
        (held →
          t.arm a =
            { (s.arm a).takesCause .additive now with
              flags := (t.arm a).flags
              slots := (t.arm a).slots }) ∧
        (¬ held → starts ∨ ¬ complete →
          t.arm a = { s.arm a with flags := (t.arm a).flags, slots := (t.arm a).slots }) ∧
        (¬ starts → complete → (t.arm a).state = .idle ∧ (t.arm a).batch = none)) ∧
  (∀ (a : ArmId) (i : SlotId) (b : Batch) (snap : Snapshot) (config : ArmConfig) (s : State)
      (c : Instr) (now : Nat) (ended : Slot),
      (s.arm a).batch = some b → b.snapshot = some snap → (s.arm a).config = some config →
      let slot := (s.arm a).slots[i]
      (c = .pulseEnd a i ∧
          (∃ d o, slot.phase = .stroking o ∧ o ≠ .unresolved ∧ slot.pulseTimer = some d ∧
            now = max s.now d) ∧
          ended = { slot with phase := .ready, pulseTimer := none, verifyTimer := none } ∨
        c = .verifyEdge a i ∧ slot.phase = .awaitVerify ∧ now = s.now ∧
          ended =
            { slot with
              phase := .ready
              pulseTimer := none
              verifyTimer := none
              verified := slot.verified + 1
              consecutive := 0 } ∨
        c = .verifyTimeout a i ∧ slot.phase = .awaitVerify ∧
          (∃ d, slot.verifyTimer = some d ∧ now = max s.now d) ∧
          slot.consecutive + 1 < snap.params.missLimit ∧
          ended =
            { slot with
              phase := .ready
              pulseTimer := none
              verifyTimer := none
              missed := slot.missed + 1
              consecutive := slot.consecutive + 1 }) →
      let idle := State.setArm { s with now := now } a (·.setSlot i fun _ => ended)
      let starts := (idle.arm a).strokeDue s.inService config snap i
      let complete := (s.arm a).state = .closing ∧ (s.arm a).finalDone = true ∧
        ∀ j : SlotId, j ≠ i → (s.arm a).slots[j].phase = .ready
      (starts →
        exec c s = .next (idle.setArm a (·.setSlot i fun x => x.struck config.slots[i] now))) ∧
      (¬ starts → ¬ complete → exec c s = .next idle) ∧
      (¬ starts → complete → s.restartPending = false →
        let lane := s.lanes[laneOf a]
        ∃ (t : State) (rec : BatchRecord) (figures : TotalsBlock), exec c s = .next t ∧
          t.now = now ∧ (t.arm a).state = .idle ∧ (t.arm a).batch = none ∧
          (t.arm a).slots = (idle.arm a).slots ∧ (t.arm a).totals = (s.arm a).totals ∧
          t.lanes[laneOf a] = { lane with
            records := lane.records ++ [⟨rec, lane.freeSlot⟩]
            postCounter := (lane.postCounter + 1) % 256 } ∧
          rec.post = (lane.postCounter + 1) % 256 ∧ rec.arm = a ∧ rec.key = b.key ∧
          rec.preset = b.preset ∧ rec.vg = b.figures.vg ∧ rec.ve = b.figures.ve ∧
          rec.ng = b.figures.ng ∧ rec.ne = b.figures.ne ∧ rec.unsaved = false ∧
          figures.totals = (s.arm a).totals ∧
          (⟨.close a lane.freeSlot rec figures, false⟩ ∈ t.storeQueue ∨
            t.current.map (·.op) = some (.close a lane.freeSlot rec figures)) ∧
          s.changesOnly t fun q => q == .clock || q == .arm a || q == .lane (laneOf a) ||
            q == .storeQueue || q == .current || q == .walks))

/-- R68 to R70, R72, R73, R171 and R182: a conversion forms its temperature with the calibration of its channel, is
judged and recorded, is shown by a PROBE packet of a monitor running on PROBES, and the scan goes on; a record that it
makes SUSPECT sets the PROBE flag, which leaves every port's seen set; a stale expiry makes a record STALE and sets the
PROBE flag in the same way. That the clock moves to the event's own instant, where that lies ahead, is the model's
choice (log entry 5). -/
def Obligations.ProbeEventsUpdateTheRecord : Prop :=
  (∀ (code : BitVec 16) (v : Conversion) (s : State), s.scanner.conversion = some v →
      let now := max s.now (v.began + 4000)
      let next : Channel :=
        if v.channel.val = s.scanner.settings.last then Fin.ofNat 16 s.scanner.settings.first
        else v.channel + 1
      let record := s.scanner.records[v.channel]
      let arm : ArmId := ⟨v.channel.val / 2, by omega⟩
      let flag : Flag := if v.channel.val % 2 = 0 then .probeG else .probeE
      ∃ t : State, exec (.conversionComplete code) s = .next t ∧ t.now = now ∧
        t.scanner.conversion = some ⟨next, now⟩ ∧ t.scanner.settings = s.scanner.settings ∧
        (∀ c : Channel, c ≠ v.channel → t.scanner.records[c] = s.scanner.records[c]) ∧
        ((s.arm arm).config = none →
          t.scanner.records[v.channel] = record ∧ t.arm arm = s.arm arm ∧
            ∀ p : Port, t.port p = s.port p) ∧
        (∀ config, (s.arm arm).config = some config →
          let k := if v.channel.val % 2 = 0 then config.probeG else config.probeE
          let temperature : Int := k.offset + ((code.toNat * k.span / 65536 : Nat) : Int)
          (s.scanner.settings.low ≤ temperature ∧ temperature ≤ s.scanner.settings.high →
            t.scanner.records[v.channel] =
              ⟨some temperature, .good, 0,
                some (now + s.scanner.settings.staleLimit * 1000 * 1000)⟩ ∧
            t.arm arm = s.arm arm ∧ ∀ p : Port, t.port p = s.port p) ∧
          (temperature < s.scanner.settings.low ∨ s.scanner.settings.high < temperature →
            t.scanner.records[v.channel] =
              { record with
                rejects := if record.rejects < 255 then record.rejects + 1 else 255
                state :=
                  if record.state = .good ∧ 3 ≤ record.rejects then .suspect else record.state } ∧
            (record.state = .good ∧ 3 ≤ record.rejects →
              t.arm arm = { s.arm arm with flags := FlagSet.add (s.arm arm).flags flag } ∧
                ∀ p : Port, t.port p =
                  { s.port p with
                    seen := (s.port p).seen.set arm
                      (FlagSet.without (s.port p).seen[arm] (FlagSet.only flag)) }) ∧
            (record.state ≠ .good ∨ record.rejects < 3 →
              t.arm arm = s.arm arm ∧ ∀ p : Port, t.port p = s.port p))) ∧
        (let temperature : Option Int := (s.arm arm).config.map fun config =>
            let k := if v.channel.val % 2 = 0 then config.probeG else config.probeE
            k.offset + ((code.toNat * k.span / 65536 : Nat) : Int)
          let accepted := temperature.any fun x =>
            decide (s.scanner.settings.low ≤ x) && decide (x ≤ s.scanner.settings.high)
          t.monitor =
            if s.monitor.running = true ∧ s.monitor.selection = .probes then
              s.monitor.form (.probe ⟨v.channel, code, temperature, accepted⟩) now
            else s.monitor) ∧
        s.changesOnly t (fun q => q == .clock || q == .scanner || q == .arm arm || q == .monitor ||
          match q with | .port _ => true | _ => false)) ∧
  (∀ (ch : Channel) (d : Nat) (s : State), s.scanner.records[ch].staleTimer = some d →
      s.scanner.records[ch].state = .good ∨ s.scanner.records[ch].state = .suspect →
        exec (.staleExpiry ch) s =
          .next (State.setFlag
            { s with
              now := max s.now d
              scanner := { s.scanner with
                records := s.scanner.records.set ch
                  { s.scanner.records[ch] with state := .stale, staleTimer := none } } }
            ⟨ch.val / 2, by omega⟩ (if ch.val % 2 = 0 then .probeG else .probeE)))

/-- R84, R103, R105 and R110: an idle BAU takes the oldest request and an idle store the oldest operation; a
CHECKPOINT replaces the waiting one of its arm; a pending restart carries out only what it found. The model's choice
(log entry 25), in two cases: a CHECKPOINT that takes the place of a carried one is carried out in that place; and where
a carried CLOSE of the arm waits behind the carried one, the carried one is removed unwritten and the new one is not
carried. -/
def Obligations.QueuesServeTheOldestFirst : Prop :=
  ((∀ (w : QueuedOp) (rest : List QueuedOp) (s : State), s.current = none →
      s.storeQueue = w :: rest → (∀ d : Nat, s.load ≠ .loading d) →
      s.restartPending = false ∨ w.carried = true →
        exec .storeOperationStart s =
          .next { s with
            current := some ⟨w.op, s.now, none⟩
            storeQueue := rest
            walks := s.walks.map fun x =>
              if w.op = .walk x.key then { x with current := true } else x }) ∧
    (∀ s : State, s.current.isSome = true ∨ (∃ d, s.load = .loading d) ∨
        s.storeQueue = [] ∧ s.restartPending = false →
      exec .storeOperationStart s = .next s) ∧
    (∀ s : State, s.current = none → (∀ d : Nat, s.load ≠ .loading d) → s.restartPending = true →
      (∀ w ∈ s.storeQueue, w.carried = false) →
        exec .storeOperationStart s = .next s.restartReset)) ∧
  ((∀ (r : TrimRequest) (rest : List TrimRequest) (s : State), s.bau = none →
      s.arithmeticQueue = r :: rest →
        exec .bauTakeRequest s = .next { s with bau := some ⟨r, s.now⟩, arithmeticQueue := rest }) ∧
    (∀ s : State, s.bau.isSome = true ∨ s.arithmeticQueue = [] → exec .bauTakeRequest s = .next s)) ∧
  (∀ (a : ArmId) (op : StoreOp) (queue : List QueuedOp), op.isCheckpoint a = true →
      ((∀ w ∈ queue, w.op.isCheckpoint a = false) →
        joinCheckpoint a op queue = queue ++ [⟨op, false⟩]) ∧
      (∀ before w rest, queue = before ++ w :: rest → w.op.isCheckpoint a = true →
        (∀ x ∈ before, x.op.isCheckpoint a = false) →
        ((∀ x ∈ rest, x.op.isClose a = false) →
          joinCheckpoint a op queue = before ++ { w with op := op } :: rest) ∧
        ((∃ x ∈ rest, x.op.isClose a = true) →
          joinCheckpoint a op queue = before ++ rest ++ [⟨op, false⟩])))

/-! ## The store -/

/-- R89, R97, R98, R100, R103, R106, R110, R114 and R122: a walk that finds a valid entry and record sets the used flag,
fills the cache, leaves the walk list and hands its outcome to every waiter, each by its own release and additives; a
walk that finds none hands that on, and a walk whose directory read, record read or used-flag write fails answers each
waiter STORE_FAULT and sets its STORE flag. Whatever the outcome and whatever else waits, the next operation starts in
the same event, or a pending RESTART whose carried operations are done resets the part. That an item whose check word
matches is used as stored when its fields lie out of range, a page above 63 among them, is the model's choice (log entry
32), and so is that the clock moves to the completion's own instant, where that lies ahead (log entry 5). -/
def Obligations.WalkCompletionServesItsWaiters : Prop :=
  ∀ (key : Key) (started : Nat) (n : Option Nat) (w : WalkEntry) (s : State),
    s.current = some ⟨.walk key, started, n⟩ → w ∈ s.walks →
    w.key = key → s.walkKeys.Nodup → w.waiters.Nodup →
    let item := asEntry (Store.read s.store key.product)
    (∀ e : DirectoryEntry, item = some e →
      (e.valid = false →
        ∃ t : State, exec (.walkCompletion none) s = .next t.advanceStore ∧
          t.now = max s.now (started + 1000) ∧
          s.walkEnds t key w ∧ t.store = s.store ∧ t.cache = s.cache ∧
          ∀ a ∈ w.waiters, t.arm a = (s.arm a).toIdle ∧
            s.walkAnswers t a .unknownProduct .nothing) ∧
      (∀ r : RecipeRecord, e.valid = true →
        asRecipe (Store.read s.store (256 + e.page * 16 + key.package)) = some r →
        (r.valid = false →
          ∃ t : State, exec (.walkCompletion none) s = .next t.advanceStore ∧
            t.now = max s.now (started + 2000) ∧ s.walkEnds t key w ∧ t.store = s.store ∧
            t.cache = s.cache ∧
            ∀ a ∈ w.waiters, t.arm a = (s.arm a).toIdle ∧ s.walkAnswers t a .noRecipe .nothing) ∧
        (r.valid = true →
          ∃ t : State, exec (.walkCompletion none) s = .next t.advanceStore ∧
            t.now = max s.now (started + if e.used then 2000 else 3000) ∧ s.walkEnds t key w ∧
            t.store = (if e.used then s.store
              else Store.save s.store key.product (.entry { e with used := true })) ∧
            t.cache = (s.fillCache ⟨key, e.page, e.restricted || r.restricted, r.dispensed,
              ⟨r.name, r.kind, r.params, r.faultAction, true⟩⟩).cache ∧
            ∀ a ∈ w.waiters, ∀ config, (s.arm a).config = some config →
              ((e.restricted = true ∨ r.restricted = true) ∧ (s.arm a).release = none →
                t.arm a = (s.arm a).toIdle ∧ s.walkAnswers t a .restricted .nothing) ∧
              ((e.restricted = true ∨ r.restricted = true → (s.arm a).release ≠ none) →
                s.additivesPass config r.params →
                (t.arm a).state = .authorized ∧
                  (t.arm a).authorizeTimer = some (t.now + s.authorizeTimeout * 1000 * 1000) ∧
                  (t.arm a).release =
                    (if e.restricted || r.restricted then none else (s.arm a).release) ∧
                  (t.arm a).snapshot =
                    (s.arm a).batch.map (fun _ =>
                      ⟨r.name, r.kind, r.params, r.faultAction, true⟩) ∧
                  s.walkAnswers t a .ok
                    (.recipe ⟨r.name, r.kind, r.params, r.faultAction, true⟩)) ∧
              ((e.restricted = true ∨ r.restricted = true → (s.arm a).release ≠ none) →
                ∀ before ad rest, r.params.additives.toList = before ++ ad :: rest →
                  (∀ x ∈ before, s.additivePasses config x) → ad.code ≠ 0 →
                  ((∀ i : SlotId, config.slots[i].code ≠ ad.code) →
                    t.arm a = (s.arm a).toIdle ∧ s.walkAnswers t a .noInjector .nothing) ∧
                  ((∃ i : SlotId, config.slots[i].code = ad.code) →
                    s.codeInService ad.code = false →
                    t.arm a = (s.arm a).toIdle ∧
                      s.walkAnswers t a .additiveUnavailable .nothing))) ∧
        (r.valid = true → e.used = false →
          (∃ t : State, exec (.walkCompletion (some ⟨2, .blank⟩)) s = .next t.advanceStore ∧
            s.walkFails t key w (started + 3000) ∧ t.store = Store.erase s.store key.product) ∧
          (s.storeCanonical → Store.read s.store key.product ≠
              some (formed (.entry { e with used := true })) →
            ∃ t : State, exec (.walkCompletion (some ⟨2, .unchanged⟩)) s = .next t.advanceStore ∧
              s.walkFails t key w (started + 3000) ∧ t.store = s.store))) ∧
      (e.valid = true →
        (∀ f, f = none ∧ asRecipe (Store.read s.store (256 + e.page * 16 + key.package)) = none ∨
            (∃ shows, f = some ⟨1, shows⟩) →
          ∃ t : State, exec (.walkCompletion f) s = .next t.advanceStore ∧
            s.walkFails t key w (started + 2000) ∧ t.store = s.store))) ∧
    (∀ f, f = none ∧ item = none ∨ (∃ shows, f = some ⟨0, shows⟩) →
      ∃ t : State, exec (.walkCompletion f) s = .next t.advanceStore ∧
        s.walkFails t key w (started + 1000) ∧ t.store = s.store)

/-- R89, R101, R104, R106, R115 and R160: the custody operations write their items in order, each with the check word
formed for it, and take 1 ms an item; the batch counter item carries the counter's value at its own moment; a store
failure sets STORE, clears the dispensed copies of the keys that asked or marks the record unsaved, and the next
operation starts in the same event. That a counter item is written at the end of its millisecond, before an event of
the same instant, is the model's choice (log entry 6), and so are the layout of the contents that a check word is formed
over (log entry 14), the use as stored of an item whose fields lie out of range (log entry 32) and that the clock moves
to the completion's own instant, where that lies ahead (log entry 5). -/
def Obligations.CustodyOperationsWriteTheirItems : Prop :=
  ((∀ (c : StoreItem), formed c = ⟨c, crc16 (itemBytes c)⟩ ∧ isBlank (formed c) = false) ∧
    ∀ (k : CurrentOp) (value now : Nat),
      ((∃ a m, k.op = .checkpointOpen a m ∧ k.started + 1000 ≤ now) ∨
          (∃ a slot r x, k.op = .close a slot r x ∧ k.started + 2000 ≤ now) →
        k.counter = none → k.noteCounter value now = { k with counter := some value }) ∧
      ((∃ a m, k.op = .checkpointOpen a m ∧ now < k.started + 1000) ∨
          (∃ a slot r x, k.op = .close a slot r x ∧ now < k.started + 2000) ∨ k.counter ≠ none →
        k.noteCounter value now = k)) ∧
  (∀ (a : ArmId) (m : OpenMarker) (started counter : Nat) (n : Option Nat) (s : State),
    s.current = some ⟨.checkpointOpen a m, started, n⟩ →
    n = none ∧ counter = s.batchCounter ∨ n = some counter →
    exec (.checkpointCompletion none) s =
      .next (State.advanceStore { s with
        now := max s.now (started + 2000)
        current := none
        store := Store.save (Store.save s.store 1320 (.counter counter)) (1288 + a.val)
          (.marker (some m)) }) ∧
    (s.storeCanonical → Store.read s.store 1320 ≠ some (formed (.counter counter)) →
      exec (.checkpointCompletion (some ⟨0, .unchanged⟩)) s =
        .next (State.advanceStore (State.setFlag { s with
          now := max s.now (started + 1000), current := none } a .store)))) ∧
  (∀ (a : ArmId) (x : TotalsBlock) (started : Nat) (n : Option Nat) (s : State),
    s.current = some ⟨.checkpointIdle a x, started, n⟩ →
    exec (.checkpointCompletion none) s =
      .next (State.advanceStore { s with
        now := max s.now (started + 1000)
        current := none
        store := Store.save s.store (1280 + a.val) (.totals x) })) ∧
  (∀ (a : ArmId) (slot : Nat) (r : BatchRecord) (x : TotalsBlock) (started counter : Nat)
    (n : Option Nat) (s : State),
    s.current = some ⟨.close a slot r x, started, n⟩ →
    n = none ∧ counter = s.batchCounter ∨ n = some counter →
    exec (.closeCompletion none) s =
      .next (State.advanceStore { s with
        now := max s.now (started + 4000)
        current := none
        store := Store.save (Store.save (Store.save (Store.save s.store (1280 + a.val) (.totals x))
          1320 (.counter counter)) (1296 + a.val / 2 * 6 + slot) (.slot (some r)))
          (1288 + a.val) (.marker none) }) ∧
    exec (.closeCompletion (some ⟨0, .blank⟩)) s =
      .next (State.advanceStore (State.setLane (State.setFlag { s with
        now := max s.now (started + 1000)
        current := none
        store := Store.erase s.store (1280 + a.val) } a .store) (laneOf a) fun lane =>
          { lane with records := lane.records.map fun q =>
            if q.slot = slot then { q with record := { q.record with unsaved := true } } else q }))) ∧
  (∀ (l : LaneId) (slot : Nat) (started : Nat) (n : Option Nat) (s : State),
    s.current = some ⟨.recordFree l slot, started, n⟩ →
    ((∀ q ∈ s.lanes[l].records, q.slot = slot → q.record.unsaved = false) →
      exec (.recordFreeCompletion none) s =
        .next (State.advanceStore (((State.setLane { s with
          now := max s.now (started + 1000)
          current := none
          store := Store.save s.store (1296 + l.val * 6 + slot) (.slot none) } l fun lane =>
            { lane with records := lane.records.tail, releasePending := false }).settle (.lane l)
              (.release l) .ok .nothing).settle .supervisor (.release l) .ok .nothing))) ∧
    (s.storeCanonical → Store.read s.store (1296 + l.val * 6 + slot) ≠ some (formed (.slot none)) →
      exec (.recordFreeCompletion (some ⟨0, .unchanged⟩)) s =
        .next (State.advanceStore (((State.setLane { s with
          now := max s.now (started + 1000), current := none } l fun lane =>
            { lane with releasePending := false }).settle (.lane l) (.release l) .storeFault
              .nothing).settle .supervisor (.release l) .storeFault .nothing)))) ∧
  (∀ (l : LaneId) (q : QueuedRecord) (rest : List QueuedRecord) (m : OpenMarker) (started : Nat)
    (n : Option Nat) (s : State),
    s.current = some ⟨.recordFree l q.slot, started, n⟩ → s.lanes[l].records = q :: rest →
    q.record.unsaved = true → q.slot < 6 →
    asMarker (Store.read s.store (1288 + q.record.arm.val)) = some (some m) →
    m.number = q.record.number →
    exec (.recordFreeCompletion none) s =
      .next (State.advanceStore (((State.setLane { s with
        now := max s.now (started + 3000)
        current := none
        store := Store.save (Store.save s.store (1296 + l.val * 6 + q.slot) (.slot none))
          (1288 + q.record.arm.val) (.marker none) } l fun lane =>
          { lane with records := rest, releasePending := false }).settle (.lane l)
            (.release l) .ok .nothing).settle .supervisor (.release l) .ok .nothing))) ∧
  (∀ (page package : Nat) (askers : List Key) (started : Nat) (n : Option Nat) (f : Option StoreFault)
    (s : State),
    s.current = some ⟨.dispensed page package askers, started, n⟩ → s.keysDistinct →
    f = none ∧ asRecipe (Store.read s.store (256 + page * 16 + package)) = none ∨
      (∃ shows, f = some ⟨0, shows⟩) →
    ∃ cache : Vector (Option CacheEntry) 32,
      (∀ i : Fin 32, cache[i] = s.cache[i].map fun e =>
        if e.key ∈ askers then { e with dispensed := false } else e) ∧
      exec (.dispensedCompletion f) s =
        .next (State.advanceStore { s with
          now := max s.now (started + 1000), current := none, cache := cache })) ∧
  (∀ (page package : Nat) (askers : List Key) (started : Nat) (n : Option Nat) (r : RecipeRecord)
    (s : State),
    s.current = some ⟨.dispensed page package askers, started, n⟩ →
    asRecipe (Store.read s.store (256 + page * 16 + package)) = some r →
    (r.valid = true → r.dispensed = false → s.keysDistinct →
      ∃ cache : Vector (Option CacheEntry) 32,
        (∀ i : Fin 32, cache[i] = s.cache[i].map fun e =>
          if e.key ∈ askers then { e with dispensed := false } else e) ∧
        exec (.dispensedCompletion (some ⟨1, .blank⟩)) s =
          .next (State.advanceStore { s with
            now := max s.now (started + 2000)
            current := none
            store := Store.erase s.store (256 + page * 16 + package)
            cache := cache })) ∧
    (r.valid = true → r.dispensed = false →
      exec (.dispensedCompletion none) s =
        .next (State.advanceStore { s with
          now := max s.now (started + 2000)
          current := none
          store := Store.save s.store (256 + page * 16 + package)
            (.recipe { r with dispensed := true }) })) ∧
    (r.valid = false ∨ r.dispensed = true →
      exec (.dispensedCompletion none) s =
        .next (State.advanceStore { s with now := max s.now (started + 1000), current := none })))

/-- R89, R92, R93, R102, R106, R117 and R118: a supervisor read answers with the item as stored and STORE_FAULT when
its check word does not match, a write stores its item and invalidates what it affects whether or not it succeeded,
and CLEAR USAGE invalidates its product whatever the response. The layout of the contents that a check word is formed
over is the model's choice (log entry 14), and so are that a directory write knows the page the product pointed to from
the entry stored before it (log entry 27), that an item whose fields lie out of range, a page above 63 among them, is
used as stored (log entry 32), what a READ RECIPE of a blank item shows beside its clear marks (log entry 12), and that
the clock moves to the completion's own instant, where that lies ahead (log entry 5). -/
def Obligations.SupervisorOperationsAnswer : Prop :=
  (∀ (product started : Nat) (n : Option Nat) (s : State),
    s.current = some ⟨.readEntry product, started, n⟩ →
    let t : State := { s with now := max s.now (started + 1000), current := none }
    (∀ e, asEntry (Store.read s.store product) = some e →
      exec (.supReadCompletion none) s =
        .next (t.settle .supervisor .store .ok (.entry e)).advanceStore) ∧
    (∀ shows, exec (.supReadCompletion (some ⟨0, shows⟩)) s =
      .next (t.settle .supervisor .store .storeFault .nothing).advanceStore) ∧
    (∀ c, Store.read s.store product = some c → c.check ≠ crc16 (itemBytes c.contents) →
      exec (.supReadCompletion none) s =
        .next (t.settle .supervisor .store .storeFault .nothing).advanceStore)) ∧
  (∀ (page package started : Nat) (n : Option Nat) (s : State),
    s.current = some ⟨.readRecipe page package, started, n⟩ →
    let t : State := { s with now := max s.now (started + 1000), current := none }
    (∀ r, asRecipe (Store.read s.store (256 + page * 16 + package)) = some r →
      exec (.supReadCompletion none) s =
        .next (t.settle .supervisor .store .ok (.recipeRecord r)).advanceStore) ∧
    (∀ c, Store.read s.store (256 + page * 16 + package) = some c →
      c.check ≠ crc16 (itemBytes c.contents) →
      exec (.supReadCompletion none) s =
        .next (t.settle .supervisor .store .storeFault .nothing).advanceStore)) ∧
  (∀ (product started : Nat) (n : Option Nat) (e : DirectoryEntry) (s : State),
    s.current = some ⟨.writeEntry product e, started, n⟩ →
    let left := fun x : CacheEntry => ∃ old, asEntry (Store.read s.store product) = some old ∧
      old.valid = true ∧ old.page ≠ e.page ∧ x.page = old.page
    let invalidated := fun (cache : Vector (Option CacheEntry) 32) =>
      ∀ (i : Fin 32) (x : CacheEntry),
        cache[i] = some x ↔ s.cache[i] = some x ∧ x.key.product ≠ product ∧ ¬ left x
    (∃ cache, invalidated cache ∧
      exec (.supWriteCompletion none) s =
        .next (State.advanceStore (State.settle { s with
          now := max s.now (started + 1000)
          current := none
          store := Store.save s.store product (.entry e)
          cache := cache } .supervisor .store .ok .nothing))) ∧
    (∃ cache, invalidated cache ∧
      exec (.supWriteCompletion (some ⟨0, .blank⟩)) s =
        .next (State.advanceStore (State.settle { s with
          now := max s.now (started + 1000)
          current := none
          store := Store.erase s.store product
          cache := cache } .supervisor .store .storeFault .nothing)))) ∧
  (∀ (page package started : Nat) (n : Option Nat) (r : RecipeRecord) (s : State),
    s.current = some ⟨.writeRecipe page package r, started, n⟩ →
    ∃ cache : Vector (Option CacheEntry) 32,
      (∀ i : Fin 32, cache[i] = s.cache[i].filter fun x =>
        decide (¬ (x.page = page ∧ x.key.package = package))) ∧
      exec (.supWriteCompletion none) s =
        .next (State.advanceStore (State.settle { s with
          now := max s.now (started + 1000)
          current := none
          store := Store.save s.store (256 + page * 16 + package) (.recipe r)
          cache := cache } .supervisor .store .ok .nothing)) ∧
      exec (.supWriteCompletion (some ⟨0, .blank⟩)) s =
        .next (State.advanceStore (State.settle { s with
          now := max s.now (started + 1000)
          current := none
          store := Store.erase s.store (256 + page * 16 + package)
          cache := cache } .supervisor .store .storeFault .nothing))) ∧
  (∀ (product started : Nat) (n : Option Nat) (s : State),
    s.current = some ⟨.usageClear product, started, n⟩ →
    ∃ (cache : Vector (Option CacheEntry) 32), (∀ i : Fin 32,
        cache[i] = s.cache[i].filter fun x => decide (x.key.product ≠ product)) ∧
      (∀ e, asEntry (Store.read s.store product) = some e → e.valid = false →
        exec (.usageClearCompletion none) s =
          .next (State.advanceStore (State.settle { s with
            now := max s.now (started + 1000)
            current := none
            cache := cache } .supervisor .store .unknownProduct .nothing))) ∧
      (∀ e, asEntry (Store.read s.store product) = some e → e.valid = true →
        (∀ k : Fin 16, ∃ r,
          asRecipe (Store.read s.store (256 + e.page * 16 + k.val)) = some r) →
        ∃ (items : Nat) (store : Store), 18 ≤ items ∧ items ≤ 34 ∧
          exec (.usageClearCompletion none) s =
            .next (State.advanceStore (State.settle { s with
              now := max s.now (started + items * 1000)
              current := none
              store := store
              cache := cache } .supervisor .store .ok .nothing)) ∧
          Store.read store product = some (formed (.entry { e with used := false })) ∧
          (∀ k : Fin 16, ∀ r, asRecipe (Store.read s.store (256 + e.page * 16 + k.val)) = some r →
            asRecipe (Store.read store (256 + e.page * 16 + k.val)) =
              some (if r.valid then { r with dispensed := false } else r)) ∧
          (∀ x, x ≠ product → (x < 256 + e.page * 16 ∨ 256 + e.page * 16 + 16 ≤ x) →
            Store.read store x = Store.read s.store x)))

/-- R63, R107 to R110, R151, R157, R161 and R162: a sound load ends READY with counter and totals taken and each lane's
records in post order; a waiting CHECKPOINT has the loaded figures added to its own; in arm order each set marker
without its record is posted as INTERRUPTED behind its lane's records, one whose record is there takes none, and in both
cases a CLOSE joins the tail of the store queue; then a RESTART is answered and the queue resumes. A failing item ends
the load LOAD_FAILED with nothing taken. The order of records whose post numbers have no oldest, or share one, and
which record is carried when two slots hold the marker's batch number, are the model's choice (log entry 28), and this
statement says nothing of them beyond naming the model's `inPostOrder`. That an INTERRUPTED record of a lane whose six
slots all hold records is posted seventh, in slot 0, is the model's choice too (log entry 31), and so is that items
whose fields lie out of range are taken as stored (log entry 32) and that the clock moves to the load's own end, where
that lies ahead (log entry 5). -/
def Obligations.LoadEndRestoresTheCustody : Prop :=
  let foundIn := fun (slots : Nat → Option BatchRecord) (l : LaneId) =>
    ([0, 1, 2, 3, 4, 5] : List Nat).filterMap fun i =>
      (slots (l.val * 6 + i)).map fun r => (⟨{ r with unsaved := false }, i⟩ : QueuedRecord)
  let plus := fun (x y : TotalsBlock) =>
    (⟨⟨(x.totals.grossG + y.totals.grossG) % 1000000000000,
        (x.totals.grossE + y.totals.grossE) % 1000000000000,
        (x.totals.netG + y.totals.netG) % 1000000000000,
        (x.totals.netE + y.totals.netE) % 1000000000000⟩,
      (x.pulsesG + y.pulsesG) % 4294967296, (x.pulsesE + y.pulsesE) % 4294967296⟩ : TotalsBlock)
  let interrupted := fun (lane : Lane) (a : ArmId) (m : OpenMarker) =>
    ({ number := m.number
       post := (lane.postCounter + 1) % 256
       arm := a
       key := m.key
       name := none
       kind := .interrupted
       abortCause := none
       preset := m.preset
       vg := m.vg
       ve := m.ve
       ng := m.ng
       ne := m.ne
       pulsesG := none
       pulsesE := none
       excess := m.ng + m.ne - m.preset
       fraction :=
         if m.ng + m.ne = 0 then 0 else (roundDiv (m.ne * 10000 : Nat) (m.ng + m.ne)).toNat
       target := none
       averageG := none
       averageE := none
       precision := none
       markers := ⟨false, false, false, false, false, false, false⟩
       additives := []
       unsaved := false } : BatchRecord)
  ((∀ (started : Nat) (f : Option Nat) (s : State), s.load = .loading started →
      (∃ k, f = some k ∧ k < 41) ∨ asCounter (Store.read s.store 1320) = none ∨
        (∃ a : ArmId, asTotals (Store.read s.store (1280 + a.val)) = none) ∨
        (∃ n, n < 24 ∧ asSlot (Store.read s.store (1296 + n)) = none) ∨
        (∃ a : ArmId, asMarker (Store.read s.store (1288 + a.val)) = none) →
      ∃ items : Nat, 1 ≤ items ∧ items ≤ 41 ∧ (∀ k, f = some k → items ≤ k + 1) ∧
        exec (.storeLoadEnd f) s =
          .next (State.advanceStore (State.settle { s with
            now := max s.now (started + items * 1000)
            load := .loadFailed } .supervisor .restart .storeFault .nothing))) ∧
    (∀ (started counter : Nat) (totals : ArmId → TotalsBlock) (slots : Nat → Option BatchRecord)
      (markers : ArmId → Option OpenMarker) (written : ArmId → Option QueuedRecord) (s : State),
      s.load = .loading started → asCounter (Store.read s.store 1320) = some counter →
      (∀ a : ArmId, asTotals (Store.read s.store (1280 + a.val)) = some (totals a)) →
      (∀ n, n < 24 → asSlot (Store.read s.store (1296 + n)) = some (slots n)) →
      (∀ a : ArmId, asMarker (Store.read s.store (1288 + a.val)) = some (markers a)) →
      (∀ a m, markers a = some m →
        (∀ q, written a = some q → q ∈ foundIn slots (laneOf a) ∧ q.record.number = m.number) ∧
          ∀ q ∈ foundIn slots (laneOf a), q.record.number = m.number → written a = some q) →
      let figures := fun a : ArmId =>
        match markers a, written a with
        | some m, none => m.figures
        | _, _ => totals a
      let loadedArm := fun a : ArmId =>
        { s.arm a with
          totals := (figures a).totals
          meterG := { (s.arm a).meterG with
            unauthorized := ((s.arm a).meterG.unauthorized + (figures a).pulsesG) % 4294967296 }
          meterE := { (s.arm a).meterE with
            unauthorized := ((s.arm a).meterE.unauthorized + (figures a).pulsesE) % 4294967296 } }
      let loadedLane := fun l : LaneId =>
        { s.lanes[l] with
          records := inPostOrder (foundIn slots l)
          postCounter :=
            ((inPostOrder (foundIn slots l)).getLast?.map (·.record.post)).getD 0 }
      let recovered := fun (lane : Lane) (a : ArmId) =>
        match markers a, written a with
        | some m, none =>
          { lane with
            records := lane.records ++ [⟨interrupted lane a m, lane.freeSlot⟩]
            postCounter := (lane.postCounter + 1) % 256 }
        | _, _ => lane
      let before := fun a : ArmId =>
        if a.val % 2 = 0 then loadedLane (laneOf a)
        else recovered (loadedLane (laneOf a)) ⟨a.val - 1, by omega⟩
      let closing := fun a : ArmId =>
        (markers a).map fun m =>
          let carried := (written a).getD ⟨interrupted (before a) a m, (before a).freeSlot⟩
          (⟨.close a carried.slot carried.record ⟨(loadedArm a).totals,
            (loadedArm a).meterG.unauthorized, (loadedArm a).meterE.unauthorized⟩, false⟩ : QueuedOp)
      ∃ t : State,
        exec (.storeLoadEnd none) s =
          .next (t.settle .supervisor .restart .ok .nothing).advanceStore ∧
        t.now = max s.now (started + 41000) ∧ t.load = .ready ∧ t.batchCounter = counter ∧
        (∀ a : ArmId, t.arm a = loadedArm a) ∧
        (∀ l : LaneId, t.lanes[l] =
          recovered (recovered (loadedLane l) ⟨2 * l.val, by omega⟩) ⟨2 * l.val + 1, by omega⟩) ∧
        t.storeQueue =
          (s.storeQueue.map fun w =>
            { w with op := match w.op with
              | .checkpointIdle a x => .checkpointIdle a (plus x (figures a))
              | .checkpointOpen a m =>
                .checkpointOpen a { m with figures := plus m.figures (figures a) }
              | other => other }) ++
            ([0, 1, 2, 3, 4, 5, 6, 7] : List ArmId).filterMap closing ∧
        s.changesOnly t (fun q => q == .clock || q == .load || q == .batchCounter ||
          q == .storeQueue || match q with | .arm _ => true | .lane _ => true | _ => false))) ∧
  (∀ (rs : List QueuedRecord) (first : QueuedRecord), first ∈ rs →
      (∀ r ∈ rs, (r.record.post + 256 - first.record.post) % 256 ≤ 127) →
      (∀ r ∈ rs, r.record.post < 256) → (rs.map (·.record.post)).Nodup →
        (inPostOrder rs).Perm rs ∧
          (inPostOrder rs).Pairwise fun x y =>
            (x.record.post + 256 - first.record.post) % 256 <
              (y.record.post + 256 - first.record.post) % 256) ∧
  (∀ (lane : Lane), (∃ i, i < 6 ∧ ∀ q ∈ lane.records, q.slot ≠ i) →
    lane.freeSlot < 6 ∧ (∀ q ∈ lane.records, q.slot ≠ lane.freeSlot) ∧
      ∀ i, i < lane.freeSlot → ∃ q ∈ lane.records, q.slot = i)

/-! ## Alert lines -/

/-- R179 and R180: a lane's alert line is active while a selected condition of Table 12-1 holds, and the
supervisor's while any flag is set, any probe is STALE, an overflow stands or the load has failed. -/
def Obligations.AlertLinesFollowTheirConditions : Prop :=
  (∀ (l : LaneId) (s : State),
    let mine := fun a : ArmId => a.val / 2 = l.val
    s.laneAlert l = true ↔
      (s.lanes[l].alertSelection.getLsbD 0 = true ∧
          ∃ a, mine a ∧ (s.arm a).state.isHeld = true) ∨
      (s.lanes[l].alertSelection.getLsbD 1 = true ∧ ∃ a, mine a ∧ (s.arm a).flags ≠ 0) ∨
      (s.lanes[l].alertSelection.getLsbD 2 = true ∧ s.lanes[l].records ≠ []) ∨
      (s.lanes[l].alertSelection.getLsbD 3 = true ∧
          ∃ a, mine a ∧ (s.arm a).state = .waitingHeader) ∨
      (s.lanes[l].alertSelection.getLsbD 4 = true ∧
          ∃ a, mine a ∧ (s.arm a).state = .authorized)) ∧
  (∀ s : State, s.supervisorAlert = true ↔
    (∃ a : ArmId, (s.arm a).flags ≠ 0) ∨ (∃ c : Channel, s.scanner.records[c].state = .stale) ∨
      s.monitor.overflow = true ∨ s.load = .loadFailed)

/-! ## Events without their condition -/

/-- The model's choice (log entry 7), and R129 for a verify edge outside a cycle: an event whose timer is stopped,
whose work is not under way or whose condition does not hold changes nothing. -/
def Obligations.UnoccurringEventsChangeNothing : Prop :=
  (∀ (a : ArmId) (s : State),
    ((s.arm a).state ≠ .authorized ∨ (s.arm a).authorizeTimer = none →
      exec (.authorizeTimerExpiry a) s = .next s) ∧
    ((s.arm a).state.isHeld = false ∨ (s.arm a).holdTimer = none →
      exec (.holdTimerExpiry a) s = .next s) ∧
    ((s.arm a).state ≠ .closing ∨ (s.arm a).drainTimer = none →
      exec (.drainExpiry a) s = .next s) ∧
    ((s.arm a).windowTimer = none → exec (.windowExpiry a) s = .next s) ∧
    ((s.arm a).release = none → exec (.releaseLapse a) s = .next s) ∧
    ((s.arm a).config = none ∨ (s.arm a).valve.periodStart = none →
      exec (.pwmPeriodStart a) s = .next s)) ∧
  (∀ (a : ArmId) (i : SlotId) (s : State),
    let slot := (s.arm a).slots[i]
    ((∀ o, slot.phase ≠ .stroking o) ∨ slot.pulseTimer = none →
      exec (.pulseEnd a i) s = .next s) ∧
    (slot.phase ≠ .stroking .unresolved ∧ slot.phase ≠ .awaitVerify →
      exec (.verifyEdge a i) s = .next s ∧ exec (.verifyTimeout a i) s = .next s) ∧
    (slot.verifyTimer = none → exec (.verifyTimeout a i) s = .next s)) ∧
  (∀ (ch : Channel) (code : BitVec 16) (s : State),
    (s.scanner.conversion = none → exec (.conversionComplete code) s = .next s) ∧
    (s.scanner.records[ch].staleTimer = none ∨
        s.scanner.records[ch].state ≠ .good ∧ s.scanner.records[ch].state ≠ .suspect →
      exec (.staleExpiry ch) s = .next s)) ∧
  (∀ (p : Port) (s : State),
    (s.bau = none → exec .computationComplete s = .next s) ∧
    (s.monitor.sending = none → exec .packetSent s = .next s) ∧
    ((s.port p).sending = none → exec (.responseSent p) s = .next s) ∧
    ((s.port p).receiver = .hunting → exec (.frameGapTimeout p) s = .next s)) ∧
  (∀ (f : Option StoreFault) (k : Option Nat) (s : State),
    ((∀ key t n, s.current ≠ some ⟨.walk key, t, n⟩) → exec (.walkCompletion f) s = .next s) ∧
    ((∀ page package askers t n, s.current ≠ some ⟨.dispensed page package askers, t, n⟩) →
      exec (.dispensedCompletion f) s = .next s) ∧
    ((∀ a m t n, s.current ≠ some ⟨.checkpointOpen a m, t, n⟩) →
      (∀ a x t n, s.current ≠ some ⟨.checkpointIdle a x, t, n⟩) →
        exec (.checkpointCompletion f) s = .next s) ∧
    ((∀ a slot r x t n, s.current ≠ some ⟨.close a slot r x, t, n⟩) →
      exec (.closeCompletion f) s = .next s) ∧
    ((∀ l slot t n, s.current ≠ some ⟨.recordFree l slot, t, n⟩) →
      exec (.recordFreeCompletion f) s = .next s) ∧
    ((∀ product t n, s.current ≠ some ⟨.readEntry product, t, n⟩) →
      (∀ page package t n, s.current ≠ some ⟨.readRecipe page package, t, n⟩) →
        exec (.supReadCompletion f) s = .next s) ∧
    ((∀ product e t n, s.current ≠ some ⟨.writeEntry product e, t, n⟩) →
      (∀ page package r t n, s.current ≠ some ⟨.writeRecipe page package r, t, n⟩) →
        exec (.supWriteCompletion f) s = .next s) ∧
    ((∀ product t n, s.current ≠ some ⟨.usageClear product, t, n⟩) →
      exec (.usageClearCompletion f) s = .next s) ∧
    ((∀ t, s.load ≠ .loading t) → exec (.storeLoadEnd k) s = .next s) ∧
    (s.restartPending = false ∨ s.current.isSome = true ∨ (∃ q ∈ s.storeQueue, q.carried = true) →
      exec .restartReset s = .next s))
end

