-- ==== Sys2Proof/Laws/State.lean ====
section
/-! SUPPORT. What every named update of the state leaves alone: one lemma per field per update, true by
unfolding the update, so that no later proof unfolds a record update. -/

namespace Sys2Proof.Machine

open Sys2Proof

/-! ## `State.setArm` -/

@[simp] theorem State.setArm_pending (s : State) (a : ArmId) (f : Arm → Arm) :
    (s.setArm a f).pending = s.pending := rfl

@[simp] theorem State.setArm_now (s : State) (a : ArmId) (f : Arm → Arm) :
    (s.setArm a f).now = s.now := rfl

@[simp] theorem State.setArm_arithmeticQueue (s : State) (a : ArmId) (f : Arm → Arm) :
    (s.setArm a f).arithmeticQueue = s.arithmeticQueue := rfl

@[simp] theorem State.setArm_bau (s : State) (a : ArmId) (f : Arm → Arm) :
    (s.setArm a f).bau = s.bau := rfl

@[simp] theorem State.setArm_scanner (s : State) (a : ArmId) (f : Arm → Arm) :
    (s.setArm a f).scanner = s.scanner := rfl

@[simp] theorem State.setArm_windows (s : State) (a : ArmId) (f : Arm → Arm) :
    (s.setArm a f).windows = s.windows := rfl

@[simp] theorem State.setArm_cache (s : State) (a : ArmId) (f : Arm → Arm) :
    (s.setArm a f).cache = s.cache := rfl

@[simp] theorem State.setArm_replacement (s : State) (a : ArmId) (f : Arm → Arm) :
    (s.setArm a f).replacement = s.replacement := rfl

@[simp] theorem State.setArm_walks (s : State) (a : ArmId) (f : Arm → Arm) :
    (s.setArm a f).walks = s.walks := rfl

@[simp] theorem State.setArm_store (s : State) (a : ArmId) (f : Arm → Arm) :
    (s.setArm a f).store = s.store := rfl

@[simp] theorem State.setArm_storeQueue (s : State) (a : ArmId) (f : Arm → Arm) :
    (s.setArm a f).storeQueue = s.storeQueue := rfl

@[simp] theorem State.setArm_current (s : State) (a : ArmId) (f : Arm → Arm) :
    (s.setArm a f).current = s.current := rfl

@[simp] theorem State.setArm_load (s : State) (a : ArmId) (f : Arm → Arm) :
    (s.setArm a f).load = s.load := rfl

@[simp] theorem State.setArm_restartPending (s : State) (a : ArmId) (f : Arm → Arm) :
    (s.setArm a f).restartPending = s.restartPending := rfl

@[simp] theorem State.setArm_authorizeTimeout (s : State) (a : ArmId) (f : Arm → Arm) :
    (s.setArm a f).authorizeTimeout = s.authorizeTimeout := rfl

@[simp] theorem State.setArm_inService (s : State) (a : ArmId) (f : Arm → Arm) :
    (s.setArm a f).inService = s.inService := rfl

@[simp] theorem State.setArm_header (s : State) (a : ArmId) (f : Arm → Arm) :
    (s.setArm a f).header = s.header := rfl

@[simp] theorem State.setArm_batchCounter (s : State) (a : ArmId) (f : Arm → Arm) :
    (s.setArm a f).batchCounter = s.batchCounter := rfl

@[simp] theorem State.setArm_lanes (s : State) (a : ArmId) (f : Arm → Arm) :
    (s.setArm a f).lanes = s.lanes := rfl

@[simp] theorem State.setArm_ports (s : State) (a : ArmId) (f : Arm → Arm) :
    (s.setArm a f).ports = s.ports := rfl

@[simp] theorem State.setArm_monitor (s : State) (a : ArmId) (f : Arm → Arm) :
    (s.setArm a f).monitor = s.monitor := rfl

/-! ## `State.setPort` -/

@[simp] theorem State.setPort_pending (s : State) (p : Port) (f : LinkPort → LinkPort) :
    (s.setPort p f).pending = s.pending := rfl

@[simp] theorem State.setPort_now (s : State) (p : Port) (f : LinkPort → LinkPort) :
    (s.setPort p f).now = s.now := rfl

@[simp] theorem State.setPort_arms (s : State) (p : Port) (f : LinkPort → LinkPort) :
    (s.setPort p f).arms = s.arms := rfl

@[simp] theorem State.setPort_arithmeticQueue (s : State) (p : Port) (f : LinkPort → LinkPort) :
    (s.setPort p f).arithmeticQueue = s.arithmeticQueue := rfl

@[simp] theorem State.setPort_bau (s : State) (p : Port) (f : LinkPort → LinkPort) :
    (s.setPort p f).bau = s.bau := rfl

@[simp] theorem State.setPort_scanner (s : State) (p : Port) (f : LinkPort → LinkPort) :
    (s.setPort p f).scanner = s.scanner := rfl

@[simp] theorem State.setPort_windows (s : State) (p : Port) (f : LinkPort → LinkPort) :
    (s.setPort p f).windows = s.windows := rfl

@[simp] theorem State.setPort_cache (s : State) (p : Port) (f : LinkPort → LinkPort) :
    (s.setPort p f).cache = s.cache := rfl

@[simp] theorem State.setPort_replacement (s : State) (p : Port) (f : LinkPort → LinkPort) :
    (s.setPort p f).replacement = s.replacement := rfl

@[simp] theorem State.setPort_walks (s : State) (p : Port) (f : LinkPort → LinkPort) :
    (s.setPort p f).walks = s.walks := rfl

@[simp] theorem State.setPort_store (s : State) (p : Port) (f : LinkPort → LinkPort) :
    (s.setPort p f).store = s.store := rfl

@[simp] theorem State.setPort_storeQueue (s : State) (p : Port) (f : LinkPort → LinkPort) :
    (s.setPort p f).storeQueue = s.storeQueue := rfl

@[simp] theorem State.setPort_current (s : State) (p : Port) (f : LinkPort → LinkPort) :
    (s.setPort p f).current = s.current := rfl

@[simp] theorem State.setPort_load (s : State) (p : Port) (f : LinkPort → LinkPort) :
    (s.setPort p f).load = s.load := rfl

@[simp] theorem State.setPort_restartPending (s : State) (p : Port) (f : LinkPort → LinkPort) :
    (s.setPort p f).restartPending = s.restartPending := rfl

@[simp] theorem State.setPort_authorizeTimeout (s : State) (p : Port) (f : LinkPort → LinkPort) :
    (s.setPort p f).authorizeTimeout = s.authorizeTimeout := rfl

@[simp] theorem State.setPort_inService (s : State) (p : Port) (f : LinkPort → LinkPort) :
    (s.setPort p f).inService = s.inService := rfl

@[simp] theorem State.setPort_header (s : State) (p : Port) (f : LinkPort → LinkPort) :
    (s.setPort p f).header = s.header := rfl

@[simp] theorem State.setPort_batchCounter (s : State) (p : Port) (f : LinkPort → LinkPort) :
    (s.setPort p f).batchCounter = s.batchCounter := rfl

@[simp] theorem State.setPort_lanes (s : State) (p : Port) (f : LinkPort → LinkPort) :
    (s.setPort p f).lanes = s.lanes := rfl

@[simp] theorem State.setPort_monitor (s : State) (p : Port) (f : LinkPort → LinkPort) :
    (s.setPort p f).monitor = s.monitor := rfl

/-! ## `State.setLane` -/

@[simp] theorem State.setLane_pending (s : State) (l : LaneId) (f : Lane → Lane) :
    (s.setLane l f).pending = s.pending := rfl

@[simp] theorem State.setLane_now (s : State) (l : LaneId) (f : Lane → Lane) :
    (s.setLane l f).now = s.now := rfl

@[simp] theorem State.setLane_arms (s : State) (l : LaneId) (f : Lane → Lane) :
    (s.setLane l f).arms = s.arms := rfl

@[simp] theorem State.setLane_arithmeticQueue (s : State) (l : LaneId) (f : Lane → Lane) :
    (s.setLane l f).arithmeticQueue = s.arithmeticQueue := rfl

@[simp] theorem State.setLane_bau (s : State) (l : LaneId) (f : Lane → Lane) :
    (s.setLane l f).bau = s.bau := rfl

@[simp] theorem State.setLane_scanner (s : State) (l : LaneId) (f : Lane → Lane) :
    (s.setLane l f).scanner = s.scanner := rfl

@[simp] theorem State.setLane_windows (s : State) (l : LaneId) (f : Lane → Lane) :
    (s.setLane l f).windows = s.windows := rfl

@[simp] theorem State.setLane_cache (s : State) (l : LaneId) (f : Lane → Lane) :
    (s.setLane l f).cache = s.cache := rfl

@[simp] theorem State.setLane_replacement (s : State) (l : LaneId) (f : Lane → Lane) :
    (s.setLane l f).replacement = s.replacement := rfl

@[simp] theorem State.setLane_walks (s : State) (l : LaneId) (f : Lane → Lane) :
    (s.setLane l f).walks = s.walks := rfl

@[simp] theorem State.setLane_store (s : State) (l : LaneId) (f : Lane → Lane) :
    (s.setLane l f).store = s.store := rfl

@[simp] theorem State.setLane_storeQueue (s : State) (l : LaneId) (f : Lane → Lane) :
    (s.setLane l f).storeQueue = s.storeQueue := rfl

@[simp] theorem State.setLane_current (s : State) (l : LaneId) (f : Lane → Lane) :
    (s.setLane l f).current = s.current := rfl

@[simp] theorem State.setLane_load (s : State) (l : LaneId) (f : Lane → Lane) :
    (s.setLane l f).load = s.load := rfl

@[simp] theorem State.setLane_restartPending (s : State) (l : LaneId) (f : Lane → Lane) :
    (s.setLane l f).restartPending = s.restartPending := rfl

@[simp] theorem State.setLane_authorizeTimeout (s : State) (l : LaneId) (f : Lane → Lane) :
    (s.setLane l f).authorizeTimeout = s.authorizeTimeout := rfl

@[simp] theorem State.setLane_inService (s : State) (l : LaneId) (f : Lane → Lane) :
    (s.setLane l f).inService = s.inService := rfl

@[simp] theorem State.setLane_header (s : State) (l : LaneId) (f : Lane → Lane) :
    (s.setLane l f).header = s.header := rfl

@[simp] theorem State.setLane_batchCounter (s : State) (l : LaneId) (f : Lane → Lane) :
    (s.setLane l f).batchCounter = s.batchCounter := rfl

@[simp] theorem State.setLane_ports (s : State) (l : LaneId) (f : Lane → Lane) :
    (s.setLane l f).ports = s.ports := rfl

@[simp] theorem State.setLane_monitor (s : State) (l : LaneId) (f : Lane → Lane) :
    (s.setLane l f).monitor = s.monitor := rfl

/-! ## `State.setProbe` -/

@[simp] theorem State.setProbe_pending (s : State) (c : Channel) (f : ProbeRecord → ProbeRecord) :
    (s.setProbe c f).pending = s.pending := rfl

@[simp] theorem State.setProbe_now (s : State) (c : Channel) (f : ProbeRecord → ProbeRecord) :
    (s.setProbe c f).now = s.now := rfl

@[simp] theorem State.setProbe_arms (s : State) (c : Channel) (f : ProbeRecord → ProbeRecord) :
    (s.setProbe c f).arms = s.arms := rfl

@[simp] theorem State.setProbe_arithmeticQueue (s : State) (c : Channel) (f : ProbeRecord → ProbeRecord) :
    (s.setProbe c f).arithmeticQueue = s.arithmeticQueue := rfl

@[simp] theorem State.setProbe_bau (s : State) (c : Channel) (f : ProbeRecord → ProbeRecord) :
    (s.setProbe c f).bau = s.bau := rfl

@[simp] theorem State.setProbe_windows (s : State) (c : Channel) (f : ProbeRecord → ProbeRecord) :
    (s.setProbe c f).windows = s.windows := rfl

@[simp] theorem State.setProbe_cache (s : State) (c : Channel) (f : ProbeRecord → ProbeRecord) :
    (s.setProbe c f).cache = s.cache := rfl

@[simp] theorem State.setProbe_replacement (s : State) (c : Channel) (f : ProbeRecord → ProbeRecord) :
    (s.setProbe c f).replacement = s.replacement := rfl

@[simp] theorem State.setProbe_walks (s : State) (c : Channel) (f : ProbeRecord → ProbeRecord) :
    (s.setProbe c f).walks = s.walks := rfl

@[simp] theorem State.setProbe_store (s : State) (c : Channel) (f : ProbeRecord → ProbeRecord) :
    (s.setProbe c f).store = s.store := rfl

@[simp] theorem State.setProbe_storeQueue (s : State) (c : Channel) (f : ProbeRecord → ProbeRecord) :
    (s.setProbe c f).storeQueue = s.storeQueue := rfl

@[simp] theorem State.setProbe_current (s : State) (c : Channel) (f : ProbeRecord → ProbeRecord) :
    (s.setProbe c f).current = s.current := rfl

@[simp] theorem State.setProbe_load (s : State) (c : Channel) (f : ProbeRecord → ProbeRecord) :
    (s.setProbe c f).load = s.load := rfl

@[simp] theorem State.setProbe_restartPending (s : State) (c : Channel) (f : ProbeRecord → ProbeRecord) :
    (s.setProbe c f).restartPending = s.restartPending := rfl

@[simp] theorem State.setProbe_authorizeTimeout (s : State) (c : Channel) (f : ProbeRecord → ProbeRecord) :
    (s.setProbe c f).authorizeTimeout = s.authorizeTimeout := rfl

@[simp] theorem State.setProbe_inService (s : State) (c : Channel) (f : ProbeRecord → ProbeRecord) :
    (s.setProbe c f).inService = s.inService := rfl

@[simp] theorem State.setProbe_header (s : State) (c : Channel) (f : ProbeRecord → ProbeRecord) :
    (s.setProbe c f).header = s.header := rfl

@[simp] theorem State.setProbe_batchCounter (s : State) (c : Channel) (f : ProbeRecord → ProbeRecord) :
    (s.setProbe c f).batchCounter = s.batchCounter := rfl

@[simp] theorem State.setProbe_lanes (s : State) (c : Channel) (f : ProbeRecord → ProbeRecord) :
    (s.setProbe c f).lanes = s.lanes := rfl

@[simp] theorem State.setProbe_ports (s : State) (c : Channel) (f : ProbeRecord → ProbeRecord) :
    (s.setProbe c f).ports = s.ports := rfl

@[simp] theorem State.setProbe_monitor (s : State) (c : Channel) (f : ProbeRecord → ProbeRecord) :
    (s.setProbe c f).monitor = s.monitor := rfl

/-! ## `State.reach` -/

@[simp] theorem State.reach_pending (s : State) (d : Nat) :
    (s.reach d).pending = s.pending := rfl

@[simp] theorem State.reach_arms (s : State) (d : Nat) :
    (s.reach d).arms = s.arms := rfl

@[simp] theorem State.reach_arithmeticQueue (s : State) (d : Nat) :
    (s.reach d).arithmeticQueue = s.arithmeticQueue := rfl

@[simp] theorem State.reach_bau (s : State) (d : Nat) :
    (s.reach d).bau = s.bau := rfl

@[simp] theorem State.reach_scanner (s : State) (d : Nat) :
    (s.reach d).scanner = s.scanner := rfl

@[simp] theorem State.reach_windows (s : State) (d : Nat) :
    (s.reach d).windows = s.windows := rfl

@[simp] theorem State.reach_cache (s : State) (d : Nat) :
    (s.reach d).cache = s.cache := rfl

@[simp] theorem State.reach_replacement (s : State) (d : Nat) :
    (s.reach d).replacement = s.replacement := rfl

@[simp] theorem State.reach_walks (s : State) (d : Nat) :
    (s.reach d).walks = s.walks := rfl

@[simp] theorem State.reach_store (s : State) (d : Nat) :
    (s.reach d).store = s.store := rfl

@[simp] theorem State.reach_storeQueue (s : State) (d : Nat) :
    (s.reach d).storeQueue = s.storeQueue := rfl

@[simp] theorem State.reach_current (s : State) (d : Nat) :
    (s.reach d).current = s.current := rfl

@[simp] theorem State.reach_load (s : State) (d : Nat) :
    (s.reach d).load = s.load := rfl

@[simp] theorem State.reach_restartPending (s : State) (d : Nat) :
    (s.reach d).restartPending = s.restartPending := rfl

@[simp] theorem State.reach_authorizeTimeout (s : State) (d : Nat) :
    (s.reach d).authorizeTimeout = s.authorizeTimeout := rfl

@[simp] theorem State.reach_inService (s : State) (d : Nat) :
    (s.reach d).inService = s.inService := rfl

@[simp] theorem State.reach_header (s : State) (d : Nat) :
    (s.reach d).header = s.header := rfl

@[simp] theorem State.reach_batchCounter (s : State) (d : Nat) :
    (s.reach d).batchCounter = s.batchCounter := rfl

@[simp] theorem State.reach_lanes (s : State) (d : Nat) :
    (s.reach d).lanes = s.lanes := rfl

@[simp] theorem State.reach_ports (s : State) (d : Nat) :
    (s.reach d).ports = s.ports := rfl

@[simp] theorem State.reach_monitor (s : State) (d : Nat) :
    (s.reach d).monitor = s.monitor := rfl

/-! ## `State.idle` -/

@[simp] theorem State.idle_pending (s : State) :
    (s.idle).pending = s.pending := rfl

@[simp] theorem State.idle_arms (s : State) :
    (s.idle).arms = s.arms := rfl

@[simp] theorem State.idle_arithmeticQueue (s : State) :
    (s.idle).arithmeticQueue = s.arithmeticQueue := rfl

@[simp] theorem State.idle_bau (s : State) :
    (s.idle).bau = s.bau := rfl

@[simp] theorem State.idle_scanner (s : State) :
    (s.idle).scanner = s.scanner := rfl

@[simp] theorem State.idle_windows (s : State) :
    (s.idle).windows = s.windows := rfl

@[simp] theorem State.idle_cache (s : State) :
    (s.idle).cache = s.cache := rfl

@[simp] theorem State.idle_replacement (s : State) :
    (s.idle).replacement = s.replacement := rfl

@[simp] theorem State.idle_walks (s : State) :
    (s.idle).walks = s.walks := rfl

@[simp] theorem State.idle_store (s : State) :
    (s.idle).store = s.store := rfl

@[simp] theorem State.idle_storeQueue (s : State) :
    (s.idle).storeQueue = s.storeQueue := rfl

@[simp] theorem State.idle_current (s : State) :
    (s.idle).current = s.current := rfl

@[simp] theorem State.idle_load (s : State) :
    (s.idle).load = s.load := rfl

@[simp] theorem State.idle_restartPending (s : State) :
    (s.idle).restartPending = s.restartPending := rfl

@[simp] theorem State.idle_authorizeTimeout (s : State) :
    (s.idle).authorizeTimeout = s.authorizeTimeout := rfl

@[simp] theorem State.idle_inService (s : State) :
    (s.idle).inService = s.inService := rfl

@[simp] theorem State.idle_header (s : State) :
    (s.idle).header = s.header := rfl

@[simp] theorem State.idle_batchCounter (s : State) :
    (s.idle).batchCounter = s.batchCounter := rfl

@[simp] theorem State.idle_lanes (s : State) :
    (s.idle).lanes = s.lanes := rfl

@[simp] theorem State.idle_ports (s : State) :
    (s.idle).ports = s.ports := rfl

@[simp] theorem State.idle_monitor (s : State) :
    (s.idle).monitor = s.monitor := rfl

/-! ## `State.reply` -/

@[simp] theorem State.reply_pending (s : State) (c : Caller) (r : Result) (b : Body) :
    (s.reply c r b).pending = s.pending := rfl

@[simp] theorem State.reply_now (s : State) (c : Caller) (r : Result) (b : Body) :
    (s.reply c r b).now = s.now := rfl

@[simp] theorem State.reply_arms (s : State) (c : Caller) (r : Result) (b : Body) :
    (s.reply c r b).arms = s.arms := rfl

@[simp] theorem State.reply_arithmeticQueue (s : State) (c : Caller) (r : Result) (b : Body) :
    (s.reply c r b).arithmeticQueue = s.arithmeticQueue := rfl

@[simp] theorem State.reply_bau (s : State) (c : Caller) (r : Result) (b : Body) :
    (s.reply c r b).bau = s.bau := rfl

@[simp] theorem State.reply_scanner (s : State) (c : Caller) (r : Result) (b : Body) :
    (s.reply c r b).scanner = s.scanner := rfl

@[simp] theorem State.reply_windows (s : State) (c : Caller) (r : Result) (b : Body) :
    (s.reply c r b).windows = s.windows := rfl

@[simp] theorem State.reply_cache (s : State) (c : Caller) (r : Result) (b : Body) :
    (s.reply c r b).cache = s.cache := rfl

@[simp] theorem State.reply_replacement (s : State) (c : Caller) (r : Result) (b : Body) :
    (s.reply c r b).replacement = s.replacement := rfl

@[simp] theorem State.reply_walks (s : State) (c : Caller) (r : Result) (b : Body) :
    (s.reply c r b).walks = s.walks := rfl

@[simp] theorem State.reply_store (s : State) (c : Caller) (r : Result) (b : Body) :
    (s.reply c r b).store = s.store := rfl

@[simp] theorem State.reply_storeQueue (s : State) (c : Caller) (r : Result) (b : Body) :
    (s.reply c r b).storeQueue = s.storeQueue := rfl

@[simp] theorem State.reply_current (s : State) (c : Caller) (r : Result) (b : Body) :
    (s.reply c r b).current = s.current := rfl

@[simp] theorem State.reply_load (s : State) (c : Caller) (r : Result) (b : Body) :
    (s.reply c r b).load = s.load := rfl

@[simp] theorem State.reply_restartPending (s : State) (c : Caller) (r : Result) (b : Body) :
    (s.reply c r b).restartPending = s.restartPending := rfl

@[simp] theorem State.reply_authorizeTimeout (s : State) (c : Caller) (r : Result) (b : Body) :
    (s.reply c r b).authorizeTimeout = s.authorizeTimeout := rfl

@[simp] theorem State.reply_inService (s : State) (c : Caller) (r : Result) (b : Body) :
    (s.reply c r b).inService = s.inService := rfl

@[simp] theorem State.reply_header (s : State) (c : Caller) (r : Result) (b : Body) :
    (s.reply c r b).header = s.header := rfl

@[simp] theorem State.reply_batchCounter (s : State) (c : Caller) (r : Result) (b : Body) :
    (s.reply c r b).batchCounter = s.batchCounter := rfl

@[simp] theorem State.reply_lanes (s : State) (c : Caller) (r : Result) (b : Body) :
    (s.reply c r b).lanes = s.lanes := rfl

@[simp] theorem State.reply_monitor (s : State) (c : Caller) (r : Result) (b : Body) :
    (s.reply c r b).monitor = s.monitor := rfl

/-! ## `State.refuse` -/

@[simp] theorem State.refuse_pending (s : State) (c : Caller) (r : Result) :
    (s.refuse c r).pending = s.pending := rfl

@[simp] theorem State.refuse_now (s : State) (c : Caller) (r : Result) :
    (s.refuse c r).now = s.now := rfl

@[simp] theorem State.refuse_arms (s : State) (c : Caller) (r : Result) :
    (s.refuse c r).arms = s.arms := rfl

@[simp] theorem State.refuse_arithmeticQueue (s : State) (c : Caller) (r : Result) :
    (s.refuse c r).arithmeticQueue = s.arithmeticQueue := rfl

@[simp] theorem State.refuse_bau (s : State) (c : Caller) (r : Result) :
    (s.refuse c r).bau = s.bau := rfl

@[simp] theorem State.refuse_scanner (s : State) (c : Caller) (r : Result) :
    (s.refuse c r).scanner = s.scanner := rfl

@[simp] theorem State.refuse_windows (s : State) (c : Caller) (r : Result) :
    (s.refuse c r).windows = s.windows := rfl

@[simp] theorem State.refuse_cache (s : State) (c : Caller) (r : Result) :
    (s.refuse c r).cache = s.cache := rfl

@[simp] theorem State.refuse_replacement (s : State) (c : Caller) (r : Result) :
    (s.refuse c r).replacement = s.replacement := rfl

@[simp] theorem State.refuse_walks (s : State) (c : Caller) (r : Result) :
    (s.refuse c r).walks = s.walks := rfl

@[simp] theorem State.refuse_store (s : State) (c : Caller) (r : Result) :
    (s.refuse c r).store = s.store := rfl

@[simp] theorem State.refuse_storeQueue (s : State) (c : Caller) (r : Result) :
    (s.refuse c r).storeQueue = s.storeQueue := rfl

@[simp] theorem State.refuse_current (s : State) (c : Caller) (r : Result) :
    (s.refuse c r).current = s.current := rfl

@[simp] theorem State.refuse_load (s : State) (c : Caller) (r : Result) :
    (s.refuse c r).load = s.load := rfl

@[simp] theorem State.refuse_restartPending (s : State) (c : Caller) (r : Result) :
    (s.refuse c r).restartPending = s.restartPending := rfl

@[simp] theorem State.refuse_authorizeTimeout (s : State) (c : Caller) (r : Result) :
    (s.refuse c r).authorizeTimeout = s.authorizeTimeout := rfl

@[simp] theorem State.refuse_inService (s : State) (c : Caller) (r : Result) :
    (s.refuse c r).inService = s.inService := rfl

@[simp] theorem State.refuse_header (s : State) (c : Caller) (r : Result) :
    (s.refuse c r).header = s.header := rfl

@[simp] theorem State.refuse_batchCounter (s : State) (c : Caller) (r : Result) :
    (s.refuse c r).batchCounter = s.batchCounter := rfl

@[simp] theorem State.refuse_lanes (s : State) (c : Caller) (r : Result) :
    (s.refuse c r).lanes = s.lanes := rfl

@[simp] theorem State.refuse_monitor (s : State) (c : Caller) (r : Result) :
    (s.refuse c r).monitor = s.monitor := rfl

/-! ## `State.done` -/

@[simp] theorem State.done_pending (s : State) (c : Caller) :
    (s.done c).pending = s.pending := rfl

@[simp] theorem State.done_now (s : State) (c : Caller) :
    (s.done c).now = s.now := rfl

@[simp] theorem State.done_arms (s : State) (c : Caller) :
    (s.done c).arms = s.arms := rfl

@[simp] theorem State.done_arithmeticQueue (s : State) (c : Caller) :
    (s.done c).arithmeticQueue = s.arithmeticQueue := rfl

@[simp] theorem State.done_bau (s : State) (c : Caller) :
    (s.done c).bau = s.bau := rfl

@[simp] theorem State.done_scanner (s : State) (c : Caller) :
    (s.done c).scanner = s.scanner := rfl

@[simp] theorem State.done_windows (s : State) (c : Caller) :
    (s.done c).windows = s.windows := rfl

@[simp] theorem State.done_cache (s : State) (c : Caller) :
    (s.done c).cache = s.cache := rfl

@[simp] theorem State.done_replacement (s : State) (c : Caller) :
    (s.done c).replacement = s.replacement := rfl

@[simp] theorem State.done_walks (s : State) (c : Caller) :
    (s.done c).walks = s.walks := rfl

@[simp] theorem State.done_store (s : State) (c : Caller) :
    (s.done c).store = s.store := rfl

@[simp] theorem State.done_storeQueue (s : State) (c : Caller) :
    (s.done c).storeQueue = s.storeQueue := rfl

@[simp] theorem State.done_current (s : State) (c : Caller) :
    (s.done c).current = s.current := rfl

@[simp] theorem State.done_load (s : State) (c : Caller) :
    (s.done c).load = s.load := rfl

@[simp] theorem State.done_restartPending (s : State) (c : Caller) :
    (s.done c).restartPending = s.restartPending := rfl

@[simp] theorem State.done_authorizeTimeout (s : State) (c : Caller) :
    (s.done c).authorizeTimeout = s.authorizeTimeout := rfl

@[simp] theorem State.done_inService (s : State) (c : Caller) :
    (s.done c).inService = s.inService := rfl

@[simp] theorem State.done_header (s : State) (c : Caller) :
    (s.done c).header = s.header := rfl

@[simp] theorem State.done_batchCounter (s : State) (c : Caller) :
    (s.done c).batchCounter = s.batchCounter := rfl

@[simp] theorem State.done_lanes (s : State) (c : Caller) :
    (s.done c).lanes = s.lanes := rfl

@[simp] theorem State.done_monitor (s : State) (c : Caller) :
    (s.done c).monitor = s.monitor := rfl

/-! ## `State.holdOutstanding` -/

@[simp] theorem State.holdOutstanding_pending (s : State) (c : Caller) (w : Work) :
    (s.holdOutstanding c w).pending = s.pending := rfl

@[simp] theorem State.holdOutstanding_now (s : State) (c : Caller) (w : Work) :
    (s.holdOutstanding c w).now = s.now := rfl

@[simp] theorem State.holdOutstanding_arms (s : State) (c : Caller) (w : Work) :
    (s.holdOutstanding c w).arms = s.arms := rfl

@[simp] theorem State.holdOutstanding_arithmeticQueue (s : State) (c : Caller) (w : Work) :
    (s.holdOutstanding c w).arithmeticQueue = s.arithmeticQueue := rfl

@[simp] theorem State.holdOutstanding_bau (s : State) (c : Caller) (w : Work) :
    (s.holdOutstanding c w).bau = s.bau := rfl

@[simp] theorem State.holdOutstanding_scanner (s : State) (c : Caller) (w : Work) :
    (s.holdOutstanding c w).scanner = s.scanner := rfl

@[simp] theorem State.holdOutstanding_windows (s : State) (c : Caller) (w : Work) :
    (s.holdOutstanding c w).windows = s.windows := rfl

@[simp] theorem State.holdOutstanding_cache (s : State) (c : Caller) (w : Work) :
    (s.holdOutstanding c w).cache = s.cache := rfl

@[simp] theorem State.holdOutstanding_replacement (s : State) (c : Caller) (w : Work) :
    (s.holdOutstanding c w).replacement = s.replacement := rfl

@[simp] theorem State.holdOutstanding_walks (s : State) (c : Caller) (w : Work) :
    (s.holdOutstanding c w).walks = s.walks := rfl

@[simp] theorem State.holdOutstanding_store (s : State) (c : Caller) (w : Work) :
    (s.holdOutstanding c w).store = s.store := rfl

@[simp] theorem State.holdOutstanding_storeQueue (s : State) (c : Caller) (w : Work) :
    (s.holdOutstanding c w).storeQueue = s.storeQueue := rfl

@[simp] theorem State.holdOutstanding_current (s : State) (c : Caller) (w : Work) :
    (s.holdOutstanding c w).current = s.current := rfl

@[simp] theorem State.holdOutstanding_load (s : State) (c : Caller) (w : Work) :
    (s.holdOutstanding c w).load = s.load := rfl

@[simp] theorem State.holdOutstanding_restartPending (s : State) (c : Caller) (w : Work) :
    (s.holdOutstanding c w).restartPending = s.restartPending := rfl

@[simp] theorem State.holdOutstanding_authorizeTimeout (s : State) (c : Caller) (w : Work) :
    (s.holdOutstanding c w).authorizeTimeout = s.authorizeTimeout := rfl

@[simp] theorem State.holdOutstanding_inService (s : State) (c : Caller) (w : Work) :
    (s.holdOutstanding c w).inService = s.inService := rfl

@[simp] theorem State.holdOutstanding_header (s : State) (c : Caller) (w : Work) :
    (s.holdOutstanding c w).header = s.header := rfl

@[simp] theorem State.holdOutstanding_batchCounter (s : State) (c : Caller) (w : Work) :
    (s.holdOutstanding c w).batchCounter = s.batchCounter := rfl

@[simp] theorem State.holdOutstanding_lanes (s : State) (c : Caller) (w : Work) :
    (s.holdOutstanding c w).lanes = s.lanes := rfl

@[simp] theorem State.holdOutstanding_monitor (s : State) (c : Caller) (w : Work) :
    (s.holdOutstanding c w).monitor = s.monitor := rfl

/-! ## `State.settle` -/

@[simp] theorem State.settle_pending (s : State) (p : Port) (w : Work) (r : Result) (b : Body) :
    (s.settle p w r b).pending = s.pending := rfl

@[simp] theorem State.settle_now (s : State) (p : Port) (w : Work) (r : Result) (b : Body) :
    (s.settle p w r b).now = s.now := rfl

@[simp] theorem State.settle_arms (s : State) (p : Port) (w : Work) (r : Result) (b : Body) :
    (s.settle p w r b).arms = s.arms := rfl

@[simp] theorem State.settle_arithmeticQueue (s : State) (p : Port) (w : Work) (r : Result) (b : Body) :
    (s.settle p w r b).arithmeticQueue = s.arithmeticQueue := rfl

@[simp] theorem State.settle_bau (s : State) (p : Port) (w : Work) (r : Result) (b : Body) :
    (s.settle p w r b).bau = s.bau := rfl

@[simp] theorem State.settle_scanner (s : State) (p : Port) (w : Work) (r : Result) (b : Body) :
    (s.settle p w r b).scanner = s.scanner := rfl

@[simp] theorem State.settle_windows (s : State) (p : Port) (w : Work) (r : Result) (b : Body) :
    (s.settle p w r b).windows = s.windows := rfl

@[simp] theorem State.settle_cache (s : State) (p : Port) (w : Work) (r : Result) (b : Body) :
    (s.settle p w r b).cache = s.cache := rfl

@[simp] theorem State.settle_replacement (s : State) (p : Port) (w : Work) (r : Result) (b : Body) :
    (s.settle p w r b).replacement = s.replacement := rfl

@[simp] theorem State.settle_walks (s : State) (p : Port) (w : Work) (r : Result) (b : Body) :
    (s.settle p w r b).walks = s.walks := rfl

@[simp] theorem State.settle_store (s : State) (p : Port) (w : Work) (r : Result) (b : Body) :
    (s.settle p w r b).store = s.store := rfl

@[simp] theorem State.settle_storeQueue (s : State) (p : Port) (w : Work) (r : Result) (b : Body) :
    (s.settle p w r b).storeQueue = s.storeQueue := rfl

@[simp] theorem State.settle_current (s : State) (p : Port) (w : Work) (r : Result) (b : Body) :
    (s.settle p w r b).current = s.current := rfl

@[simp] theorem State.settle_load (s : State) (p : Port) (w : Work) (r : Result) (b : Body) :
    (s.settle p w r b).load = s.load := rfl

@[simp] theorem State.settle_restartPending (s : State) (p : Port) (w : Work) (r : Result) (b : Body) :
    (s.settle p w r b).restartPending = s.restartPending := rfl

@[simp] theorem State.settle_authorizeTimeout (s : State) (p : Port) (w : Work) (r : Result) (b : Body) :
    (s.settle p w r b).authorizeTimeout = s.authorizeTimeout := rfl

@[simp] theorem State.settle_inService (s : State) (p : Port) (w : Work) (r : Result) (b : Body) :
    (s.settle p w r b).inService = s.inService := rfl

@[simp] theorem State.settle_header (s : State) (p : Port) (w : Work) (r : Result) (b : Body) :
    (s.settle p w r b).header = s.header := rfl

@[simp] theorem State.settle_batchCounter (s : State) (p : Port) (w : Work) (r : Result) (b : Body) :
    (s.settle p w r b).batchCounter = s.batchCounter := rfl

@[simp] theorem State.settle_lanes (s : State) (p : Port) (w : Work) (r : Result) (b : Body) :
    (s.settle p w r b).lanes = s.lanes := rfl

@[simp] theorem State.settle_monitor (s : State) (p : Port) (w : Work) (r : Result) (b : Body) :
    (s.settle p w r b).monitor = s.monitor := rfl

/-! ## `State.setFlag` -/

@[simp] theorem State.setFlag_pending (s : State) (a : ArmId) (f : Flag) :
    (s.setFlag a f).pending = s.pending := rfl

@[simp] theorem State.setFlag_now (s : State) (a : ArmId) (f : Flag) :
    (s.setFlag a f).now = s.now := rfl

@[simp] theorem State.setFlag_arithmeticQueue (s : State) (a : ArmId) (f : Flag) :
    (s.setFlag a f).arithmeticQueue = s.arithmeticQueue := rfl

@[simp] theorem State.setFlag_bau (s : State) (a : ArmId) (f : Flag) :
    (s.setFlag a f).bau = s.bau := rfl

@[simp] theorem State.setFlag_scanner (s : State) (a : ArmId) (f : Flag) :
    (s.setFlag a f).scanner = s.scanner := rfl

@[simp] theorem State.setFlag_windows (s : State) (a : ArmId) (f : Flag) :
    (s.setFlag a f).windows = s.windows := rfl

@[simp] theorem State.setFlag_cache (s : State) (a : ArmId) (f : Flag) :
    (s.setFlag a f).cache = s.cache := rfl

@[simp] theorem State.setFlag_replacement (s : State) (a : ArmId) (f : Flag) :
    (s.setFlag a f).replacement = s.replacement := rfl

@[simp] theorem State.setFlag_walks (s : State) (a : ArmId) (f : Flag) :
    (s.setFlag a f).walks = s.walks := rfl

@[simp] theorem State.setFlag_store (s : State) (a : ArmId) (f : Flag) :
    (s.setFlag a f).store = s.store := rfl

@[simp] theorem State.setFlag_storeQueue (s : State) (a : ArmId) (f : Flag) :
    (s.setFlag a f).storeQueue = s.storeQueue := rfl

@[simp] theorem State.setFlag_current (s : State) (a : ArmId) (f : Flag) :
    (s.setFlag a f).current = s.current := rfl

@[simp] theorem State.setFlag_load (s : State) (a : ArmId) (f : Flag) :
    (s.setFlag a f).load = s.load := rfl

@[simp] theorem State.setFlag_restartPending (s : State) (a : ArmId) (f : Flag) :
    (s.setFlag a f).restartPending = s.restartPending := rfl

@[simp] theorem State.setFlag_authorizeTimeout (s : State) (a : ArmId) (f : Flag) :
    (s.setFlag a f).authorizeTimeout = s.authorizeTimeout := rfl

@[simp] theorem State.setFlag_inService (s : State) (a : ArmId) (f : Flag) :
    (s.setFlag a f).inService = s.inService := rfl

@[simp] theorem State.setFlag_header (s : State) (a : ArmId) (f : Flag) :
    (s.setFlag a f).header = s.header := rfl

@[simp] theorem State.setFlag_batchCounter (s : State) (a : ArmId) (f : Flag) :
    (s.setFlag a f).batchCounter = s.batchCounter := rfl

@[simp] theorem State.setFlag_lanes (s : State) (a : ArmId) (f : Flag) :
    (s.setFlag a f).lanes = s.lanes := rfl

@[simp] theorem State.setFlag_monitor (s : State) (a : ArmId) (f : Flag) :
    (s.setFlag a f).monitor = s.monitor := rfl

/-! ## `State.setSeen` -/

@[simp] theorem State.setSeen_pending (s : State) (p : Port) (a : ArmId) (fs : FlagSet) :
    (s.setSeen p a fs).pending = s.pending := rfl

@[simp] theorem State.setSeen_now (s : State) (p : Port) (a : ArmId) (fs : FlagSet) :
    (s.setSeen p a fs).now = s.now := rfl

@[simp] theorem State.setSeen_arms (s : State) (p : Port) (a : ArmId) (fs : FlagSet) :
    (s.setSeen p a fs).arms = s.arms := rfl

@[simp] theorem State.setSeen_arithmeticQueue (s : State) (p : Port) (a : ArmId) (fs : FlagSet) :
    (s.setSeen p a fs).arithmeticQueue = s.arithmeticQueue := rfl

@[simp] theorem State.setSeen_bau (s : State) (p : Port) (a : ArmId) (fs : FlagSet) :
    (s.setSeen p a fs).bau = s.bau := rfl

@[simp] theorem State.setSeen_scanner (s : State) (p : Port) (a : ArmId) (fs : FlagSet) :
    (s.setSeen p a fs).scanner = s.scanner := rfl

@[simp] theorem State.setSeen_windows (s : State) (p : Port) (a : ArmId) (fs : FlagSet) :
    (s.setSeen p a fs).windows = s.windows := rfl

@[simp] theorem State.setSeen_cache (s : State) (p : Port) (a : ArmId) (fs : FlagSet) :
    (s.setSeen p a fs).cache = s.cache := rfl

@[simp] theorem State.setSeen_replacement (s : State) (p : Port) (a : ArmId) (fs : FlagSet) :
    (s.setSeen p a fs).replacement = s.replacement := rfl

@[simp] theorem State.setSeen_walks (s : State) (p : Port) (a : ArmId) (fs : FlagSet) :
    (s.setSeen p a fs).walks = s.walks := rfl

@[simp] theorem State.setSeen_store (s : State) (p : Port) (a : ArmId) (fs : FlagSet) :
    (s.setSeen p a fs).store = s.store := rfl

@[simp] theorem State.setSeen_storeQueue (s : State) (p : Port) (a : ArmId) (fs : FlagSet) :
    (s.setSeen p a fs).storeQueue = s.storeQueue := rfl

@[simp] theorem State.setSeen_current (s : State) (p : Port) (a : ArmId) (fs : FlagSet) :
    (s.setSeen p a fs).current = s.current := rfl

@[simp] theorem State.setSeen_load (s : State) (p : Port) (a : ArmId) (fs : FlagSet) :
    (s.setSeen p a fs).load = s.load := rfl

@[simp] theorem State.setSeen_restartPending (s : State) (p : Port) (a : ArmId) (fs : FlagSet) :
    (s.setSeen p a fs).restartPending = s.restartPending := rfl

@[simp] theorem State.setSeen_authorizeTimeout (s : State) (p : Port) (a : ArmId) (fs : FlagSet) :
    (s.setSeen p a fs).authorizeTimeout = s.authorizeTimeout := rfl

@[simp] theorem State.setSeen_inService (s : State) (p : Port) (a : ArmId) (fs : FlagSet) :
    (s.setSeen p a fs).inService = s.inService := rfl

@[simp] theorem State.setSeen_header (s : State) (p : Port) (a : ArmId) (fs : FlagSet) :
    (s.setSeen p a fs).header = s.header := rfl

@[simp] theorem State.setSeen_batchCounter (s : State) (p : Port) (a : ArmId) (fs : FlagSet) :
    (s.setSeen p a fs).batchCounter = s.batchCounter := rfl

@[simp] theorem State.setSeen_lanes (s : State) (p : Port) (a : ArmId) (fs : FlagSet) :
    (s.setSeen p a fs).lanes = s.lanes := rfl

@[simp] theorem State.setSeen_monitor (s : State) (p : Port) (a : ArmId) (fs : FlagSet) :
    (s.setSeen p a fs).monitor = s.monitor := rfl

/-! ## `State.setReceiver` -/

@[simp] theorem State.setReceiver_pending (s : State) (p : Port) (r : Receiver) :
    (s.setReceiver p r).pending = s.pending := rfl

@[simp] theorem State.setReceiver_now (s : State) (p : Port) (r : Receiver) :
    (s.setReceiver p r).now = s.now := rfl

@[simp] theorem State.setReceiver_arms (s : State) (p : Port) (r : Receiver) :
    (s.setReceiver p r).arms = s.arms := rfl

@[simp] theorem State.setReceiver_arithmeticQueue (s : State) (p : Port) (r : Receiver) :
    (s.setReceiver p r).arithmeticQueue = s.arithmeticQueue := rfl

@[simp] theorem State.setReceiver_bau (s : State) (p : Port) (r : Receiver) :
    (s.setReceiver p r).bau = s.bau := rfl

@[simp] theorem State.setReceiver_scanner (s : State) (p : Port) (r : Receiver) :
    (s.setReceiver p r).scanner = s.scanner := rfl

@[simp] theorem State.setReceiver_windows (s : State) (p : Port) (r : Receiver) :
    (s.setReceiver p r).windows = s.windows := rfl

@[simp] theorem State.setReceiver_cache (s : State) (p : Port) (r : Receiver) :
    (s.setReceiver p r).cache = s.cache := rfl

@[simp] theorem State.setReceiver_replacement (s : State) (p : Port) (r : Receiver) :
    (s.setReceiver p r).replacement = s.replacement := rfl

@[simp] theorem State.setReceiver_walks (s : State) (p : Port) (r : Receiver) :
    (s.setReceiver p r).walks = s.walks := rfl

@[simp] theorem State.setReceiver_store (s : State) (p : Port) (r : Receiver) :
    (s.setReceiver p r).store = s.store := rfl

@[simp] theorem State.setReceiver_storeQueue (s : State) (p : Port) (r : Receiver) :
    (s.setReceiver p r).storeQueue = s.storeQueue := rfl

@[simp] theorem State.setReceiver_current (s : State) (p : Port) (r : Receiver) :
    (s.setReceiver p r).current = s.current := rfl

@[simp] theorem State.setReceiver_load (s : State) (p : Port) (r : Receiver) :
    (s.setReceiver p r).load = s.load := rfl

@[simp] theorem State.setReceiver_restartPending (s : State) (p : Port) (r : Receiver) :
    (s.setReceiver p r).restartPending = s.restartPending := rfl

@[simp] theorem State.setReceiver_authorizeTimeout (s : State) (p : Port) (r : Receiver) :
    (s.setReceiver p r).authorizeTimeout = s.authorizeTimeout := rfl

@[simp] theorem State.setReceiver_inService (s : State) (p : Port) (r : Receiver) :
    (s.setReceiver p r).inService = s.inService := rfl

@[simp] theorem State.setReceiver_header (s : State) (p : Port) (r : Receiver) :
    (s.setReceiver p r).header = s.header := rfl

@[simp] theorem State.setReceiver_batchCounter (s : State) (p : Port) (r : Receiver) :
    (s.setReceiver p r).batchCounter = s.batchCounter := rfl

@[simp] theorem State.setReceiver_lanes (s : State) (p : Port) (r : Receiver) :
    (s.setReceiver p r).lanes = s.lanes := rfl

@[simp] theorem State.setReceiver_monitor (s : State) (p : Port) (r : Receiver) :
    (s.setReceiver p r).monitor = s.monitor := rfl

/-! ## `State.setScanSettings` -/

@[simp] theorem State.setScanSettings_pending (s : State) (k : ScanSettings) :
    (s.setScanSettings k).pending = s.pending := rfl

@[simp] theorem State.setScanSettings_now (s : State) (k : ScanSettings) :
    (s.setScanSettings k).now = s.now := rfl

@[simp] theorem State.setScanSettings_arms (s : State) (k : ScanSettings) :
    (s.setScanSettings k).arms = s.arms := rfl

@[simp] theorem State.setScanSettings_arithmeticQueue (s : State) (k : ScanSettings) :
    (s.setScanSettings k).arithmeticQueue = s.arithmeticQueue := rfl

@[simp] theorem State.setScanSettings_bau (s : State) (k : ScanSettings) :
    (s.setScanSettings k).bau = s.bau := rfl

@[simp] theorem State.setScanSettings_windows (s : State) (k : ScanSettings) :
    (s.setScanSettings k).windows = s.windows := rfl

@[simp] theorem State.setScanSettings_cache (s : State) (k : ScanSettings) :
    (s.setScanSettings k).cache = s.cache := rfl

@[simp] theorem State.setScanSettings_replacement (s : State) (k : ScanSettings) :
    (s.setScanSettings k).replacement = s.replacement := rfl

@[simp] theorem State.setScanSettings_walks (s : State) (k : ScanSettings) :
    (s.setScanSettings k).walks = s.walks := rfl

@[simp] theorem State.setScanSettings_store (s : State) (k : ScanSettings) :
    (s.setScanSettings k).store = s.store := rfl

@[simp] theorem State.setScanSettings_storeQueue (s : State) (k : ScanSettings) :
    (s.setScanSettings k).storeQueue = s.storeQueue := rfl

@[simp] theorem State.setScanSettings_current (s : State) (k : ScanSettings) :
    (s.setScanSettings k).current = s.current := rfl

@[simp] theorem State.setScanSettings_load (s : State) (k : ScanSettings) :
    (s.setScanSettings k).load = s.load := rfl

@[simp] theorem State.setScanSettings_restartPending (s : State) (k : ScanSettings) :
    (s.setScanSettings k).restartPending = s.restartPending := rfl

@[simp] theorem State.setScanSettings_authorizeTimeout (s : State) (k : ScanSettings) :
    (s.setScanSettings k).authorizeTimeout = s.authorizeTimeout := rfl

@[simp] theorem State.setScanSettings_inService (s : State) (k : ScanSettings) :
    (s.setScanSettings k).inService = s.inService := rfl

@[simp] theorem State.setScanSettings_header (s : State) (k : ScanSettings) :
    (s.setScanSettings k).header = s.header := rfl

@[simp] theorem State.setScanSettings_batchCounter (s : State) (k : ScanSettings) :
    (s.setScanSettings k).batchCounter = s.batchCounter := rfl

@[simp] theorem State.setScanSettings_lanes (s : State) (k : ScanSettings) :
    (s.setScanSettings k).lanes = s.lanes := rfl

@[simp] theorem State.setScanSettings_ports (s : State) (k : ScanSettings) :
    (s.setScanSettings k).ports = s.ports := rfl

@[simp] theorem State.setScanSettings_monitor (s : State) (k : ScanSettings) :
    (s.setScanSettings k).monitor = s.monitor := rfl

/-! ## `State.setConversion` -/

@[simp] theorem State.setConversion_pending (s : State) (v : Option Conversion) :
    (s.setConversion v).pending = s.pending := rfl

@[simp] theorem State.setConversion_now (s : State) (v : Option Conversion) :
    (s.setConversion v).now = s.now := rfl

@[simp] theorem State.setConversion_arms (s : State) (v : Option Conversion) :
    (s.setConversion v).arms = s.arms := rfl

@[simp] theorem State.setConversion_arithmeticQueue (s : State) (v : Option Conversion) :
    (s.setConversion v).arithmeticQueue = s.arithmeticQueue := rfl

@[simp] theorem State.setConversion_bau (s : State) (v : Option Conversion) :
    (s.setConversion v).bau = s.bau := rfl

@[simp] theorem State.setConversion_windows (s : State) (v : Option Conversion) :
    (s.setConversion v).windows = s.windows := rfl

@[simp] theorem State.setConversion_cache (s : State) (v : Option Conversion) :
    (s.setConversion v).cache = s.cache := rfl

@[simp] theorem State.setConversion_replacement (s : State) (v : Option Conversion) :
    (s.setConversion v).replacement = s.replacement := rfl

@[simp] theorem State.setConversion_walks (s : State) (v : Option Conversion) :
    (s.setConversion v).walks = s.walks := rfl

@[simp] theorem State.setConversion_store (s : State) (v : Option Conversion) :
    (s.setConversion v).store = s.store := rfl

@[simp] theorem State.setConversion_storeQueue (s : State) (v : Option Conversion) :
    (s.setConversion v).storeQueue = s.storeQueue := rfl

@[simp] theorem State.setConversion_current (s : State) (v : Option Conversion) :
    (s.setConversion v).current = s.current := rfl

@[simp] theorem State.setConversion_load (s : State) (v : Option Conversion) :
    (s.setConversion v).load = s.load := rfl

@[simp] theorem State.setConversion_restartPending (s : State) (v : Option Conversion) :
    (s.setConversion v).restartPending = s.restartPending := rfl

@[simp] theorem State.setConversion_authorizeTimeout (s : State) (v : Option Conversion) :
    (s.setConversion v).authorizeTimeout = s.authorizeTimeout := rfl

@[simp] theorem State.setConversion_inService (s : State) (v : Option Conversion) :
    (s.setConversion v).inService = s.inService := rfl

@[simp] theorem State.setConversion_header (s : State) (v : Option Conversion) :
    (s.setConversion v).header = s.header := rfl

@[simp] theorem State.setConversion_batchCounter (s : State) (v : Option Conversion) :
    (s.setConversion v).batchCounter = s.batchCounter := rfl

@[simp] theorem State.setConversion_lanes (s : State) (v : Option Conversion) :
    (s.setConversion v).lanes = s.lanes := rfl

@[simp] theorem State.setConversion_ports (s : State) (v : Option Conversion) :
    (s.setConversion v).ports = s.ports := rfl

@[simp] theorem State.setConversion_monitor (s : State) (v : Option Conversion) :
    (s.setConversion v).monitor = s.monitor := rfl

/-! ## `State.countLookup` -/

@[simp] theorem State.countLookup_pending (s : State) :
    (s.countLookup).pending = s.pending := rfl

@[simp] theorem State.countLookup_now (s : State) :
    (s.countLookup).now = s.now := rfl

@[simp] theorem State.countLookup_arms (s : State) :
    (s.countLookup).arms = s.arms := rfl

@[simp] theorem State.countLookup_arithmeticQueue (s : State) :
    (s.countLookup).arithmeticQueue = s.arithmeticQueue := rfl

@[simp] theorem State.countLookup_bau (s : State) :
    (s.countLookup).bau = s.bau := rfl

@[simp] theorem State.countLookup_scanner (s : State) :
    (s.countLookup).scanner = s.scanner := rfl

@[simp] theorem State.countLookup_windows (s : State) :
    (s.countLookup).windows = s.windows := rfl

@[simp] theorem State.countLookup_cache (s : State) :
    (s.countLookup).cache = s.cache := rfl

@[simp] theorem State.countLookup_walks (s : State) :
    (s.countLookup).walks = s.walks := rfl

@[simp] theorem State.countLookup_store (s : State) :
    (s.countLookup).store = s.store := rfl

@[simp] theorem State.countLookup_storeQueue (s : State) :
    (s.countLookup).storeQueue = s.storeQueue := rfl

@[simp] theorem State.countLookup_current (s : State) :
    (s.countLookup).current = s.current := rfl

@[simp] theorem State.countLookup_load (s : State) :
    (s.countLookup).load = s.load := rfl

@[simp] theorem State.countLookup_restartPending (s : State) :
    (s.countLookup).restartPending = s.restartPending := rfl

@[simp] theorem State.countLookup_authorizeTimeout (s : State) :
    (s.countLookup).authorizeTimeout = s.authorizeTimeout := rfl

@[simp] theorem State.countLookup_inService (s : State) :
    (s.countLookup).inService = s.inService := rfl

@[simp] theorem State.countLookup_header (s : State) :
    (s.countLookup).header = s.header := rfl

@[simp] theorem State.countLookup_batchCounter (s : State) :
    (s.countLookup).batchCounter = s.batchCounter := rfl

@[simp] theorem State.countLookup_lanes (s : State) :
    (s.countLookup).lanes = s.lanes := rfl

@[simp] theorem State.countLookup_ports (s : State) :
    (s.countLookup).ports = s.ports := rfl

@[simp] theorem State.countLookup_monitor (s : State) :
    (s.countLookup).monitor = s.monitor := rfl

/-! ## `State.invalidate` -/

@[simp] theorem State.invalidate_pending (s : State) (f : CacheEntry → Bool) :
    (s.invalidate f).pending = s.pending := by
  simp only [State.invalidate]

@[simp] theorem State.invalidate_now (s : State) (f : CacheEntry → Bool) :
    (s.invalidate f).now = s.now := by
  simp only [State.invalidate]

@[simp] theorem State.invalidate_arms (s : State) (f : CacheEntry → Bool) :
    (s.invalidate f).arms = s.arms := by
  simp only [State.invalidate]

@[simp] theorem State.invalidate_arithmeticQueue (s : State) (f : CacheEntry → Bool) :
    (s.invalidate f).arithmeticQueue = s.arithmeticQueue := by
  simp only [State.invalidate]

@[simp] theorem State.invalidate_bau (s : State) (f : CacheEntry → Bool) :
    (s.invalidate f).bau = s.bau := by
  simp only [State.invalidate]

@[simp] theorem State.invalidate_scanner (s : State) (f : CacheEntry → Bool) :
    (s.invalidate f).scanner = s.scanner := by
  simp only [State.invalidate]

@[simp] theorem State.invalidate_windows (s : State) (f : CacheEntry → Bool) :
    (s.invalidate f).windows = s.windows := by
  simp only [State.invalidate]

@[simp] theorem State.invalidate_replacement (s : State) (f : CacheEntry → Bool) :
    (s.invalidate f).replacement = s.replacement := by
  simp only [State.invalidate]

@[simp] theorem State.invalidate_walks (s : State) (f : CacheEntry → Bool) :
    (s.invalidate f).walks = s.walks := by
  simp only [State.invalidate]

@[simp] theorem State.invalidate_store (s : State) (f : CacheEntry → Bool) :
    (s.invalidate f).store = s.store := by
  simp only [State.invalidate]

@[simp] theorem State.invalidate_storeQueue (s : State) (f : CacheEntry → Bool) :
    (s.invalidate f).storeQueue = s.storeQueue := by
  simp only [State.invalidate]

@[simp] theorem State.invalidate_current (s : State) (f : CacheEntry → Bool) :
    (s.invalidate f).current = s.current := by
  simp only [State.invalidate]

@[simp] theorem State.invalidate_load (s : State) (f : CacheEntry → Bool) :
    (s.invalidate f).load = s.load := by
  simp only [State.invalidate]

@[simp] theorem State.invalidate_restartPending (s : State) (f : CacheEntry → Bool) :
    (s.invalidate f).restartPending = s.restartPending := by
  simp only [State.invalidate]

@[simp] theorem State.invalidate_authorizeTimeout (s : State) (f : CacheEntry → Bool) :
    (s.invalidate f).authorizeTimeout = s.authorizeTimeout := by
  simp only [State.invalidate]

@[simp] theorem State.invalidate_inService (s : State) (f : CacheEntry → Bool) :
    (s.invalidate f).inService = s.inService := by
  simp only [State.invalidate]

@[simp] theorem State.invalidate_header (s : State) (f : CacheEntry → Bool) :
    (s.invalidate f).header = s.header := by
  simp only [State.invalidate]

@[simp] theorem State.invalidate_batchCounter (s : State) (f : CacheEntry → Bool) :
    (s.invalidate f).batchCounter = s.batchCounter := by
  simp only [State.invalidate]

@[simp] theorem State.invalidate_lanes (s : State) (f : CacheEntry → Bool) :
    (s.invalidate f).lanes = s.lanes := by
  simp only [State.invalidate]

@[simp] theorem State.invalidate_ports (s : State) (f : CacheEntry → Bool) :
    (s.invalidate f).ports = s.ports := by
  simp only [State.invalidate]

@[simp] theorem State.invalidate_monitor (s : State) (f : CacheEntry → Bool) :
    (s.invalidate f).monitor = s.monitor := by
  simp only [State.invalidate]

/-! ## `State.startOp` -/

@[simp] theorem State.startOp_pending (s : State) (op : StoreOp) (rest : List QueuedOp) :
    (s.startOp op rest).pending = s.pending := rfl

@[simp] theorem State.startOp_now (s : State) (op : StoreOp) (rest : List QueuedOp) :
    (s.startOp op rest).now = s.now := rfl

@[simp] theorem State.startOp_arms (s : State) (op : StoreOp) (rest : List QueuedOp) :
    (s.startOp op rest).arms = s.arms := rfl

@[simp] theorem State.startOp_arithmeticQueue (s : State) (op : StoreOp) (rest : List QueuedOp) :
    (s.startOp op rest).arithmeticQueue = s.arithmeticQueue := rfl

@[simp] theorem State.startOp_bau (s : State) (op : StoreOp) (rest : List QueuedOp) :
    (s.startOp op rest).bau = s.bau := rfl

@[simp] theorem State.startOp_scanner (s : State) (op : StoreOp) (rest : List QueuedOp) :
    (s.startOp op rest).scanner = s.scanner := rfl

@[simp] theorem State.startOp_windows (s : State) (op : StoreOp) (rest : List QueuedOp) :
    (s.startOp op rest).windows = s.windows := rfl

@[simp] theorem State.startOp_cache (s : State) (op : StoreOp) (rest : List QueuedOp) :
    (s.startOp op rest).cache = s.cache := rfl

@[simp] theorem State.startOp_replacement (s : State) (op : StoreOp) (rest : List QueuedOp) :
    (s.startOp op rest).replacement = s.replacement := rfl

@[simp] theorem State.startOp_store (s : State) (op : StoreOp) (rest : List QueuedOp) :
    (s.startOp op rest).store = s.store := rfl

@[simp] theorem State.startOp_load (s : State) (op : StoreOp) (rest : List QueuedOp) :
    (s.startOp op rest).load = s.load := rfl

@[simp] theorem State.startOp_restartPending (s : State) (op : StoreOp) (rest : List QueuedOp) :
    (s.startOp op rest).restartPending = s.restartPending := rfl

@[simp] theorem State.startOp_authorizeTimeout (s : State) (op : StoreOp) (rest : List QueuedOp) :
    (s.startOp op rest).authorizeTimeout = s.authorizeTimeout := rfl

@[simp] theorem State.startOp_inService (s : State) (op : StoreOp) (rest : List QueuedOp) :
    (s.startOp op rest).inService = s.inService := rfl

@[simp] theorem State.startOp_header (s : State) (op : StoreOp) (rest : List QueuedOp) :
    (s.startOp op rest).header = s.header := rfl

@[simp] theorem State.startOp_batchCounter (s : State) (op : StoreOp) (rest : List QueuedOp) :
    (s.startOp op rest).batchCounter = s.batchCounter := rfl

@[simp] theorem State.startOp_lanes (s : State) (op : StoreOp) (rest : List QueuedOp) :
    (s.startOp op rest).lanes = s.lanes := rfl

@[simp] theorem State.startOp_ports (s : State) (op : StoreOp) (rest : List QueuedOp) :
    (s.startOp op rest).ports = s.ports := rfl

@[simp] theorem State.startOp_monitor (s : State) (op : StoreOp) (rest : List QueuedOp) :
    (s.startOp op rest).monitor = s.monitor := rfl

/-! ## `State.leaveBus` -/

@[simp] theorem State.leaveBus_pending (s : State) (t : Nat) (b : Bus) :
    (s.leaveBus t b).pending = s.pending := rfl

@[simp] theorem State.leaveBus_arms (s : State) (t : Nat) (b : Bus) :
    (s.leaveBus t b).arms = s.arms := rfl

@[simp] theorem State.leaveBus_arithmeticQueue (s : State) (t : Nat) (b : Bus) :
    (s.leaveBus t b).arithmeticQueue = s.arithmeticQueue := rfl

@[simp] theorem State.leaveBus_bau (s : State) (t : Nat) (b : Bus) :
    (s.leaveBus t b).bau = s.bau := rfl

@[simp] theorem State.leaveBus_scanner (s : State) (t : Nat) (b : Bus) :
    (s.leaveBus t b).scanner = s.scanner := rfl

@[simp] theorem State.leaveBus_windows (s : State) (t : Nat) (b : Bus) :
    (s.leaveBus t b).windows = s.windows := rfl

@[simp] theorem State.leaveBus_cache (s : State) (t : Nat) (b : Bus) :
    (s.leaveBus t b).cache = s.cache := rfl

@[simp] theorem State.leaveBus_replacement (s : State) (t : Nat) (b : Bus) :
    (s.leaveBus t b).replacement = s.replacement := rfl

@[simp] theorem State.leaveBus_walks (s : State) (t : Nat) (b : Bus) :
    (s.leaveBus t b).walks = s.walks := rfl

@[simp] theorem State.leaveBus_storeQueue (s : State) (t : Nat) (b : Bus) :
    (s.leaveBus t b).storeQueue = s.storeQueue := rfl

@[simp] theorem State.leaveBus_load (s : State) (t : Nat) (b : Bus) :
    (s.leaveBus t b).load = s.load := rfl

@[simp] theorem State.leaveBus_restartPending (s : State) (t : Nat) (b : Bus) :
    (s.leaveBus t b).restartPending = s.restartPending := rfl

@[simp] theorem State.leaveBus_authorizeTimeout (s : State) (t : Nat) (b : Bus) :
    (s.leaveBus t b).authorizeTimeout = s.authorizeTimeout := rfl

@[simp] theorem State.leaveBus_inService (s : State) (t : Nat) (b : Bus) :
    (s.leaveBus t b).inService = s.inService := rfl

@[simp] theorem State.leaveBus_header (s : State) (t : Nat) (b : Bus) :
    (s.leaveBus t b).header = s.header := rfl

@[simp] theorem State.leaveBus_batchCounter (s : State) (t : Nat) (b : Bus) :
    (s.leaveBus t b).batchCounter = s.batchCounter := rfl

@[simp] theorem State.leaveBus_lanes (s : State) (t : Nat) (b : Bus) :
    (s.leaveBus t b).lanes = s.lanes := rfl

@[simp] theorem State.leaveBus_ports (s : State) (t : Nat) (b : Bus) :
    (s.leaveBus t b).ports = s.ports := rfl

@[simp] theorem State.leaveBus_monitor (s : State) (t : Nat) (b : Bus) :
    (s.leaveBus t b).monitor = s.monitor := rfl

/-! ## `State.toIdle` -/

@[simp] theorem State.toIdle_pending (s : State) (a : ArmId) :
    (s.toIdle a).pending = s.pending := rfl

@[simp] theorem State.toIdle_now (s : State) (a : ArmId) :
    (s.toIdle a).now = s.now := rfl

@[simp] theorem State.toIdle_arithmeticQueue (s : State) (a : ArmId) :
    (s.toIdle a).arithmeticQueue = s.arithmeticQueue := rfl

@[simp] theorem State.toIdle_bau (s : State) (a : ArmId) :
    (s.toIdle a).bau = s.bau := rfl

@[simp] theorem State.toIdle_scanner (s : State) (a : ArmId) :
    (s.toIdle a).scanner = s.scanner := rfl

@[simp] theorem State.toIdle_windows (s : State) (a : ArmId) :
    (s.toIdle a).windows = s.windows := rfl

@[simp] theorem State.toIdle_cache (s : State) (a : ArmId) :
    (s.toIdle a).cache = s.cache := rfl

@[simp] theorem State.toIdle_replacement (s : State) (a : ArmId) :
    (s.toIdle a).replacement = s.replacement := rfl

@[simp] theorem State.toIdle_walks (s : State) (a : ArmId) :
    (s.toIdle a).walks = s.walks := rfl

@[simp] theorem State.toIdle_store (s : State) (a : ArmId) :
    (s.toIdle a).store = s.store := rfl

@[simp] theorem State.toIdle_storeQueue (s : State) (a : ArmId) :
    (s.toIdle a).storeQueue = s.storeQueue := rfl

@[simp] theorem State.toIdle_current (s : State) (a : ArmId) :
    (s.toIdle a).current = s.current := rfl

@[simp] theorem State.toIdle_load (s : State) (a : ArmId) :
    (s.toIdle a).load = s.load := rfl

@[simp] theorem State.toIdle_restartPending (s : State) (a : ArmId) :
    (s.toIdle a).restartPending = s.restartPending := rfl

@[simp] theorem State.toIdle_authorizeTimeout (s : State) (a : ArmId) :
    (s.toIdle a).authorizeTimeout = s.authorizeTimeout := rfl

@[simp] theorem State.toIdle_inService (s : State) (a : ArmId) :
    (s.toIdle a).inService = s.inService := rfl

@[simp] theorem State.toIdle_header (s : State) (a : ArmId) :
    (s.toIdle a).header = s.header := rfl

@[simp] theorem State.toIdle_batchCounter (s : State) (a : ArmId) :
    (s.toIdle a).batchCounter = s.batchCounter := rfl

@[simp] theorem State.toIdle_lanes (s : State) (a : ArmId) :
    (s.toIdle a).lanes = s.lanes := rfl

@[simp] theorem State.toIdle_ports (s : State) (a : ArmId) :
    (s.toIdle a).ports = s.ports := rfl

@[simp] theorem State.toIdle_monitor (s : State) (a : ArmId) :
    (s.toIdle a).monitor = s.monitor := rfl

/-! ## `State.toAuthorized` -/

@[simp] theorem State.toAuthorized_pending (s : State) (a : ArmId) :
    (s.toAuthorized a).pending = s.pending := rfl

@[simp] theorem State.toAuthorized_now (s : State) (a : ArmId) :
    (s.toAuthorized a).now = s.now := rfl

@[simp] theorem State.toAuthorized_arithmeticQueue (s : State) (a : ArmId) :
    (s.toAuthorized a).arithmeticQueue = s.arithmeticQueue := rfl

@[simp] theorem State.toAuthorized_bau (s : State) (a : ArmId) :
    (s.toAuthorized a).bau = s.bau := rfl

@[simp] theorem State.toAuthorized_scanner (s : State) (a : ArmId) :
    (s.toAuthorized a).scanner = s.scanner := rfl

@[simp] theorem State.toAuthorized_windows (s : State) (a : ArmId) :
    (s.toAuthorized a).windows = s.windows := rfl

@[simp] theorem State.toAuthorized_cache (s : State) (a : ArmId) :
    (s.toAuthorized a).cache = s.cache := rfl

@[simp] theorem State.toAuthorized_replacement (s : State) (a : ArmId) :
    (s.toAuthorized a).replacement = s.replacement := rfl

@[simp] theorem State.toAuthorized_walks (s : State) (a : ArmId) :
    (s.toAuthorized a).walks = s.walks := rfl

@[simp] theorem State.toAuthorized_store (s : State) (a : ArmId) :
    (s.toAuthorized a).store = s.store := rfl

@[simp] theorem State.toAuthorized_storeQueue (s : State) (a : ArmId) :
    (s.toAuthorized a).storeQueue = s.storeQueue := rfl

@[simp] theorem State.toAuthorized_current (s : State) (a : ArmId) :
    (s.toAuthorized a).current = s.current := rfl

@[simp] theorem State.toAuthorized_load (s : State) (a : ArmId) :
    (s.toAuthorized a).load = s.load := rfl

@[simp] theorem State.toAuthorized_restartPending (s : State) (a : ArmId) :
    (s.toAuthorized a).restartPending = s.restartPending := rfl

@[simp] theorem State.toAuthorized_authorizeTimeout (s : State) (a : ArmId) :
    (s.toAuthorized a).authorizeTimeout = s.authorizeTimeout := rfl

@[simp] theorem State.toAuthorized_inService (s : State) (a : ArmId) :
    (s.toAuthorized a).inService = s.inService := rfl

@[simp] theorem State.toAuthorized_header (s : State) (a : ArmId) :
    (s.toAuthorized a).header = s.header := rfl

@[simp] theorem State.toAuthorized_batchCounter (s : State) (a : ArmId) :
    (s.toAuthorized a).batchCounter = s.batchCounter := rfl

@[simp] theorem State.toAuthorized_lanes (s : State) (a : ArmId) :
    (s.toAuthorized a).lanes = s.lanes := rfl

@[simp] theorem State.toAuthorized_ports (s : State) (a : ArmId) :
    (s.toAuthorized a).ports = s.ports := rfl

@[simp] theorem State.toAuthorized_monitor (s : State) (a : ArmId) :
    (s.toAuthorized a).monitor = s.monitor := rfl

/-! ## `State.takeNumber` -/

@[simp] theorem State.takeNumber_pending (s : State) (n : Nat) :
    (s.takeNumber n).pending = s.pending := rfl

@[simp] theorem State.takeNumber_now (s : State) (n : Nat) :
    (s.takeNumber n).now = s.now := rfl

@[simp] theorem State.takeNumber_arms (s : State) (n : Nat) :
    (s.takeNumber n).arms = s.arms := rfl

@[simp] theorem State.takeNumber_arithmeticQueue (s : State) (n : Nat) :
    (s.takeNumber n).arithmeticQueue = s.arithmeticQueue := rfl

@[simp] theorem State.takeNumber_bau (s : State) (n : Nat) :
    (s.takeNumber n).bau = s.bau := rfl

@[simp] theorem State.takeNumber_scanner (s : State) (n : Nat) :
    (s.takeNumber n).scanner = s.scanner := rfl

@[simp] theorem State.takeNumber_windows (s : State) (n : Nat) :
    (s.takeNumber n).windows = s.windows := rfl

@[simp] theorem State.takeNumber_cache (s : State) (n : Nat) :
    (s.takeNumber n).cache = s.cache := rfl

@[simp] theorem State.takeNumber_replacement (s : State) (n : Nat) :
    (s.takeNumber n).replacement = s.replacement := rfl

@[simp] theorem State.takeNumber_walks (s : State) (n : Nat) :
    (s.takeNumber n).walks = s.walks := rfl

@[simp] theorem State.takeNumber_store (s : State) (n : Nat) :
    (s.takeNumber n).store = s.store := rfl

@[simp] theorem State.takeNumber_storeQueue (s : State) (n : Nat) :
    (s.takeNumber n).storeQueue = s.storeQueue := rfl

@[simp] theorem State.takeNumber_load (s : State) (n : Nat) :
    (s.takeNumber n).load = s.load := rfl

@[simp] theorem State.takeNumber_restartPending (s : State) (n : Nat) :
    (s.takeNumber n).restartPending = s.restartPending := rfl

@[simp] theorem State.takeNumber_authorizeTimeout (s : State) (n : Nat) :
    (s.takeNumber n).authorizeTimeout = s.authorizeTimeout := rfl

@[simp] theorem State.takeNumber_inService (s : State) (n : Nat) :
    (s.takeNumber n).inService = s.inService := rfl

@[simp] theorem State.takeNumber_header (s : State) (n : Nat) :
    (s.takeNumber n).header = s.header := rfl

@[simp] theorem State.takeNumber_lanes (s : State) (n : Nat) :
    (s.takeNumber n).lanes = s.lanes := rfl

@[simp] theorem State.takeNumber_ports (s : State) (n : Nat) :
    (s.takeNumber n).ports = s.ports := rfl

@[simp] theorem State.takeNumber_monitor (s : State) (n : Nat) :
    (s.takeNumber n).monitor = s.monitor := rfl

@[simp] theorem State.takeNumber_batchCounter (s : State) (n : Nat) :
    (s.takeNumber n).batchCounter = n := rfl

@[simp] theorem State.takeNumber_current (s : State) (n : Nat) :
    (s.takeNumber n).current = s.current.map (·.noteCounter s.batchCounter s.now) := rfl

/-- What a current operation keeps of the batch counter: the value before the change, when its counter item's
moment has passed and it keeps none yet (R104); its kind and its start stand. -/
theorem CurrentOp.noteCounter_cases (k : CurrentOp) (value now : Nat) :
    (k.counter = none ∧ k.counterPast now = true ∧
        k.noteCounter value now = { k with counter := some value }) ∨
      ((k.counter ≠ none ∨ k.counterPast now = false) ∧ k.noteCounter value now = k) := by
  unfold CurrentOp.noteCounter
  cases hc : k.counter <;> cases hp : k.counterPast now <;> simp

@[simp] theorem CurrentOp.noteCounter_op (k : CurrentOp) (value now : Nat) :
    (k.noteCounter value now).op = k.op := by
  unfold CurrentOp.noteCounter; split <;> rfl

@[simp] theorem CurrentOp.noteCounter_started (k : CurrentOp) (value now : Nat) :
    (k.noteCounter value now).started = k.started := by
  unfold CurrentOp.noteCounter; split <;> rfl

end Sys2Proof.Machine
end

