-- ==== Sys2Proof/Laws/Ops.lean ====
section
/-! SUPPORT. What is read back after an arm, a port or a lane has been changed, what two changes make
together, and everything that forming or settling a response can do. -/

namespace Sys2Proof.Machine

open Sys2Proof

/-! ## Arms -/

@[simp] theorem State.arm_setArm_self (s : State) (a : ArmId) (f : Arm → Arm) :
    (s.setArm a f).arm a = f (s.arm a) := by
  simp [State.setArm, State.arm]

theorem State.arm_setArm_of_ne (s : State) {a b : ArmId} (f : Arm → Arm) (h : b ≠ a) :
    (s.setArm a f).arm b = s.arm b := by
  have : a.val ≠ b.val := fun e => h (Fin.ext e.symm)
  simp [State.setArm, State.arm, this]

theorem State.arm_setArm (s : State) (a b : ArmId) (f : Arm → Arm) :
    (s.setArm a f).arm b = if b = a then f (s.arm a) else s.arm b := by
  by_cases h : b = a
  · subst h; simp
  · simp [State.arm_setArm_of_ne s f h, h]

theorem State.setArm_setArm (s : State) (a : ArmId) (f g : Arm → Arm) :
    (s.setArm a f).setArm a g = s.setArm a (fun x => g (f x)) := by
  simp [State.setArm]

theorem State.setArm_congr (s : State) (a : ArmId) (f g : Arm → Arm) (h : f (s.arm a) = g (s.arm a)) :
    s.setArm a f = s.setArm a g := by
  simp only [State.setArm, State.arm, Fin.getElem_fin] at *
  simp [h]

theorem State.setArm_id (s : State) (a : ArmId) (f : Arm → Arm) (h : f (s.arm a) = s.arm a) :
    s.setArm a f = s := by
  simp only [State.setArm, State.arm, Fin.getElem_fin] at *
  rw [h]; simp

@[simp] theorem State.arm_setPort (s : State) (a : ArmId) (p : Port) (f : LinkPort → LinkPort) :
    (s.setPort p f).arm a = s.arm a := rfl

@[simp] theorem State.arm_reply (s : State) (a : ArmId) (c : Caller) (r : Result) (b : Body) :
    (s.reply c r b).arm a = s.arm a := rfl

@[simp] theorem State.arm_refuse (s : State) (a : ArmId) (c : Caller) (r : Result) :
    (s.refuse c r).arm a = s.arm a := rfl

@[simp] theorem State.arm_done (s : State) (a : ArmId) (c : Caller) : (s.done c).arm a = s.arm a := rfl

@[simp] theorem State.arm_settle (s : State) (a : ArmId) (p : Port) (w : Work) (r : Result)
    (b : Body) : (s.settle p w r b).arm a = s.arm a := rfl

@[simp] theorem State.arm_holdOutstanding (s : State) (a : ArmId) (c : Caller) (w : Work) :
    (s.holdOutstanding c w).arm a = s.arm a := rfl

@[simp] theorem State.arm_setLane (s : State) (a : ArmId) (l : LaneId) (f : Lane → Lane) :
    (s.setLane l f).arm a = s.arm a := rfl

@[simp] theorem State.arm_reach (s : State) (a : ArmId) (d : Nat) : (s.reach d).arm a = s.arm a := rfl

@[simp] theorem State.arm_setProbe (s : State) (a : ArmId) (c : Channel)
    (f : ProbeRecord → ProbeRecord) : (s.setProbe c f).arm a = s.arm a := rfl

/-! ## Ports -/

theorem portIndex_injective {p q : Port} (h : portIndex p = portIndex q) : p = q := by
  have hv : (portIndex p).val = (portIndex q).val := congrArg Fin.val h
  cases p with
  | lane l =>
    cases q with
    | lane m => exact congrArg Port.lane (Fin.ext hv)
    | supervisor => exact absurd hv (Nat.ne_of_lt l.isLt)
  | supervisor =>
    cases q with
    | lane m => exact absurd hv.symm (Nat.ne_of_lt m.isLt)
    | supervisor => rfl

@[simp] theorem State.port_setPort_self (s : State) (p : Port) (f : LinkPort → LinkPort) :
    (s.setPort p f).port p = f (s.port p) := by
  simp [State.setPort, State.port]

theorem State.port_setPort_of_ne (s : State) {p q : Port} (f : LinkPort → LinkPort) (h : q ≠ p) :
    (s.setPort p f).port q = s.port q := by
  have : (portIndex p).val ≠ (portIndex q).val := fun e =>
    h (portIndex_injective (Fin.ext e)).symm
  simp [State.setPort, State.port, this]

theorem State.port_setPort (s : State) (p q : Port) (f : LinkPort → LinkPort) :
    (s.setPort p f).port q = if q = p then f (s.port p) else s.port q := by
  by_cases h : q = p
  · subst h; simp
  · simp [State.port_setPort_of_ne s f h, h]

theorem State.setPort_setPort (s : State) (p : Port) (f g : LinkPort → LinkPort) :
    (s.setPort p f).setPort p g = s.setPort p (fun x => g (f x)) := by
  simp [State.setPort]

theorem State.setPort_congr (s : State) (p : Port) (f g : LinkPort → LinkPort)
    (h : f (s.port p) = g (s.port p)) : s.setPort p f = s.setPort p g := by
  simp only [State.setPort, State.port, Fin.getElem_fin] at *
  simp [h]

theorem State.setPort_id (s : State) (p : Port) (f : LinkPort → LinkPort)
    (h : f (s.port p) = s.port p) : s.setPort p f = s := by
  simp only [State.setPort, State.port, Fin.getElem_fin] at *
  rw [h]; simp

@[simp] theorem State.port_setArm (s : State) (a : ArmId) (f : Arm → Arm) (p : Port) :
    (s.setArm a f).port p = s.port p := rfl

@[simp] theorem State.port_setLane (s : State) (l : LaneId) (f : Lane → Lane) (p : Port) :
    (s.setLane l f).port p = s.port p := rfl

@[simp] theorem State.port_reach (s : State) (d : Nat) (p : Port) : (s.reach d).port p = s.port p := rfl

@[simp] theorem State.port_setProbe (s : State) (c : Channel) (f : ProbeRecord → ProbeRecord)
    (p : Port) : (s.setProbe c f).port p = s.port p := rfl

theorem State.setArm_setPort_comm (s : State) (a : ArmId) (f : Arm → Arm) (p : Port)
    (g : LinkPort → LinkPort) : (s.setArm a f).setPort p g = (s.setPort p g).setArm a f := rfl

/-! ## Flags -/

/-- Setting a flag adds it to its arm and changes nothing else of any arm. -/
theorem State.arm_setFlag (s : State) (a b : ArmId) (f : Flag) :
    (s.setFlag a f).arm b =
      if b = a then { s.arm a with flags := FlagSet.add (s.arm a).flags f } else s.arm b :=
  State.arm_setArm s a b fun arm => { arm with flags := FlagSet.add arm.flags f }

/-- Setting a flag takes it out of every port's seen set for its arm (R171). -/
@[simp] theorem State.port_setFlag (s : State) (a : ArmId) (f : Flag) (p : Port) :
    (s.setFlag a f).port p = (s.port p).forget a f := by
  simp [State.setFlag, State.port, State.setArm]

/-! ## The header queue -/

/-- The head's departure has the queue without it examined (R146). -/
theorem State.leaveQueue_of_head (s : State) (a : ArmId)
    (h : s.header.queue.head?.map (·.arm) = some a) :
    s.leaveQueue a =
      State.examine { s with
        header := { s.header with queue := s.header.queue.filter (·.arm ≠ a) } } := by
  unfold State.leaveQueue
  cases hq : s.header.queue with
  | nil => simp [hq] at h
  | cons p rest => simp_all

/-- The departure of an arm that is not the head leaves everything but its place (R146). -/
theorem State.leaveQueue_of_not_head (s : State) (a : ArmId)
    (h : s.header.queue.head?.map (·.arm) ≠ some a) :
    s.leaveQueue a =
      { s with header := { s.header with queue := s.header.queue.filter (·.arm ≠ a) } } := by
  unfold State.leaveQueue
  cases hq : s.header.queue with
  | nil => rfl
  | cons p rest => simp_all

/-! ## Lanes -/

@[simp] theorem State.lane_setLane_self (s : State) (l : LaneId) (f : Lane → Lane) :
    (s.setLane l f).lanes[l] = f s.lanes[l] := by
  simp [State.setLane]

theorem State.lane_setLane_of_ne (s : State) {l m : LaneId} (f : Lane → Lane) (h : m ≠ l) :
    (s.setLane l f).lanes[m] = s.lanes[m] := by
  have : l.val ≠ m.val := fun e => h (Fin.ext e.symm)
  simp [State.setLane, this]

/-! ## Responses -/

/-- Everything that forming a response can do: it is being sent, or it joins the tail. -/
theorem LinkPort.form_cases (lp : LinkPort) (r : Response) :
    (lp.sending = none ∧ lp.transmit = [] ∧ lp.form r = { lp with sending := some r }) ∨
      lp.form r = { lp with transmit := lp.transmit ++ [r] } := by
  unfold LinkPort.form
  cases hs : lp.sending with
  | none =>
    cases ht : lp.transmit with
    | nil => exact .inl ⟨rfl, rfl, rfl⟩
    | cons x xs => exact .inr rfl
  | some x => exact .inr rfl

@[simp] theorem LinkPort.form_seen (lp : LinkPort) (r : Response) : (lp.form r).seen = lp.seen := by
  rcases LinkPort.form_cases lp r with ⟨-, -, h⟩ | h <;> simp [h]

@[simp] theorem LinkPort.form_outstanding (lp : LinkPort) (r : Response) :
    (lp.form r).outstanding = lp.outstanding := by
  rcases LinkPort.form_cases lp r with ⟨-, -, h⟩ | h <;> simp [h]

@[simp] theorem LinkPort.form_receiver (lp : LinkPort) (r : Response) :
    (lp.form r).receiver = lp.receiver := by
  rcases LinkPort.form_cases lp r with ⟨-, -, h⟩ | h <;> simp [h]

/-- Everything that settling work can do: the outstanding request waits for it and is answered, or the port
stands. -/
theorem LinkPort.settle_cases (lp : LinkPort) (w : Work) (r : Result) (b : Body) :
    (∃ code tag, lp.outstanding = some ⟨code, tag, w⟩ ∧
        lp.settle w r b = LinkPort.form { lp with outstanding := none } ⟨code, tag, r, b⟩) ∨
      ((∀ code tag, lp.outstanding ≠ some ⟨code, tag, w⟩) ∧ lp.settle w r b = lp) := by
  unfold LinkPort.settle
  cases ho : lp.outstanding with
  | none => exact .inr ⟨by simp, rfl⟩
  | some o =>
    obtain ⟨code, tag, work⟩ := o
    by_cases hw : work = w
    · subst hw; exact .inl ⟨code, tag, rfl, by simp⟩
    · exact .inr ⟨fun c t h => hw (by simp_all), by simp [hw]⟩

/-! ## Requests -/

/-- A port that takes a request carries it out by the request's own rule. -/
theorem State.takeRequest_of_takes {s : State} {c : Caller} {names : Names} (serve : State → State)
    (h : s.takes c names) : s.takeRequest c names serve = serve s := by
  simp [State.takeRequest, h.1, h.2]

/-- What taking a request means for its port: its transmit queue is below the limit, no load runs, nothing is
outstanding, and the link accepts the code. -/
theorem State.takes_spec {s : State} {c : Caller} {names : Names} (h : s.takes c names) :
    (s.port c.port).transmit.length < 4 ∧ (∀ d, s.load ≠ .loading d) ∧
      (s.port c.port).outstanding = none ∧ accepts c.port c.code = true ∧
      outOfRange c.port names = false ∧ notItsArm c.port names = false := by
  obtain ⟨hf, hp⟩ := h
  have h1 : (s.port c.port).transmit.length < 4 := by simpa [State.flooded] using hf
  unfold State.portCheck State.frontCheck at hp
  cases hl : s.load with
  | loading d => simp [hl] at hp
  | ready =>
    simp only [hl] at hp
    cases ho : (s.port c.port).outstanding <;> cases ha : accepts c.port c.code <;>
      cases hr : outOfRange c.port names <;> cases hn : notItsArm c.port names <;>
      simp_all
  | loadFailed =>
    simp only [hl] at hp
    cases ho : (s.port c.port).outstanding <;> cases ha : accepts c.port c.code <;>
      cases hr : outOfRange c.port names <;> cases hn : notItsArm c.port names <;>
      simp_all

@[simp] theorem armOf_val (a : ArmId) : armOf a.val = a := by
  simp [armOf]

end Sys2Proof.Machine
end

