-- ==== Sys2Proof/Laws/Injector.lean ====
section
/-! SUPPORT. Everything that trying to start strokes can do: the slots of one arm change, each that meets the start
conditions by one stroke (R127, R128), and nothing else. -/

namespace Sys2Proof.Machine

open Sys2Proof

/-- The start conditions the model tests are those of R127 on the arm. -/
theorem State.canStroke_iff {s : State} {a : ArmId} {c : ArmConfig} {snap : Snapshot} (i : SlotId)
    (hc : (s.arm a).config = some c) (hs : (s.arm a).snapshot = some snap) :
    s.canStroke a i = true ↔ (s.arm a).strokeDue s.inService c snap i := by
  have hserved : (servedAdditive snap c.slots[i]).isSome = true ↔
      c.slots[i].code ≠ 0 ∧ ∃ ad ∈ snap.params.additives.toList, ad.code = c.slots[i].code := by
    unfold servedAdditive
    split <;> simp_all
  have hallowed : (s.arm a).strokesAllowed = true ↔
      (s.arm a).state = .delivering ∨ (s.arm a).state = .flushing ∨
        (s.arm a).state = .closing ∧ (s.arm a).drainTimer.isSome = true := by
    unfold Arm.strokesAllowed
    cases (s.arm a).state <;> simp
  unfold State.canStroke
  rw [hc, hs]
  simp only [Bool.and_eq_true, decide_eq_true_eq, hserved, hallowed, State.codeInService,
    Arm.strokeDue]
  constructor
  · rintro ⟨⟨⟨⟨hp, hz, ha⟩, hd⟩, hst⟩, hin⟩
    exact ⟨hp, hd, hst, ha, hz, hin⟩
  · rintro ⟨hp, hd, hst, ha, hz, hin⟩
    exact ⟨⟨⟨⟨hp, hz, ha⟩, hd⟩, hst⟩, hin⟩

/-- Without a config or a snapshot no slot starts a stroke. -/
theorem State.canStroke_of_none {s : State} {a : ArmId} (i : SlotId)
    (h : (s.arm a).config = none ∨ (s.arm a).snapshot = none) : s.canStroke a i = false := by
  unfold State.canStroke
  rcases h with h | h <;> simp only [h]
  cases (s.arm a).config <;> rfl

/-- The start conditions of a slot look at that slot alone among the slots of its arm. -/
theorem State.canStroke_setSlot {s : State} {a : ArmId} {i j : SlotId} (f : Slot → Slot) (h : j ≠ i) :
    (s.setArm a (·.setSlot i f)).canStroke a j = s.canStroke a j := by
  have hv : i.val ≠ j.val := fun e => h (Fin.ext e.symm)
  have hslot : ((s.arm a).setSlot i f).slots[j] = (s.arm a).slots[j] := by
    simp [Arm.setSlot, hv]
  have hrest : ((s.arm a).setSlot i f).strokesAllowed = (s.arm a).strokesAllowed := rfl
  have hsnap : ((s.arm a).setSlot i f).snapshot = (s.arm a).snapshot := rfl
  have hconf : ((s.arm a).setSlot i f).config = (s.arm a).config := rfl
  unfold State.canStroke
  simp only [State.arm_setArm_self, hslot, hrest, hsnap, hconf]
  rfl

/-- What one slot of an arm becomes when a stroke is tried. -/
def State.strokeTried (s : State) (a : ArmId) (i : SlotId) : Slot :=
  match s.canStroke a i, (s.arm a).config with
  | true, some c => (s.arm a).slots[i].struck c.slots[i] s.now
  | _, _ => (s.arm a).slots[i]

theorem State.tryStroke_eq (s : State) (a : ArmId) (i : SlotId) :
    s.tryStroke a i = s.setArm a (·.setSlot i fun _ => s.strokeTried a i) := by
  have hid : ∀ x : Slot, x = (s.arm a).slots[i] →
      s.setArm a (·.setSlot i fun _ => x) = s := by
    intro x hx
    refine State.setArm_id s a _ ?_
    subst hx
    simp [Arm.setSlot]
  unfold State.tryStroke State.strokeTried
  cases hcan : s.canStroke a i <;> cases hc : (s.arm a).config with
  | none => exact (hid _ rfl).symm
  | some c =>
    first
    | exact (hid _ rfl).symm
    | (refine State.setArm_congr s a _ _ ?_
       simp [Arm.setSlot, Slot.strike, Slot.struck, State.timerMs])

/-- Trying one slot does not change what trying another would give. -/
theorem State.strokeTried_setSlot (s : State) (a : ArmId) {i j : SlotId} (f : Slot → Slot) (h : j ≠ i) :
    (s.setArm a (·.setSlot i f)).strokeTried a j = s.strokeTried a j := by
  have hv : i.val ≠ j.val := fun e => h (Fin.ext e.symm)
  have hslot : ((s.arm a).setSlot i f).slots[j] = (s.arm a).slots[j] := by
    simp [Arm.setSlot, hv]
  have hconf : ((s.arm a).setSlot i f).config = (s.arm a).config := rfl
  unfold State.strokeTried
  simp only [State.canStroke_setSlot f h, State.arm_setArm_self, hslot, hconf, State.setArm_now]

/-- What trying a slot gives, in the terms of R127 and R128. -/
theorem State.strokeTried_spec {s : State} {a : ArmId} {c : ArmConfig} {snap : Snapshot} (i : SlotId)
    (hc : (s.arm a).config = some c) (hs : (s.arm a).snapshot = some snap) :
    ((s.arm a).strokeDue s.inService c snap i →
        s.strokeTried a i = (s.arm a).slots[i].struck c.slots[i] s.now) ∧
      (¬ (s.arm a).strokeDue s.inService c snap i → s.strokeTried a i = (s.arm a).slots[i]) := by
  have hiff := State.canStroke_iff i hc hs
  unfold State.strokeTried
  rw [hc]
  cases hcan : s.canStroke a i <;> simp_all

theorem State.strokeTried_of_none {s : State} {a : ArmId} (i : SlotId)
    (h : (s.arm a).config = none ∨ (s.arm a).snapshot = none) :
    s.strokeTried a i = (s.arm a).slots[i] := by
  unfold State.strokeTried
  rw [State.canStroke_of_none i h]

/-- Everything that trying the slots of an arm can do: its slots become those that R127 and R128 give, and nothing
else changes. -/
theorem State.tryStrokes_spec (s : State) (a : ArmId) :
    ∃ slots : Vector Slot 3,
      s.tryStrokes a = s.setArm a (fun arm => { arm with slots := slots }) ∧
        (s.arm a).startsStrokes s.inService s.now slots := by
  refine ⟨Vector.ofFn (s.strokeTried a), ?_, ?_, ?_⟩
  · unfold State.tryStrokes
    rw [State.tryStroke_eq s a 0, State.tryStroke_eq _ a 1, State.tryStroke_eq _ a 2]
    rw [State.strokeTried_setSlot _ a _ (by decide : (2 : SlotId) ≠ 1),
      State.strokeTried_setSlot _ a _ (by decide : (2 : SlotId) ≠ 0),
      State.strokeTried_setSlot _ a _ (by decide : (1 : SlotId) ≠ 0)]
    simp only [State.setArm_setArm]
    refine State.setArm_congr s a _ _ ?_
    simp only [Arm.setSlot]
    congr 1
    ext i hi
    rcases (by omega : i = 0 ∨ i = 1 ∨ i = 2) with rfl | rfl | rfl <;> simp
  · intro c hc snap hs i
    simpa using State.strokeTried_spec i hc hs
  · intro h
    ext i hi
    simpa using State.strokeTried_of_none ⟨i, hi⟩ h

end Sys2Proof.Machine
end

