-- ==== Sys2Proof/Laws/PerInstr.lean ====
section
/-! SUPPORT. Statements made for every command, one lemma per constructor of `Instr`: the frame of a request
has the size its port expects of it and begins with its code and tag (R164, R166). -/

namespace Sys2Proof.Laws

open Sys2Proof Sys2Proof.Machine

/-- If the command is a request, its frame's content carries its code and its tag first, and as many bytes
after them as its port takes for its fields (R164, R166 check 4). -/
def FramesFit.Statement (i : Instr) : Prop :=
  ∀ (c : Caller) (names : Names), requestOf i = some (c, names) →
    (requestContent i).length = fieldsLength c.port c.code.toNat + 2 ∧
      (requestContent i).take 2 = [c.code, c.tag]

/-- `n` bytes of a number are `n` bytes. -/
theorem beBytes_length (n v : Nat) : (beBytes n v).length = n := by
  induction n with
  | zero => rfl
  | succ n ih => simp [beBytes, ih]

/-- A signed quantity takes two bytes. -/
theorem signedBytes_length (z : Int) : (signedBytes z).length = 2 := beBytes_length 2 _

/-- The slots of an arm config take 7 bytes each. -/
theorem slotBytes_length (v : Vector SlotConfig 3) :
    (v.toList.flatMap fun sc => beBytes 1 sc.code ++ beBytes 2 sc.strokeVolume ++
      beBytes 2 sc.pulseWidth ++ beBytes 2 sc.verifyTimeout).length = 21 := by
  simp [List.length_flatMap, beBytes_length]

/-- The additives of a recipe take 3 bytes each. -/
theorem additiveBytes_length (v : Vector Additive 3) :
    (v.toList.flatMap fun ad => beBytes 1 ad.code ++ beBytes 2 ad.rate).length = 9 := by
  simp [List.length_flatMap, beBytes_length]

/-- An arm config takes 44 bytes. -/
theorem configContent_length (c : ArmConfig) : (configContent c).length = 44 := by
  simp only [configContent, List.length_append, beBytes_length, signedBytes_length,
    slotBytes_length]

/-- The fields of SET WINDOW after its number take 22 bytes. -/
theorem windowContent_length (w : WindowFields) : (windowContent w).length = 22 := by
  simp [windowContent, beBytes_length]

/-- The fields of WRITE RECIPE after its selectors take 69 bytes. -/
theorem recipeContent_length (r : RecipeFields) : (recipeContent r).length = 69 := by
  unfold recipeContent
  generalize hA : r.params.additives.toList.flatMap
    (fun ad => beBytes 1 ad.code ++ beBytes 2 ad.rate) = additives
  have hl : additives.length = 9 := by rw [← hA]; exact additiveBytes_length _
  generalize hB : r.name.toList = name
  have hb : name.length = 12 := by rw [← hB]; simp
  clear hA hB
  simp only [List.length_append, beBytes_length, hl, hb]

/-- The settings of SET SCAN take 7 bytes. -/
theorem scanContent_length (k : ScanSettings) : (scanContent k).length = 7 := by
  simp [scanContent, beBytes_length, signedBytes_length]

theorem FramesFit.authorize : ∀ port tag arm product package preset, FramesFit.Statement (.authorize port tag arm product package preset) := by
  intro port tag arm product package preset c ns h
  cases h
  simp [requestContent, fieldsLength, beBytes_length]

theorem FramesFit.start : ∀ port tag arm, FramesFit.Statement (.start port tag arm) := by
  intro port tag arm c ns h
  cases h
  simp [requestContent, fieldsLength, beBytes_length]

theorem FramesFit.stop : ∀ port tag arm, FramesFit.Statement (.stop port tag arm) := by
  intro port tag arm c ns h
  cases h
  simp [requestContent, fieldsLength, beBytes_length]

theorem FramesFit.resume : ∀ port tag arm, FramesFit.Statement (.resume port tag arm) := by
  intro port tag arm c ns h
  cases h
  simp [requestContent, fieldsLength, beBytes_length]

theorem FramesFit.endBatch : ∀ port tag arm, FramesFit.Statement (.endBatch port tag arm) := by
  intro port tag arm c ns h
  cases h
  simp [requestContent, fieldsLength, beBytes_length]

theorem FramesFit.abort : ∀ port tag arm, FramesFit.Statement (.abort port tag arm) := by
  intro port tag arm c ns h
  cases h
  simp [requestContent, fieldsLength, beBytes_length]

theorem FramesFit.armStatus : ∀ port tag arm, FramesFit.Statement (.armStatus port tag arm) := by
  intro port tag arm c ns h
  cases h
  simp [requestContent, fieldsLength, beBytes_length]

theorem FramesFit.readFlags : ∀ port tag arm, FramesFit.Statement (.readFlags port tag arm) := by
  intro port tag arm c ns h
  cases h
  simp [requestContent, fieldsLength, beBytes_length]

theorem FramesFit.clearFlags : ∀ port tag arm mask, FramesFit.Statement (.clearFlags port tag arm mask) := by
  intro port tag arm mask c ns h
  cases h
  simp [requestContent, fieldsLength, beBytes_length]

theorem FramesFit.readRecord : ∀ port tag lane, FramesFit.Statement (.readRecord port tag lane) := by
  intro port tag lane c ns h
  cases h
  cases port <;> simp [requestContent, fieldsLength, laneContent, beBytes_length]

theorem FramesFit.releaseRecord : ∀ port tag number lane, FramesFit.Statement (.releaseRecord port tag number lane) := by
  intro port tag number lane c ns h
  cases h
  cases port <;> simp [requestContent, fieldsLength, laneContent, beBytes_length]

theorem FramesFit.readTotals : ∀ port tag arm, FramesFit.Statement (.readTotals port tag arm) := by
  intro port tag arm c ns h
  cases h
  simp [requestContent, fieldsLength, beBytes_length]

theorem FramesFit.setArmConfig : ∀ port tag arm config, FramesFit.Statement (.setArmConfig port tag arm config) := by
  intro port tag arm config c ns h
  cases h
  simp [requestContent, fieldsLength, beBytes_length, configContent_length]

theorem FramesFit.setHeaderCapacity : ∀ port tag capacity, FramesFit.Statement (.setHeaderCapacity port tag capacity) := by
  intro port tag capacity c ns h
  cases h
  simp [requestContent, fieldsLength, beBytes_length]

theorem FramesFit.setAuthorizeTimeout : ∀ port tag seconds, FramesFit.Statement (.setAuthorizeTimeout port tag seconds) := by
  intro port tag seconds c ns h
  cases h
  simp [requestContent, fieldsLength, beBytes_length]

theorem FramesFit.setWindow : ∀ port tag window fields, FramesFit.Statement (.setWindow port tag window fields) := by
  intro port tag window fields c ns h
  cases h
  simp [requestContent, fieldsLength, beBytes_length, windowContent_length]

theorem FramesFit.setAdditiveService : ∀ port tag code setting, FramesFit.Statement (.setAdditiveService port tag code setting) := by
  intro port tag code setting c ns h
  cases h
  simp [requestContent, fieldsLength, beBytes_length]

theorem FramesFit.releaseRestricted : ∀ port tag arm, FramesFit.Statement (.releaseRestricted port tag arm) := by
  intro port tag arm c ns h
  cases h
  simp [requestContent, fieldsLength, beBytes_length]

theorem FramesFit.readHeader : ∀ port tag, FramesFit.Statement (.readHeader port tag) := by
  intro port tag c ns h
  cases h
  exact ⟨rfl, rfl⟩

theorem FramesFit.readDirectoryEntry : ∀ port tag product, FramesFit.Statement (.readDirectoryEntry port tag product) := by
  intro port tag product c ns h
  cases h
  simp [requestContent, fieldsLength, beBytes_length]

theorem FramesFit.writeDirectoryEntry : ∀ port tag product fields, FramesFit.Statement (.writeDirectoryEntry port tag product fields) := by
  intro port tag product fields c ns h
  cases h
  simp [requestContent, fieldsLength, beBytes_length]

theorem FramesFit.readRecipe : ∀ port tag page package, FramesFit.Statement (.readRecipe port tag page package) := by
  intro port tag page package c ns h
  cases h
  simp [requestContent, fieldsLength, beBytes_length]

theorem FramesFit.writeRecipe : ∀ port tag page package fields, FramesFit.Statement (.writeRecipe port tag page package fields) := by
  intro port tag page package fields c ns h
  cases h
  simp [requestContent, fieldsLength, beBytes_length, recipeContent_length]

theorem FramesFit.flushAll : ∀ port tag, FramesFit.Statement (.flushAll port tag) := by
  intro port tag c ns h
  cases h
  exact ⟨rfl, rfl⟩

theorem FramesFit.flushProduct : ∀ port tag product, FramesFit.Statement (.flushProduct port tag product) := by
  intro port tag product c ns h
  cases h
  simp [requestContent, fieldsLength, beBytes_length]

theorem FramesFit.clearUsage : ∀ port tag product, FramesFit.Statement (.clearUsage port tag product) := by
  intro port tag product c ns h
  cases h
  simp [requestContent, fieldsLength, beBytes_length]

theorem FramesFit.setScan : ∀ port tag settings, FramesFit.Statement (.setScan port tag settings) := by
  intro port tag settings c ns h
  cases h
  simp [requestContent, fieldsLength, scanContent_length]

theorem FramesFit.startScan : ∀ port tag, FramesFit.Statement (.startScan port tag) := by
  intro port tag c ns h
  cases h
  exact ⟨rfl, rfl⟩

theorem FramesFit.stopScan : ∀ port tag, FramesFit.Statement (.stopScan port tag) := by
  intro port tag c ns h
  cases h
  exact ⟨rfl, rfl⟩

theorem FramesFit.readProbes : ∀ port tag, FramesFit.Statement (.readProbes port tag) := by
  intro port tag c ns h
  cases h
  exact ⟨rfl, rfl⟩

theorem FramesFit.setMonitor : ∀ port tag mode arm, FramesFit.Statement (.setMonitor port tag mode arm) := by
  intro port tag mode arm c ns h
  cases h
  simp [requestContent, fieldsLength, beBytes_length]

theorem FramesFit.setAlertModes : ∀ port tag lane selection, FramesFit.Statement (.setAlertModes port tag lane selection) := by
  intro port tag lane selection c ns h
  cases h
  simp [requestContent, fieldsLength, beBytes_length]

theorem FramesFit.restart : ∀ port tag, FramesFit.Statement (.restart port tag) := by
  intro port tag c ns h
  cases h
  exact ⟨rfl, rfl⟩

theorem FramesFit.frameGapTimeout : ∀ port, FramesFit.Statement (.frameGapTimeout port) := by
  intro port c ns h
  cases h

theorem FramesFit.responseSent : ∀ port, FramesFit.Statement (.responseSent port) := by
  intro port c ns h
  cases h

theorem FramesFit.powerOnReset : FramesFit.Statement (.powerOnReset) := by
  intro c ns h
  cases h

theorem FramesFit.meterPulseA : ∀ arm meter, FramesFit.Statement (.meterPulseA arm meter) := by
  intro arm meter c ns h
  cases h

theorem FramesFit.meterPulseB : ∀ arm meter, FramesFit.Statement (.meterPulseB arm meter) := by
  intro arm meter c ns h
  cases h

theorem FramesFit.permissiveLost : ∀ arm, FramesFit.Statement (.permissiveLost arm) := by
  intro arm c ns h
  cases h

theorem FramesFit.verifyEdge : ∀ arm slot, FramesFit.Statement (.verifyEdge arm slot) := by
  intro arm slot c ns h
  cases h

theorem FramesFit.authorizeTimerExpiry : ∀ arm, FramesFit.Statement (.authorizeTimerExpiry arm) := by
  intro arm c ns h
  cases h

theorem FramesFit.holdTimerExpiry : ∀ arm, FramesFit.Statement (.holdTimerExpiry arm) := by
  intro arm c ns h
  cases h

theorem FramesFit.drainExpiry : ∀ arm, FramesFit.Statement (.drainExpiry arm) := by
  intro arm c ns h
  cases h

theorem FramesFit.windowExpiry : ∀ arm, FramesFit.Statement (.windowExpiry arm) := by
  intro arm c ns h
  cases h

theorem FramesFit.bauTakeRequest : FramesFit.Statement (.bauTakeRequest) := by
  intro c ns h
  cases h

theorem FramesFit.computationComplete : FramesFit.Statement (.computationComplete) := by
  intro c ns h
  cases h

theorem FramesFit.headExamination : FramesFit.Statement (.headExamination) := by
  intro c ns h
  cases h

theorem FramesFit.releaseLapse : ∀ arm, FramesFit.Statement (.releaseLapse arm) := by
  intro arm c ns h
  cases h

theorem FramesFit.conversionComplete : ∀ code, FramesFit.Statement (.conversionComplete code) := by
  intro code c ns h
  cases h

theorem FramesFit.staleExpiry : ∀ channel, FramesFit.Statement (.staleExpiry channel) := by
  intro channel c ns h
  cases h

theorem FramesFit.pulseEnd : ∀ arm slot, FramesFit.Statement (.pulseEnd arm slot) := by
  intro arm slot c ns h
  cases h

theorem FramesFit.verifyTimeout : ∀ arm slot, FramesFit.Statement (.verifyTimeout arm slot) := by
  intro arm slot c ns h
  cases h

theorem FramesFit.pwmPeriodStart : ∀ arm, FramesFit.Statement (.pwmPeriodStart arm) := by
  intro arm c ns h
  cases h

theorem FramesFit.storeOperationStart : FramesFit.Statement (.storeOperationStart) := by
  intro c ns h
  cases h

theorem FramesFit.walkCompletion : ∀ fault, FramesFit.Statement (.walkCompletion fault) := by
  intro fault c ns h
  cases h

theorem FramesFit.dispensedCompletion : ∀ fault, FramesFit.Statement (.dispensedCompletion fault) := by
  intro fault c ns h
  cases h

theorem FramesFit.checkpointCompletion : ∀ fault, FramesFit.Statement (.checkpointCompletion fault) := by
  intro fault c ns h
  cases h

theorem FramesFit.closeCompletion : ∀ fault, FramesFit.Statement (.closeCompletion fault) := by
  intro fault c ns h
  cases h

theorem FramesFit.recordFreeCompletion : ∀ fault, FramesFit.Statement (.recordFreeCompletion fault) := by
  intro fault c ns h
  cases h

theorem FramesFit.supReadCompletion : ∀ fault, FramesFit.Statement (.supReadCompletion fault) := by
  intro fault c ns h
  cases h

theorem FramesFit.supWriteCompletion : ∀ fault, FramesFit.Statement (.supWriteCompletion fault) := by
  intro fault c ns h
  cases h

theorem FramesFit.usageClearCompletion : ∀ fault, FramesFit.Statement (.usageClearCompletion fault) := by
  intro fault c ns h
  cases h

theorem FramesFit.storeLoadEnd : ∀ failing, FramesFit.Statement (.storeLoadEnd failing) := by
  intro failing c ns h
  cases h

theorem FramesFit.restartReset : FramesFit.Statement (.restartReset) := by
  intro c ns h
  cases h

theorem FramesFit.packetSent : FramesFit.Statement (.packetSent) := by
  intro c ns h
  cases h

theorem FramesFit.frameByteReceived : ∀ port byte, FramesFit.Statement (.frameByteReceived port byte) := by
  intro port byte c ns h
  cases h

theorem FramesFit.permissiveReturns : ∀ arm, FramesFit.Statement (.permissiveReturns arm) := by
  intro arm c ns h
  cases h

end Sys2Proof.Laws
end

