-- ==== Sys2Proof/Laws/Store.lean ====
section
/-! SUPPORT. The recipe store as a memory: reading after a write, and the canonical form kept by every memory
and bus operation; and everything that asking for or starting a store operation can do. -/

namespace Sys2Proof.Machine

open Sys2Proof

/-! ## Check words -/

/-- The CRC's shift register never reaches zero from another value on bits of 0. -/
theorem crcBit_ne_zero {c : BitVec 16} (h : c ≠ 0) : crcBit c ≠ 0 := by
  intro hz
  apply h
  unfold crcBit at hz
  split at hz
  · have := congrArg (·.getLsbD 0) hz
    simp at this
  · rename_i hm
    ext i hi
    by_cases h15 : i = 15
    · subst h15
      simpa [BitVec.msb_eq_getLsbD_last] using hm
    · have := congrArg (·.getLsbD (i + 1)) hz
      simp [BitVec.getLsbD_shiftLeft] at this
      exact (BitVec.getLsbD_eq_getElem hi).symm.trans (by simpa using this (by omega))

/-- The check word of all-zero contents is not zero. -/
theorem crc16_zeros_ne_zero (bytes : List Byte) (h : bytes.all (· == 0) = true) : crc16 bytes ≠ 0 := by
  suffices ∀ c : BitVec 16, c ≠ 0 → bytes.foldl crcByte c ≠ 0 from this _ (by decide)
  induction bytes with
  | nil => exact fun c hc => hc
  | cons b rest ih =>
    simp only [List.all_cons, Bool.and_eq_true, beq_iff_eq] at h
    intro c hc
    refine ih h.2 _ ?_
    have hb : c ^^^ (b.zeroExtend 16 <<< 8) = c := by simp [h.1]
    unfold crcByte
    rw [hb]
    iterate 8 apply crcBit_ne_zero
    exact hc

/-- An item with the check word formed for it is never blank. -/
@[simp] theorem isBlank_formed (c : StoreItem) : isBlank (formed c) = false := by
  by_contra h
  simp only [isBlank, formed, Bool.not_eq_false, Bool.and_eq_true, beq_iff_eq] at h
  exact crc16_zeros_ne_zero _ h.1 h.2
/-- What the Store Controller formed reads without a check-word error. -/
@[simp] theorem checked_formed (c : StoreItem) : checked (some (formed c)) = some (some c) := by
  simp [checked, formed]

@[simp] theorem checked_none : checked none = some none := rfl

/-- An item whose check word does not match its contents fails its read. -/
theorem checked_of_mismatch {c : StoreCell} (h : c.check ≠ checkWord c.contents) :
    checked (some c) = none := by
  simp [checked, h]

@[simp] theorem asEntry_formed (e : DirectoryEntry) : asEntry (some (formed (.entry e))) = some e := by
  simp [asEntry]

@[simp] theorem asRecipe_formed (r : RecipeRecord) :
    asRecipe (some (formed (.recipe r))) = some r := by
  simp [asRecipe]

@[simp] theorem asTotals_formed (t : TotalsBlock) : asTotals (some (formed (.totals t))) = some t := by
  simp [asTotals]

@[simp] theorem asMarker_formed (m : Option OpenMarker) :
    asMarker (some (formed (.marker m))) = some m := by
  simp [asMarker]

@[simp] theorem asSlot_formed (r : Option BatchRecord) : asSlot (some (formed (.slot r))) = some r := by
  simp [asSlot]

@[simp] theorem asCounter_formed (n : Nat) : asCounter (some (formed (.counter n))) = some n := by
  simp [asCounter]

/-! ## Reading after writing -/

@[simp] theorem Store.read_write (st : Store) (a b : Nat) (c : StoreCell) :
    Store.read (Store.write st a c) b = if b = a then some c else Store.read st b := by
  induction st with
  | nil => simp [Store.write, Store.read]
  | cons x rest ih =>
    obtain ⟨k, d⟩ := x
    unfold Store.write
    split
    · simp [Store.read]
    · split
      · subst_vars; simp only [Store.read]; split <;> simp_all
      · simp only [Store.read, ih]; split <;> split <;> simp_all

theorem Store.read_of_allAbove (st : Store) (a b : Nat) (h : Store.allAbove a st = true)
    (hb : b ≤ a) : Store.read st b = none := by
  induction st with
  | nil => rfl
  | cons x rest ih =>
    obtain ⟨k, d⟩ := x
    simp only [Store.allAbove, Bool.and_eq_true, decide_eq_true_eq] at h
    simp only [Store.read]
    rw [if_neg (by omega)]
    exact ih h.2

theorem Store.allAbove_of_le {st : Store} {a b : Nat} (h : Store.allAbove b st = true) (hab : a ≤ b) :
    Store.allAbove a st = true := by
  induction st with
  | nil => rfl
  | cons x rest ih =>
    obtain ⟨k, d⟩ := x
    simp only [Store.allAbove, Bool.and_eq_true, decide_eq_true_eq] at *
    exact ⟨by omega, ih h.2⟩

theorem Store.read_erase (st : Store) (a b : Nat) (h : Store.wf st = true) :
    Store.read (Store.erase st a) b = if b = a then none else Store.read st b := by
  induction st with
  | nil => simp [Store.erase, Store.read]
  | cons x rest ih =>
    obtain ⟨k, d⟩ := x
    simp only [Store.wf, Bool.and_eq_true] at h
    unfold Store.erase
    split
    · subst_vars
      by_cases hb : b = k
      · subst hb; simp [Store.read_of_allAbove rest b b h.1.1]
      · simp [Store.read, hb]
    · simp only [Store.read, ih h.2]; split <;> split <;> simp_all

/-- Contents saved at an address read back there with their check word, and every other item as before. -/
@[simp] theorem Store.read_save (st : Store) (a b : Nat) (c : StoreItem) :
    Store.read (Store.save st a c) b = if b = a then some (formed c) else Store.read st b :=
  Store.read_write st a b (formed c)

/-- What is put at an address is read back there, a blank item as none. -/
theorem Store.read_put (st : Store) (a b : Nat) (c : Option StoreCell) (h : Store.wf st = true) :
    Store.read (Store.put st a c) b =
      if b = a then c.filter (fun x => !isBlank x) else Store.read st b := by
  cases c with
  | none => simpa [Store.put] using Store.read_erase st a b h
  | some c =>
    by_cases hc : isBlank c = true
    · simp [Store.put, hc, Store.read_erase st a b h, Option.filter]
    · simp [Store.put, hc, Store.read_write st a b c, Option.filter]

/-! ## The canonical form -/

theorem Store.allAbove_write (st : Store) (k a : Nat) (c : StoreCell)
    (h : Store.allAbove k st = true) (ha : k < a) : Store.allAbove k (Store.write st a c) = true := by
  induction st with
  | nil => simp [Store.write, Store.allAbove, ha]
  | cons x rest ih =>
    obtain ⟨m, d⟩ := x
    simp only [Store.allAbove, Bool.and_eq_true, decide_eq_true_eq] at h
    unfold Store.write
    split
    · simp [Store.allAbove, ha, h]
    · split
      · simp [Store.allAbove, ha, h]
      · simp [Store.allAbove, h, ih h.2]

theorem Store.wf_write (st : Store) (a : Nat) (c : StoreCell) (h : Store.wf st = true)
    (hc : isBlank c = false) : Store.wf (Store.write st a c) = true := by
  induction st with
  | nil => simp [Store.write, Store.wf, Store.allAbove, hc]
  | cons x rest ih =>
    obtain ⟨k, d⟩ := x
    simp only [Store.wf, Bool.and_eq_true] at h
    unfold Store.write
    split
    · rename_i hlt
      simp [Store.wf, Store.allAbove, hlt, h, hc, Store.allAbove_of_le h.1.1 (Nat.le_of_lt hlt)]
    · split
      · subst_vars; simp [Store.wf, h, hc]
      · have hb : isBlank d = false := by simpa using h.1.2
        simp [Store.wf, ih h.2, hb, Store.allAbove_write rest k a c h.1.1 (by omega)]

/-- Saving contents keeps the canonical form. -/
theorem Store.wf_save (st : Store) (a : Nat) (c : StoreItem) (h : Store.wf st = true) :
    Store.wf (Store.save st a c) = true :=
  Store.wf_write st a _ h (isBlank_formed c)

theorem Store.allAbove_erase (st : Store) (k a : Nat) (h : Store.allAbove k st = true) :
    Store.allAbove k (Store.erase st a) = true := by
  induction st with
  | nil => rfl
  | cons x rest ih =>
    obtain ⟨m, d⟩ := x
    simp only [Store.allAbove, Bool.and_eq_true, decide_eq_true_eq] at h
    unfold Store.erase
    split
    · exact h.2
    · simp [Store.allAbove, h.1, ih h.2]

theorem Store.wf_erase (st : Store) (a : Nat) (h : Store.wf st = true) :
    Store.wf (Store.erase st a) = true := by
  induction st with
  | nil => rfl
  | cons x rest ih =>
    obtain ⟨k, d⟩ := x
    simp only [Store.wf, Bool.and_eq_true] at h
    unfold Store.erase
    split
    · exact h.2
    · have hb : isBlank d = false := by simpa using h.1.2
      simp [Store.wf, ih h.2, hb, Store.allAbove_erase rest k a h.1.1]

theorem Store.wf_put (st : Store) (a : Nat) (c : Option StoreCell) (h : Store.wf st = true) :
    Store.wf (Store.put st a c) = true := by
  cases c with
  | none => exact Store.wf_erase st a h
  | some c =>
    by_cases hc : isBlank c = true
    · simpa [Store.put, hc] using Store.wf_erase st a h
    · simpa [Store.put, hc] using Store.wf_write st a c h (by simpa using hc)

/-- A canonical store lists no blank item. -/
theorem Store.isBlank_of_read {st : Store} {a : Nat} {c : StoreCell} (h : Store.wf st = true)
    (hr : Store.read st a = some c) : isBlank c = false := by
  induction st with
  | nil => simp [Store.read] at hr
  | cons x rest ih =>
    obtain ⟨k, d⟩ := x
    simp only [Store.wf, Bool.and_eq_true] at h
    simp only [Store.read] at hr
    split at hr
    · cases hr; simpa using h.1.2
    · exact ih h.2 hr

/-- Two canonical stores that read alike everywhere are equal. -/
theorem Store.ext (st st' : Store) (h : Store.wf st = true) (h' : Store.wf st' = true)
    (hr : ∀ a, Store.read st a = Store.read st' a) : st = st' := by
  induction st generalizing st' with
  | nil =>
    cases st' with
    | nil => rfl
    | cons x rest => obtain ⟨k, d⟩ := x; simpa [Store.read] using hr k
  | cons x rest ih =>
    obtain ⟨k, d⟩ := x
    cases st' with
    | nil => simpa [Store.read] using hr k
    | cons y rest' =>
      obtain ⟨m, e⟩ := y
      simp only [Store.wf, Bool.and_eq_true] at h h'
      have hk := hr k
      have hm := hr m
      simp only [Store.read, if_true] at hk hm
      have hkm : k = m := by
        rcases Nat.lt_trichotomy k m with hlt | heq | hgt
        · rw [if_neg (by omega), Store.read_of_allAbove rest' m k h'.1.1 (by omega)] at hk
          simp at hk
        · exact heq
        · rw [if_neg (by omega), Store.read_of_allAbove rest k m h.1.1 (by omega)] at hm
          simp at hm
      subst hkm
      simp only [if_true, Option.some.injEq] at hk
      subst hk
      congr 1
      refine ih rest' h.2 h'.2 fun a => ?_
      by_cases ha : a = k
      · subst ha
        rw [Store.read_of_allAbove rest a a h.1.1 (by omega),
          Store.read_of_allAbove rest' a a h'.1.1 (by omega)]
      · simpa [Store.read, ha] using hr a

/-- Putting back what an item holds leaves a canonical store as it was. -/
theorem Store.put_read_self (st : Store) (a : Nat) (h : Store.wf st = true) :
    Store.put st a (Store.read st a) = st := by
  refine Store.ext _ _ (Store.wf_put st a _ h) h fun b => ?_
  rw [Store.read_put st a b _ h]
  split
  · subst_vars
    cases hc : Store.read st b with
    | none => rfl
    | some c => simp [Option.filter, Store.isBlank_of_read h hc]
  · rfl

/-! ## The bus -/

/-- A read leaves the store alone. -/
@[simp] theorem Bus.read_store {α : Type} (b : Bus) (view : Option StoreCell → Option α) (a : Nat) :
    (b.read view a).2.store = b.store := by
  unfold Bus.read; split
  · rfl
  · split <;> rfl

/-- A write keeps the canonical form, whether or not it fails. -/
theorem Bus.wf_write (b : Bus) (a : Nat) (c : StoreItem) (h : Store.wf b.store = true) :
    Store.wf (b.write a c).2.store = true := by
  unfold Bus.write; split
  · exact h
  · split
    · exact Store.wf_put _ _ _ h
    · exact Store.wf_save _ _ _ h

theorem Bus.wf_writeAll (items : List (Nat × StoreItem)) (b : Bus) (h : Store.wf b.store = true) :
    Store.wf (b.writeAll items).2.store = true := by
  induction items generalizing b with
  | nil => exact h
  | cons x rest ih =>
    obtain ⟨a, c⟩ := x
    have hw := Bus.wf_write b a c h
    simp only [Bus.writeAll]
    split
    · rename_i b' heq; rw [heq] at hw; exact ih b' hw
    · rename_i b' heq; rw [heq] at hw; exact hw

/-! ## Asking for and starting operations -/

/-- Everything that starting the next operation can do: nothing, the reset of a pending restart, or the oldest
waiting operation becoming current. -/
theorem State.advanceStore_cases (s : State) :
    s.advanceStore = s ∨
      (s.restartPending = true ∧ s.current = none ∧ (∀ d, s.load ≠ .loading d) ∧
        s.advanceStore = s.restartReset) ∨
      ∃ w rest, s.current = none ∧ (∀ d, s.load ≠ .loading d) ∧ s.storeQueue = w :: rest ∧
        (s.restartPending = true → w.carried = true) ∧ s.advanceStore = s.startOp w.op rest := by
  unfold State.advanceStore
  split
  · exact .inl rfl
  · exact .inl rfl
  · rename_i hc hl
    have hld : ∀ d, s.load ≠ .loading d := fun d hd => hl d hd
    split
    · by_cases hr : s.restartPending = true
      · exact .inr (.inl ⟨hr, hc, hld, by simp [hr]⟩)
      · exact .inl (by simp [hr])
    · rename_i w rest hq
      by_cases hr : s.restartPending = true ∧ w.carried = false
      · exact .inr (.inl ⟨hr.1, hc, hld, by simp [hr.1, hr.2]⟩)
      · refine .inr (.inr ⟨w, rest, hc, hld, hq, fun h => ?_, ?_⟩)
        · by_contra hn; exact hr ⟨h, by simpa using hn⟩
        · rw [if_neg]; intro h; exact hr (by simpa using h)

/-- Outside a pending restart, starting the next operation changes the store queue, the current operation and
the walk list at most. -/
theorem State.advanceStore_frame (s : State) (h : s.restartPending = false) :
    ∃ q c w, s.advanceStore = { s with storeQueue := q, current := c, walks := w } := by
  rcases s.advanceStore_cases with he | ⟨hr, -⟩ | ⟨w, rest, -, -, -, -, he⟩
  · exact ⟨s.storeQueue, s.current, s.walks, he⟩
  · simp [h] at hr
  · exact ⟨rest, some ⟨w.op, s.now, none⟩, markCurrent w.op s.walks, he⟩

theorem State.askOp_frame (s : State) (op : StoreOp) (h : s.restartPending = false) :
    ∃ q c w, s.askOp op = { s with storeQueue := q, current := c, walks := w } := by
  obtain ⟨q, c, w, he⟩ :=
    State.advanceStore_frame { s with storeQueue := s.storeQueue ++ [⟨op, false⟩] } h
  exact ⟨q, c, w, he⟩

theorem State.askCheckpoint_frame (s : State) (a : ArmId) (h : s.restartPending = false) :
    ∃ q c w, s.askCheckpoint a = { s with storeQueue := q, current := c, walks := w } := by
  obtain ⟨q, c, w, he⟩ := State.advanceStore_frame
    { s with storeQueue := joinCheckpoint a (s.checkpoint a) s.storeQueue } h
  exact ⟨q, c, w, he⟩

/-- With an operation current, an operation asked for waits at the tail. -/
theorem State.askOp_of_busy (s : State) (op : StoreOp) (h : s.current.isSome = true) :
    s.askOp op = { s with storeQueue := s.storeQueue ++ [⟨op, false⟩] } := by
  obtain ⟨k, hk⟩ := Option.isSome_iff_exists.mp h
  simp [State.askOp, State.advanceStore, hk]

/-- On an idle store that is not loading and not restarting, an operation asked for starts at once. -/
theorem State.askOp_of_idle (s : State) (op : StoreOp) (hc : s.current = none)
    (hq : s.storeQueue = []) (hr : s.restartPending = false) (hl : ∀ d, s.load ≠ .loading d) :
    s.askOp op =
      { s with current := some ⟨op, s.now, none⟩, walks := markCurrent op s.walks } := by
  simp only [State.askOp]
  rcases State.advanceStore_cases { s with storeQueue := s.storeQueue ++ [⟨op, false⟩] } with
    he | ⟨h, -⟩ | ⟨w, rest, -, -, hq', -, he⟩
  · exfalso
    have : ({ s with storeQueue := s.storeQueue ++ [⟨op, false⟩] } : State).advanceStore.current ≠ none := by
      cases hls : s.load <;> simp_all [State.advanceStore, State.startOp]
    rw [he] at this; exact this hc
  · simp [hr] at h
  · simp only [hq, List.nil_append, List.cons.injEq] at hq'
    obtain ⟨rfl, rfl⟩ := hq'
    rw [he]; simp [State.startOp, hq]

/-- While a load runs, an operation asked for waits at the tail. -/
theorem State.askOp_of_loading (s : State) (op : StoreOp) {began : Nat} (h : s.load = .loading began) :
    s.askOp op = { s with storeQueue := s.storeQueue ++ [⟨op, false⟩] } := by
  cases hc : s.current <;> simp [State.askOp, State.advanceStore, hc, h]

/-- Everything that the recovery of one arm's marker does while the load runs: nothing without a marker; a CLOSE of the
record that stands in a slot; or an INTERRUPTED record posted and its CLOSE (R109). -/
theorem State.recoverArm_of_loading (d : Loaded) (s : State) (a : ArmId) {began : Nat}
    (h : s.load = .loading began) :
    State.recoverArm d s a =
      match d.markerOf a, (d.markerOf a).bind (d.recordOf a) with
      | none, _ => s
      | some _, some q =>
        { s with storeQueue :=
            s.storeQueue ++ [⟨.close a q.slot q.record (s.arm a).figures, false⟩] }
      | some m, none =>
        let q := s.lanes[laneOf a].posting (interruptedRecord a m)
        { s.setLane (laneOf a) (·.post (interruptedRecord a m)) with
          storeQueue := s.storeQueue ++ [⟨.close a q.slot q.record (s.arm a).figures, false⟩] } := by
  unfold State.recoverArm State.askRecoveryClose
  cases d.markerOf a with
  | none => rfl
  | some m =>
    simp only [Option.bind_some]
    cases d.recordOf a m with
    | some q => exact State.askOp_of_loading s _ h
    | none =>
      exact State.askOp_of_loading (s.setLane (laneOf a) (·.post (interruptedRecord a m))) _ h

/-- The recovery of an arm's marker leaves the load under way. -/
theorem State.load_recoverArm (d : Loaded) (s : State) (a : ArmId) {began : Nat}
    (h : s.load = .loading began) : (State.recoverArm d s a).load = .loading began := by
  rw [State.recoverArm_of_loading d s a h]
  split <;> exact h

end Sys2Proof.Machine
end

