-- ==== Sys2Proof/Tests/Slice0.lean ====
section
/-! SUPPORT. Tests by the spec's own worked cases and tables, the refusals of the well-formedness check, and for
every statement with hypotheses a witness that meets them. Expected results come from spec/ or from hand
calculation by its rules; each test's docstring names the source. -/

namespace Sys2Proof.Tests

open Sys2Proof Sys2Proof.Machine

/- Each theorem below evaluates a state in the kernel. One after another they need one thread, not one each. -/
set_option Elab.async false

/-! ## Small states -/

/-- The config of Table 1-4, with a second slot; K_G 100,250, K_E 250,000, 250 ms, w 4, sv 1,500. -/
def exConfig : ArmConfig :=
  ⟨100250, 250000, 250, 2000, 4, 100, #v[⟨2, 1500, 40, 150⟩, ⟨0, 1000, 100, 60⟩, ⟨0, 100, 10, 50⟩],
    ⟨-5000, 15000⟩, ⟨-5000, 15000⟩⟩

/-- The parameters of Table 1-4 with an additive of code 2. -/
def exParams : Params where
  target := 1000
  tolerance := 30
  excursion := 150000
  flush := 400000
  alphaG := 1200
  alphaE := 1100
  gain := 800
  stepLimit := 300
  uLo := 500
  uHi := 9500
  u0 := 600
  nSat := 8
  lowStart := 100000
  lowFlow := 800
  mainFlow := 3000
  topOffVolume := 1500000
  topOffFlow := 1200
  holdLimit := 600
  missLimit := 2
  additives := #v[⟨2, 600⟩, ⟨0, 0⟩, ⟨0, 0⟩]
  precision := 1

/-- A name of 12 letters. -/
def exName : Name := Vector.replicate 12 65

/-- The snapshot of the worked case. -/
def exSnap : Snapshot := ⟨exName, .blend, exParams, .hold, true⟩

/-- The key of the worked case. -/
def exKey : Key := ⟨7, 2⟩

/-- The fixed quantities of the worked case (Section 1.12). -/
def exFixed : Fixed := ⟨3000000, 400000, 29600000, 1014⟩

/-- The batch of the worked case before its window (Table 1-6). -/
def exBatch : Batch where
  key := exKey
  preset := 30000000
  snapshot := some exSnap
  page := some 3
  fixed := some exFixed
  number := some 1
  ending := none
  figures := { Figures.zero with
    vg := 184000
    ve := 19752
    pulsesG := 18446
    pulsesE := 4938
    ng := 180000
    ne := 19500
    sumG := 524400000
    sumE := 51355200
    demand := 20219
    error := -719
    u := 4210
    rate := 2600
    stage := .main
    flowLimit := 3000
    firstLitre := true }

/-- A state after a sound load. -/
def ready : State := { State.reset with load := .ready }

/-- `ready` with one arm replaced. -/
def withArm (a : ArmId) (arm : Arm) : State := ready.setArm a fun _ => arm

/-- A configured IDLE arm with its permissive. -/
def idleArm : Arm := { Arm.reset true with config := some exConfig }

/-- An AUTHORIZED arm of the worked recipe. -/
def authorizedArm : Arm :=
  idleArm.authorizedWith (resolvedBatch exKey 30000000 exSnap (some 3)) 0 120

/-- A DELIVERING arm at Table 1-6. -/
def deliveringArm : Arm :=
  { idleArm with
    state := .delivering
    batch := some exBatch
    reserved := true
    opened := true
    meterG := { Meter.reset with mode := .windowCount }
    meterE := { Meter.reset with mode := .windowCount }
    windowTimer := some 250000
    windowStart := some 0
    windowPeriod := some 250
    slots := Vector.replicate 3 { Slot.reset with due := 81, issued := 81, verified := 81 }
    valve := ⟨4210, 4210, some 0⟩ }

/-- The figures with the valve command shut. -/
def shut (f : Figures) : Figures := { f with u := 0, uResume := f.u }

/-- The same arm HELD from DELIVERING for one cause. -/
def heldArm (c : HoldCause) : Arm :=
  { deliveringArm with
    state := .held .delivering
    causes := HoldSet.only c
    holdTimer := some 600000000
    batch := some { exBatch with figures := shut exBatch.figures }
    valve := ⟨0, 4210, some 0⟩ }

/-- The same arm FLUSHING. -/
def flushingArm : Arm :=
  { deliveringArm with
    state := .flushing
    batch := some { exBatch with figures := shut exBatch.figures }
    valve := ⟨0, 4210, some 0⟩ }

/-- The same arm CLOSING with its drain timer running, every stroke resolved. -/
def closingArm : Arm :=
  { flushingArm with
    state := .closing
    drainTimer := some 2000000
    batch := some { exBatch with ending := some ⟨.short, none⟩, figures := shut exBatch.figures } }

/-- A WAITING_HEADER arm. -/
def waitingArm : Arm :=
  { authorizedArm with
    state := .waitingHeader
    authorizeTimer := none
    batch := some { resolvedBatch exKey 30000000 exSnap (some 3) with fixed := some exFixed } }

/-- Arm 3's request of Table 1-5: the window holds pG 1,003 and pE 278 pulses. -/
def exRequest : TrimRequest := ⟨3, 1003, 278, ⟨2850, false⟩, ⟨2600, false⟩, 250, false⟩

/-- Arm 3 delivering with its request in the BAU (Section 1.12). -/
def exState : State := { withArm 3 deliveringArm with bau := some ⟨exRequest, 0⟩ }

/-- A PROBE packet of channel 3. -/
def exPacket : Packet := .probe ⟨3, 0x1234, some (-5), true⟩

/-- `ready` with a packet being sent since 0, at an instant. -/
def sendingPacket (now : Nat) : State :=
  { ready with now := now, monitor := { Monitor.reset with sending := some ⟨exPacket, 0⟩ } }

/-- `withArm 3` with a header capacity. -/
def withCapacity (capacity : Nat) (arm : Arm) : State :=
  { withArm 3 arm with header := { Header.reset with capacity := capacity } }

/-- The state a command leads to. -/
def after (i : Instr) (s : State) : State :=
  match exec i s with
  | .next t => t
  | _ => s

/-- The figures of an arm's batch. -/
def figuresOf (s : State) (a : ArmId) : Figures := ((s.arm a).batch.map (·.figures)).getD Figures.zero

/-! ## Blend arithmetic -/

/-- R1: round(2.5) = 3, round(−2.5) = −3, round(2.49) = 2 and round(−730.5) = −731. -/
theorem test_round : roundDiv 25 10 = 3 ∧ roundDiv (-25) 10 = -3 ∧ roundDiv 249 100 = 2 ∧
    roundDiv (-7305) 10 = -731 := by decide

/-- Section 1.12: the quantities fixed at START for 30,000,000 mL of E10. -/
theorem test_fixed_e10 : fixedQuantities 30000000 exParams = exFixed := by decide

/-- Section 1.3: 50,000 mL at 8500 bp with F 400,000 clamps F_eff to 2,777 mL. -/
theorem test_fixed_clamped :
    fixedQuantities 50000 { exParams with target := 8500 } = ⟨42500, 2777, 47223, 9000⟩ := by decide

/-- Section 1.12, Table 1-6: the volumes, residues and totals after the window. -/
theorem test_window_volumes :
    let f := figuresOf (after .computationComplete exState) 3
    (f.vg, f.ve, f.grossResidueG, f.grossResidueE) = (194004, 20864, 99000, 0) ∧
      (f.ng, f.ne, f.netResidueG, f.netResidueE) = (189841, 20598, 935200, 544800) ∧
      (f.pulsesG, f.pulsesE, f.sumG, f.sumE) = (19449, 5216, 552911400, 54246400) := by decide +kernel

/-- Section 1.12, Table 1-6: demand, error, valve command, smoothed rate, stage and strokes due after the
window. -/
theorem test_window_trim :
    let t := after .computationComplete exState
    let f := figuresOf t 3
    (f.demand, f.error, f.u, f.saturation, f.rate) = (21328, -730, 4510, 0, 2616) ∧
      f.stage = .main ∧ f.flowLimit = 3000 ∧ (t.arm 3).slots[0].due = 85 ∧
      (t.arm 3).valve.commanded = 4510 := by decide +kernel

/-- Section 2.9: 30,003,460 mL delivered of 30,000,000 gives a final fraction of 1000 bp. -/
theorem test_fraction : finalFraction 27003400 3000060 = 1000 := by decide

/-- Section 2.9: excess, fraction, averages and the additive entry of the closed E10 batch. -/
theorem test_record :
    let b := { exBatch with
      figures := { exBatch.figures with
        vg := 27448060, ve := 3036810, ng := 27003400, ne := 3000060
        sumG := 78227971000, sumE := 7897406000 } }
    let slot := { Slot.reset with due := 12193, issued := 12192, verified := 12181, missed := 11 }
    let arm := { closingArm with slots := closingArm.slots.set 0 slot }
    let r := arm.record 3 b exSnap exConfig
    (r.excess, r.fraction, r.markers.offRatio) = (3460, 1000, false) ∧
      r.averageG = some 2850 ∧ r.averageE = some 2601 ∧
      r.additives = [⟨2, 12181, 11, 18290922, 18271500, true⟩] ∧
      strokesDue 30484870 600 1500 = 12193 := by decide +kernel

/-! ## Meters, probes and the trim scheduler -/

/-- Table 4-2: four conversion examples, and which the window −4000 to +6000 accepts. -/
theorem test_conversion :
    (temperatureOf ⟨-5000, 15000⟩ 0, temperatureOf ⟨-5000, 15000⟩ 33162,
      temperatureOf ⟨-5000, 15000⟩ 33206, temperatureOf ⟨-5000, 15000⟩ 65535) =
        (-5000, 2590, 2600, 9999) ∧
      ([-5000, 2590, 2600, 9999].map (plausible Scanner.reset.settings)) =
        [false, true, true, false] := by decide

/-- R68: the conversion of channel 7 makes the record GOOD and goes on to channel 8, 4 ms later. -/
theorem test_conversion_event :
    let s := { withArm 3 idleArm with
      scanner := { Scanner.reset with conversion := some ⟨7, 0⟩ } }
    let t := after (.conversionComplete 33206) s
    t.scanner.records[7] = ⟨some 2600, .good, 0, some 30004000⟩ ∧
      t.scanner.conversion = some ⟨8, 4000⟩ := by decide +kernel

/-- R70, R73, R171: the fourth reject of a GOOD record makes it SUSPECT and sets PROBE_E, which a port that had read it
no longer holds as seen. -/
theorem test_suspect_flag_is_unseen :
    let good : ProbeRecord := ⟨some 2600, .good, 3, some 30000000⟩
    let s := { withArm 3 { idleArm with flags := FlagSet.only .probeE } with scanner := { Scanner.reset with
      conversion := some ⟨7, 0⟩, records := Scanner.reset.records.set 7 good } }
    let t := after (.conversionComplete 0)
      (s.setPort .supervisor fun lp => { lp with seen := lp.seen.set 3 (FlagSet.only .probeE) })
    t.scanner.records[7].state = .suspect ∧ FlagSet.has (t.arm 3).flags .probeE = true ∧
      (t.port .supervisor).seen[(3 : ArmId)] = 0 := by decide +kernel

/-- Section 5.6, Table 5-2: the final window of arm 5 merges into its waiting request. -/
theorem test_merge :
    let w : TrimRequest := ⟨5, 37, 0, ⟨2850, false⟩, ⟨2600, false⟩, 1000, false⟩
    let m := w.merge ⟨5, 0, 0, ⟨2851, true⟩, ⟨2601, false⟩, 0, true⟩
    (m.pulsesG, m.pulsesE, m.duration, m.final) = (37, 0, 1000, true) ∧ m.probeG = ⟨2851, true⟩ := by
  decide

/-- R60: the tenth idle pulse sets UNAUTH_FLOW and its count begins again. -/
theorem test_tenth_idle_pulse :
    let s := withArm 3 { idleArm with meterG := { Meter.reset with idleCount := 9 } }
    let t := after (.meterPulseA 3 .gasoline) s
    (t.arm 3).meterG.idleCount = 0 ∧ (t.arm 3).meterG.unauthorized = 1 ∧
      (t.arm 3).flags = FlagSet.only .unauthFlow ∧ t.current.isSome = true := by decide +kernel

/-- R57: counts that differ by two are no mismatch, by three they are. -/
theorem test_mismatch :
    ({ Meter.reset with countA := 10, countB := 8 } : Meter).mismatched = false ∧
      ({ Meter.reset with countA := 10, countB := 7 } : Meter).mismatched = true := by decide

/-! ## Holds, injectors and the header -/

/-- Table 2-7: the lost permissive holds the arm with u 4,800 kept for the resume. -/
theorem test_hold :
    let arm := { deliveringArm with
      batch := some { exBatch with figures := { exBatch.figures with u := 4800 } }
      valve := ⟨4800, 4800, some 0⟩ }
    let t := after (.permissiveLost 4) (withArm 4 arm)
    (t.arm 4).state = .held .delivering ∧ (t.arm 4).causes = HoldSet.only .permissive ∧
      (figuresOf t 4).u = 0 ∧ (figuresOf t 4).uResume = 4800 ∧
      (t.arm 4).holdTimer = some 600000000 := by decide +kernel

/-- Table 2-7: a lane RESUME with SUPERVISOR in the set leaves the arm HELD by SUPERVISOR alone. -/
theorem test_lane_resume_keeps_supervisor :
    let arm := { heldArm .permissive with
      causes := HoldSet.add (HoldSet.only .permissive) .supervisor }
    let t := after (.resume (.lane 2) 9 4) (withArm 4 arm)
    (t.arm 4).state = .held .delivering ∧ (t.arm 4).causes = HoldSet.only .supervisor ∧
      (t.port (.lane 2)).sending = some ⟨0x04, 9, .ok, .nothing⟩ := by decide +kernel

/-- Table 8-4, t = 30 and t = 40: a verify edge resolves the stroke, and the pulse end starts the next. -/
theorem test_stroke_cycle :
    let slot : Slot := ⟨.stroking .unresolved, some 40000, some 150000, 85, 82, 81, 0, 0⟩
    let t := after (.verifyEdge 3 0)
      (withArm 3 { deliveringArm with slots := deliveringArm.slots.set 0 slot })
    (t.arm 3).slots[0] = ⟨.stroking .verified, some 40000, none, 85, 82, 82, 0, 0⟩ ∧
      ((after (.pulseEnd 3 0) t).arm 3).slots[0] =
        ⟨.stroking .unresolved, some 80000, some 190000, 85, 83, 82, 0, 0⟩ := by decide +kernel

/-- Table 9-2: the request and minimum of E10, the reduced grants 295 and 80 with their limits. -/
theorem test_header_offers :
    headerRequest exSnap 1014 = 305 ∧ headerMinimum exSnap 1014 = 82 ∧
      (⟨600, Header.reset.grants.set 0 ⟨305, none⟩, []⟩ : Header).offer 305 82 1014 =
        some ⟨295, some 2909⟩ ∧
      (⟨80, Header.reset.grants, []⟩ : Header).offer 123 31 511 = some ⟨80, some 1565⟩ ∧
      (⟨80, Header.reset.grants, []⟩ : Header).offer 305 82 1014 = none := by decide +kernel

/-! ## Cache, links and store -/

/-- An entry of a key for the cache tests. -/
def exEntry (key : Key) : CacheEntry := ⟨key, 3, false, false, exSnap⟩

/-- Table 7-3: the sets of its seven keys. -/
theorem test_sets :
    ([⟨29, 0⟩, ⟨5, 0⟩, ⟨21, 0⟩, ⟨13, 0⟩, ⟨12, 1⟩, ⟨40, 5⟩, ⟨7, 0⟩] : List Key).map
      (fun k => (wayOf k 0).val / 4) = [5, 5, 5, 5, 5, 5, 7] := by decide

/-- Table 7-3: the lowest invalid way is filled, and in a full set the way that the counter names. -/
theorem test_fill :
    let cache := ((State.reset.cache.set 20 (some (exEntry ⟨13, 0⟩))).set 21
      (some (exEntry ⟨5, 0⟩))).set 22 (some (exEntry ⟨21, 0⟩))
    let s := { ready with cache := cache }
    s.fillPlace ⟨29, 0⟩ = 23 ∧
      ({ s with cache := cache.set 23 (some (exEntry ⟨29, 0⟩)), replacement := 2 } :
        State).fillPlace ⟨12, 1⟩ = 22 := by decide +kernel

/-- Table 11-4: the lane's clear of both flags clears OVERSPEED alone, the merge having taken TRIM_OVERRUN out
of its seen set. -/
theorem test_seen_sets :
    let both := FlagSet.add (FlagSet.only .overspeed) .trimOverrun
    let s := (withArm 2 { deliveringArm with flags := both, overrun := 3 }).setPort (.lane 1) fun lp =>
      { lp with seen := lp.seen.set 2 (FlagSet.only .overspeed) }
    let t := after (.clearFlags (.lane 1) 5 2 0x0220) s
    (t.arm 2).flags = FlagSet.only .trimOverrun ∧ (t.arm 2).overrun = 3 ∧
      (t.port (.lane 1)).sending =
        some ⟨0x09, 5, .ok, .cleared (FlagSet.only .overspeed) (FlagSet.only .trimOverrun)⟩ := by
  decide +kernel

/-- R164: a response to START has kind 0x82 and its tag and result follow; the length counts from the kind
byte. -/
theorem test_response_frame :
    (Response.frame ⟨0x02, 7, .wrongState, .nothing⟩).take 5 = [0xA5, 3, 0x82, 7, 5] := by decide

/-- R164: the CRC of no bytes is its initial value, and that of one zero byte is that value through eight
shifts with the polynomial, 0xE1F0. -/
theorem test_crc : crc16 [] = 0xFFFF ∧ crc16 [0] = 0xE1F0 := by decide

/-- R114, R122: a walk takes 3 ms when it also sets the used flag, fills the cache and authorizes its waiter. -/
theorem test_walk :
    let item : RecipeRecord := ⟨true, false, false, exName, .blend, exParams, .hold⟩
    let s := { withArm 3 { authorizedArm with
        state := .authorizing, authorizeTimer := none, batch := some (newBatch exKey 30000000) } with
      store := [(7, formed (.entry ⟨true, false, false, 3⟩)), (306, formed (.recipe item))]
      walks := [⟨exKey, true, [3]⟩]
      current := some ⟨.walk exKey, 0, none⟩ }
    let t := after (.walkCompletion none) s
    t.now = 3000 ∧ (t.arm 3).state = .authorized ∧ (t.cached exKey).isSome = true ∧ t.walks = [] ∧
      Store.read t.store 7 = some (formed (.entry ⟨true, false, true, 3⟩)) := by decide +kernel

/-- R107: the load of the blank store at reset ends READY after its 41 items. -/
theorem test_load :
    let t := after (.storeLoadEnd none) State.reset
    t.load = .ready ∧ t.now = 41000 := by decide +kernel

/-- R89, R104 and log entry 6: a power loss 1 ms into an admission CHECKPOINT finds the counter written and the
marker not. -/
theorem test_power_loss :
    let m : OpenMarker := ⟨2, exKey, 0, 0, 0, 0, 0, blankTotals⟩
    let s := { ready with current := some ⟨.checkpointOpen 3 m, 0, none⟩, batchCounter := 2, now := 1000 }
    (after .powerOnReset s).store = [(1320, formed (.counter 2))] ∧
      (after .powerOnReset { s with now := 999 }).store = [] := by decide +kernel

/-- R127, R136: END of a HELD arm with a stroke pending starts it in the event that enters CLOSING. -/
theorem test_end_of_a_held_arm_strikes :
    let arm := { heldArm .lane with slots := (heldArm .lane).slots.set 0 { Slot.reset with due := 1 } }
    let t := after (.endBatch (.lane 1) 5 3) (withArm 3 arm)
    (t.arm 3).state = .closing ∧
      (t.arm 3).slots[0] = ⟨.stroking .unresolved, some 40000, some 150000, 1, 1, 0, 0, 0⟩ := by
  decide +kernel

/-- R77: a RESTART that waits for the store abandons the conversion in flight. -/
theorem test_restart_abandons_the_conversion :
    let s := { ready with
      current := some ⟨.readEntry 0, 0, none⟩
      scanner := { Scanner.reset with conversion := some ⟨7, 0⟩ } }
    let t := after (.restart .supervisor 5) s
    t.restartPending = true ∧ t.scanner.conversion = none := by decide +kernel

/-- R89, R104, R153: an admission 1.5 ms into a CHECKPOINT leaves the counter item at the value of its own
millisecond, and one 0.5 ms into it is counted. -/
theorem test_counter_item :
    let m : OpenMarker := ⟨2, exKey, 0, 0, 0, 0, 0, blankTotals⟩
    let stored := fun at_ : Nat =>
      let s := { withCapacity 305 authorizedArm with
        current := some ⟨.checkpointOpen 4 m, 0, none⟩, batchCounter := 2, now := at_ }
      Store.read (after (.checkpointCompletion none) (after (.start (.lane 1) 5 3) s)).store 1320
    stored 1500 = some (formed (.counter 2)) ∧ stored 500 = some (formed (.counter 3)) := by
  decide +kernel

/-- R117: a directory write that takes product 7 from page 3 to page 4 makes the entry of product 8, filled from page
3, invalid, and a write that leaves it at page 3 does not. -/
theorem test_directory_write_invalidates :
    let kept := fun page : Nat =>
      let s := { ready with
        current := some ⟨.writeEntry 7 ⟨true, false, false, page⟩, 0, none⟩
        store := [(7, formed (.entry ⟨true, false, true, 3⟩))]
        cache := State.reset.cache.set (wayOf ⟨8, 2⟩ 0) (some (exEntry ⟨8, 2⟩)) }
      ((after (.supWriteCompletion none) s).cached ⟨8, 2⟩).isSome
    kept 4 = false ∧ kept 3 = true := by decide +kernel

/-- R183: the sync byte 0x5A of a packet goes out as a start bit, 0, 1, 0, 1, 1, 0, 1, 0 and a stop bit; a bit time is
8.68 µs, so bit n of the line stands at 9n µs. -/
theorem test_monitor_line :
    ([0, 9, 18, 27, 35, 44, 53, 61, 70, 79].map fun now => (sendingPacket now).monitorLine) =
      [false, false, true, false, true, true, false, true, false, true] ∧
      ready.monitorLine = true := by decide +kernel

/-- R88, R89: the check word of an item is the CRC of its contents; contents with another word do not read. -/
theorem test_check_word :
    formed (.counter 2) = ⟨.counter 2, crc16 [0, 0, 0, 2]⟩ ∧
      asCounter (some ⟨.counter 2, crc16 [0, 0, 0, 3]⟩) = none ∧ asCounter none = some 0 := by
  decide +kernel

/-! ## Terms the well-formedness check refuses -/

/-- Operands that do not fit their frame field are refused (R164). -/
theorem test_illformed_requests :
    ([.authorize (.lane 0) 0 256 7 2 50000, .authorize (.lane 0) 0 0 7 256 50000,
      .authorize (.lane 0) 0 0 7 2 (256 ^ 4), .start (.lane 0) 0 256, .stop (.lane 0) 0 256,
      .resume (.lane 0) 0 256, .endBatch (.lane 0) 0 256, .abort (.lane 0) 0 256,
      .armStatus (.lane 0) 0 256, .readFlags (.lane 0) 0 256, .clearFlags (.lane 0) 0 256 1,
      .readRecord (.lane 0) 0 1, .readRecord .supervisor 0 256,
      .releaseRecord (.lane 0) 0 1 1, .releaseRecord .supervisor 0 (256 ^ 4) 0,
      .readTotals (.lane 0) 0 256, .setHeaderCapacity .supervisor 0 65536,
      .setAuthorizeTimeout .supervisor 0 65536, .setAdditiveService .supervisor 0 256 0,
      .setAdditiveService .supervisor 0 1 256, .releaseRestricted .supervisor 0 256,
      .readDirectoryEntry .supervisor 0 256, .readRecipe .supervisor 0 256 0,
      .readRecipe .supervisor 0 0 256, .flushProduct .supervisor 0 256,
      .clearUsage .supervisor 0 256, .setMonitor .supervisor 0 256 0,
      .setMonitor .supervisor 0 0 256, .setAlertModes .supervisor 0 256 0] : List Instr).all
        (fun i => !i.wellFormed) = true := by decide

/-- Settings that do not fit their frame field are refused (Tables 4-1, 6-5, 8-1, R174). -/
theorem test_illformed_settings :
    let w : WindowFields := ⟨0, 0, 0, 0, 0, 100, 10, exName⟩
    let sc : SlotConfig := ⟨0, 100, 10, 50⟩
    let cal : Calibration := ⟨0, 0⟩
    ([{ exConfig with factorG := 256 ^ 4 }, { exConfig with factorE := 256 ^ 4 },
      { exConfig with trimPeriod := 65536 }, { exConfig with drainTime := 65536 },
      { exConfig with smoothing := 256 }, { exConfig with pwmPeriod := 65536 },
      { exConfig with slots := #v[{ sc with code := 256 }, sc, sc] },
      { exConfig with slots := #v[sc, { sc with strokeVolume := 65536 }, sc] },
      { exConfig with slots := #v[sc, sc, { sc with pulseWidth := 65536 }] },
      { exConfig with slots := #v[{ sc with verifyTimeout := 65536 }, sc, sc] },
      { exConfig with probeG := { cal with offset := -32769 } },
      { exConfig with probeG := { cal with offset := 32768 } },
      { exConfig with probeE := { cal with span := 65536 } }] : List ArmConfig).all
        (fun c => !(Instr.setArmConfig .supervisor 0 0 c).wellFormed) = true ∧
    ([{ w with enable := 256 }, { w with base := 256 }, { w with mask := 256 },
      { w with withheld := 256 }, { w with alphaG := 65536 }, { w with mainFlow := 65536 },
      { w with holdLimit := 65536 }] : List WindowFields).all
        (fun x => !(Instr.setWindow .supervisor 0 0 x).wellFormed) = true ∧
    (Instr.setArmConfig .supervisor 0 256 exConfig).wellFormed = false ∧
    (Instr.setWindow .supervisor 0 256 w).wellFormed = false ∧
    ([⟨256, 0, 0, 0, 5⟩, ⟨0, 256, 0, 0, 5⟩, ⟨0, 0, -32769, 0, 5⟩, ⟨0, 0, 0, 32768, 5⟩,
      ⟨0, 0, 0, 0, 256⟩] : List ScanSettings).all
        (fun k => !(Instr.setScan .supervisor 0 k).wellFormed) = true := by decide

/-- Recipe and directory fields that do not fit their frame field are refused (R92, Table 6-4). -/
theorem test_illformed_recipes :
    let f : RecipeFields := ⟨1, 0, exName, 0, exParams, 0⟩
    let q := fun p : Params => (Instr.writeRecipe .supervisor 0 0 0 { f with params := p }).wellFormed
    (Instr.writeRecipe .supervisor 0 0 0 f).wellFormed = true ∧
    ([{ exParams with target := 65536 }, { exParams with tolerance := 256 },
      { exParams with excursion := 256 ^ 4 }, { exParams with flush := 256 ^ 4 },
      { exParams with alphaG := 65536 }, { exParams with alphaE := 65536 },
      { exParams with gain := 65536 }, { exParams with stepLimit := 65536 },
      { exParams with uLo := 65536 }, { exParams with uHi := 65536 }, { exParams with u0 := 65536 },
      { exParams with nSat := 256 }, { exParams with lowStart := 256 ^ 4 },
      { exParams with lowFlow := 65536 }, { exParams with mainFlow := 65536 },
      { exParams with topOffVolume := 256 ^ 4 }, { exParams with topOffFlow := 65536 },
      { exParams with holdLimit := 65536 }, { exParams with missLimit := 256 },
      { exParams with additives := #v[⟨256, 0⟩, ⟨0, 0⟩, ⟨0, 0⟩] },
      { exParams with additives := #v[⟨0, 0⟩, ⟨0, 65536⟩, ⟨0, 0⟩] },
      { exParams with precision := 256 }] : List Params).all (fun p => !q p) = true ∧
    ([⟨256, 0, exName, 0, exParams, 0⟩, ⟨1, 256, exName, 0, exParams, 0⟩,
      ⟨1, 0, exName, 256, exParams, 0⟩, ⟨1, 0, exName, 0, exParams, 256⟩] : List RecipeFields).all
        (fun x => !(Instr.writeRecipe .supervisor 0 0 0 x).wellFormed) = true ∧
    (Instr.writeRecipe .supervisor 0 256 0 f).wellFormed = false ∧
    (Instr.writeRecipe .supervisor 0 0 256 f).wellFormed = false ∧
    ([⟨256, 0, 0⟩, ⟨0, 256, 0⟩, ⟨0, 0, 256⟩] : List EntryFields).all
        (fun e => !(Instr.writeDirectoryEntry .supervisor 0 0 e).wellFormed) = true ∧
    (Instr.writeDirectoryEntry .supervisor 0 256 ⟨1, 0, 0⟩).wellFormed = false := by decide

/-- A store failure beyond the items of an operation or of the load is refused (Table 6-6, R107). -/
theorem test_illformed_faults :
    let f : Option StoreFault := some ⟨34, .unchanged⟩
    ([.walkCompletion f, .dispensedCompletion f, .checkpointCompletion f, .closeCompletion f,
      .recordFreeCompletion f, .supReadCompletion f, .supWriteCompletion f, .usageClearCompletion f,
      .storeLoadEnd (some 41)] : List Instr).all (fun i => !i.wellFormed) = true := by decide

/-! ## Witnesses: states and operands that meet the hypotheses of the statements

Each theorem is named after its statement and shows, clause by clause, that the hypotheses of a clause are met
together, at a boundary of their range where they have one. -/

/-- A batch record of a number, in a slot. -/
def exQueued (number slot : Nat) : QueuedRecord :=
  ⟨{ interruptedRecord 3 ⟨number, exKey, 0, 0, 0, 0, 0, blankTotals⟩ with post := slot + 1 }, slot⟩

/-- Lane 1 with records in its first `n` slots, numbered from 2. -/
def withRecords (n : Nat) (s : State) : State :=
  s.setLane 1 fun lane =>
    { lane with records := (List.range n).map fun i => exQueued (i + 2) i, postCounter := n }

/-- A state in which every law has something to say: arm 3 delivers against a grant that takes the whole
capacity, lane 1 holds five records beside its reservation, a recipe is cached and stored, and a probe record
is GOOD with three rejects. -/
def lawState : State :=
  { withRecords 5 exState with
    header := ⟨305, Header.reset.grants.set 3 ⟨305, none⟩, []⟩
    store := [(7, formed (.entry ⟨true, false, true, 3⟩))]
    storeQueue := [⟨.checkpointIdle 0 blankTotals, false⟩]
    current := some ⟨.walk ⟨9, 0⟩, 0, none⟩
    walks := [⟨⟨9, 0⟩, true, []⟩]
    cache := State.reset.cache.set 4 (some (exEntry exKey))
    scanner := { Scanner.reset with records := Scanner.reset.records.set 7 ⟨some 2600, .good, 3, some 1⟩ }
    pending := [.computationComplete] }

/-- A step from `lawState` answers a next state. -/
theorem lawState_steps : ∃ t : State, step lawState = .next t := ⟨_, rfl⟩

/-- A ready load is no load under way. -/
theorem not_loading {s : State} (h : s.load = .ready) : ∀ d : Nat, s.load ≠ .loading d := by
  intro d
  rw [h]
  exact nofun

/-- The parts of an arm's coherence, in the order of its fields. -/
theorem coherent_arm (arm : Arm)
    (h : (arm.batch.isSome = true ↔ arm.state ≠ .idle) ∧ (arm.reserved = true ↔ arm.state ≠ .idle) ∧
      (arm.opened = true ↔ arm.state.admitted = true) ∧
      (arm.state ≠ .idle → arm.config.isSome = true) ∧ (arm.causes ≠ 0 ↔ arm.state.isHeld = true) ∧
      (arm.holdTimer.isSome = true ↔ arm.state.isHeld = true) ∧
      (arm.authorizeTimer.isSome = true ↔ arm.state = .authorized) ∧
      (arm.drainTimer.isSome = true → arm.state = .closing) ∧
      (arm.state ≠ .delivering → arm.u = 0) ∧ arm.valve.commanded = arm.u ∧
      arm.meterG.mode = arm.meterE.mode ∧
      (arm.state.underway = true → arm.meterG.mode = .windowCount)) : arm.coherent :=
  let ⟨h1, h2, h3, h4, h5, h6, h7, h8, h9, h10, h11, h12⟩ := h
  ⟨h1, h2, h3, h4, h5, h6, h7, h8, h9, h10, h11, h12⟩

/-- A state is coherent when its arms are and its queue and walks name them as they should. -/
theorem coherent_state (s : State) (load : s.load = .ready) (arms : ∀ a : ArmId, (s.arm a).coherent)
    (h : (∀ a : ArmId, a ∈ s.header.queue.map (·.arm) ↔ (s.arm a).state = .waitingHeader) ∧
      (s.header.queue.map (·.arm)).Nodup ∧ (∀ a ∈ s.waiters, (s.arm a).state = .authorizing) ∧
      s.waiters.Nodup ∧ (s.restartPending = true → s.allIdle = true)) : s.coherent :=
  let ⟨h1, h2, h3, h4, h5⟩ := h
  ⟨arms, h1, h2, h3, h4, h5, fun t e => absurd e (not_loading load t)⟩

/-- `lawState` is coherent. -/
theorem lawState_coherent : lawState.coherent := by
  refine coherent_state lawState rfl (fun a => ?_) (by decide +kernel)
  exact coherent_arm _ (by revert a; decide +kernel)

theorem witness_StepRunsFrontCommand : State.reset.pending = [] := rfl

theorem witness_GrantsStayWithinCapacity :
    lawState.grantsWithinCapacity ∧ lawState.header.granted = lawState.header.capacity ∧
      ∃ t, step lawState = .next t :=
  ⟨by unfold State.grantsWithinCapacity; decide +kernel, by decide +kernel, lawState_steps⟩

theorem witness_StoreStaysCanonical :
    lawState.storeCanonical ∧ lawState.store ≠ [] ∧ ∃ t, step lawState = .next t :=
  ⟨by unfold State.storeCanonical; decide +kernel, by decide, lawState_steps⟩

theorem witness_QueuesHoldOneEntryPerArm :
    { lawState with arithmeticQueue := [exRequest] }.oneRequestPerArm ∧
      lawState.oneCheckpointPerArm ∧
      (∃ t, step { lawState with arithmeticQueue := [exRequest] } = .next t) ∧
      ∃ t, step lawState = .next t :=
  ⟨by unfold State.oneRequestPerArm; decide +kernel,
    by unfold State.oneCheckpointPerArm; decide +kernel, ⟨_, rfl⟩, lawState_steps⟩

theorem witness_QueuesAndCountsStayInRange :
    (lawState.transmitBounded ∧ lawState.packetsBounded) ∧ lawState.countsInRange ∧
      lawState.probesSound ∧ ∃ t, step lawState = .next t := by
  refine ⟨⟨?_, ?_⟩, ?_, ?_, lawState_steps⟩
  · unfold State.transmitBounded LinkPort.bounded; decide +kernel
  · unfold State.packetsBounded; decide +kernel
  · unfold State.countsInRange Arm.countsInRange Meter.inRange Figures.checksInRange
    decide +kernel
  · unfold State.probesSound ProbeRecord.sound; decide +kernel

theorem witness_MeteringLawIsKept :
    lawState.meteringLaw ∧ (lawState.arm 3).batch.isSome = true ∧ ∃ t, step lawState = .next t := by
  refine ⟨?_, by decide +kernel, lawState_steps⟩
  unfold State.meteringLaw Arm.meteringLaw metered
  decide +kernel

/-- The batch that arm 3 holds after the step from `lawState`. -/
theorem lawState_next :
    (match step lawState with
      | .next t => (t.arm 3).state.admitted && (t.arm 3).batch.isSome
      | _ => false) = true := by decide +kernel

theorem witness_DemandAndVolumesFollowTheirLaw :
    lawState.demandFollows ∧ lawState.coherent ∧ (lawState.arm 3).batch = some exBatch ∧
      (lawState.arm 3).state.admitted = true ∧
      ∃ t b', step lawState = .next t ∧ (t.arm 3).state.admitted = true ∧
        (t.arm 3).batch = some b' := by
  refine ⟨?_, lawState_coherent, by decide +kernel, by decide +kernel, ?_⟩
  · unfold State.demandFollows Arm.demandFollows
    decide +kernel
  · have h := lawState_next
    obtain ⟨t, ht⟩ := lawState_steps
    simp only [ht, Bool.and_eq_true, Option.isSome_iff_exists] at h
    obtain ⟨ha, b', hb⟩ := h
    exact ⟨t, b', ht, ha, hb⟩

theorem witness_CacheAndWalkKeysStayDistinct :
    lawState.keysDistinct ∧ lawState.cachedKeys ≠ [] ∧ ∃ t, step lawState = .next t := by
  refine ⟨?_, by decide +kernel, lawState_steps⟩
  unfold State.keysDistinct
  decide +kernel

theorem witness_ArmsStayCoherent :
    lawState.coherent ∧ lawState.keysDistinct ∧ ∃ t, step lawState = .next t :=
  ⟨lawState_coherent, witness_CacheAndWalkKeysStayDistinct.1, lawState_steps⟩

theorem witness_StrokeCountsStaySound :
    lawState.coherent ∧ lawState.strokesSound ∧ ∃ t, step lawState = .next t := by
  refine ⟨lawState_coherent, ?_, lawState_steps⟩
  unfold State.strokesSound Arm.strokesSound Slot.sound
  decide +kernel

theorem witness_ValveCommandStaysInRange :
    lawState.valveWithinRange ∧ (lawState.arm 3).state = .delivering ∧
      ∃ t, step lawState = .next t := by
  refine ⟨?_, by decide +kernel, lawState_steps⟩
  unfold State.valveWithinRange Arm.valveWithinRange
  decide +kernel

/-- The step of `lawState` ends no load. -/
theorem lawState_endsNoLoad : ¬ lawState.endsLoad := fun h => h.1.elim (not_loading rfl)

/-- Lane 1 of `lawState` holds five records and one reservation, six in all. -/
theorem witness_RecordPlacesStayBounded :
    lawState.coherent ∧ lawState.placesBounded ∧
      lawState.lanes[1].records.length + lawState.reservations 1 = 6 ∧
      ¬ lawState.endsLoad ∧ ∃ t, step lawState = .next t := by
  refine ⟨lawState_coherent, ?_, by decide +kernel, lawState_endsNoLoad, lawState_steps⟩
  unfold State.placesBounded
  decide +kernel

theorem witness_BatchNumbersStayDistinct :
    lawState.coherent ∧ lawState.placesBounded ∧ lawState.numbersDistinct ∧
      ¬ lawState.endsLoad ∧ ∃ t, step lawState = .next t := by
  refine ⟨lawState_coherent, witness_RecordPlacesStayBounded.2.1, ?_, lawState_endsNoLoad, lawState_steps⟩
  unfold State.numbersDistinct
  decide +kernel

/-- `ready` with one port changed. -/
def withPort (p : Port) (f : LinkPort → LinkPort) : State := ready.setPort p f

/-- A response for the line tests. -/
def exResponse : Response := ⟨0x02, 7, .ok, .nothing⟩

/-- Clause by clause: a full queue of four, a load, an outstanding request, a code of the other link, arm 8,
lane 4, and arm 7 asked on lane 0. -/
theorem witness_RequestsMeetThePortChecksInOrder :
    let start : Instr := .start (.lane 0) 5 0
    requestOf start = some (⟨.lane 0, 5, 0x02⟩, .arm 0) ∧
    4 ≤ ((withPort (.lane 0) fun lp =>
      { lp with transmit := List.replicate 4 exResponse }).port (.lane 0)).transmit.length ∧
    ((withPort (.lane 0) fun lp =>
      { lp with transmit := List.replicate 3 exResponse }).port (.lane 0)).transmit.length < 4 ∧
    State.reset.load = .loading 0 ∧ (ready.port (.lane 0)).transmit.length < 4 ∧
    (∀ d : Nat, ready.load ≠ .loading d) ∧
    ((withPort (.lane 0) fun lp =>
      { lp with outstanding := some ⟨0x01, 4, .authorize 0⟩ }).port (.lane 0)).outstanding.isSome = true ∧
    (ready.port (.lane 0)).outstanding = none ∧ accepts (.lane 0) 0x7F = false ∧
    requestOf (.restart (.lane 0) 5) = some (⟨.lane 0, 5, 0x7F⟩, .nothing) ∧
    accepts (.lane 0) 0x02 = true ∧ accepts .supervisor 0x49 = true ∧
    requestOf (.start (.lane 0) 5 8) = some (⟨.lane 0, 5, 0x02⟩, .arm 8) ∧
    requestOf (.setAlertModes .supervisor 5 4 0) = some (⟨.supervisor, 5, 0x49⟩, .lane 4) ∧
    requestOf (.start (.lane 0) 5 7) = some (⟨.lane 0, 5, 0x02⟩, .arm 7) ∧ 7 / 2 ≠ (0 : LaneId).val := by
  refine ⟨rfl, ?_, ?_, rfl, ?_, not_loading rfl, ?_⟩ <;> decide +kernel

/-- Contents of one byte and of 240, on a HUNTING port; a check word with one bit wrong; and a START a byte short of
its arm, and one with its kind alone. -/
theorem witness_FrameBytesSpellARequest :
    (ready.port (.lane 0)).receiver = .hunting ∧ 0 < ([0x02] : List Byte).length ∧
      ([0x02] : List Byte).length ≤ 240 ∧ (List.replicate 240 (0x02 : Byte)).length ≤ 240 ∧
      (let word := beBytes 2 (crc16 [1, 0x02] ^^^ 1).toNat
       word.length = 2 ∧ word ≠ beBytes 2 (crc16 [1, 0x02]).toNat) ∧
      (let start : Instr := .start (.lane 0) 5 0
       requestOf start = some (⟨.lane 0, 5, 0x02⟩, .arm 0) ∧ start.wellFormed = true ∧
         (∀ content ∈ ([[0x02, 5], [0x02]] : List (List Byte)), content.head? = some 0x02 ∧
           content.length ≠ (requestContent start).length) ∧
         accepts (.lane 0) 0x02 = true ∧ (ready.port (.lane 0)).transmit.length < 4 ∧
         (ready.port (.lane 0)).outstanding = none) ∧
      ∀ d : Nat, ready.load ≠ .loading d := by
  refine ⟨?_, ?_, ?_, ?_, ?_, ?_, not_loading rfl⟩ <;> decide +kernel

theorem witness_RequestFramesSpellTheirCommands :
    requestOf (.authorize (.lane 1) 5 3 7 2 30000000) = some (⟨.lane 1, 5, 0x01⟩, .arm 3) ∧
      (Instr.authorize (.lane 1) 5 3 7 2 30000000).wellFormed = true := by decide

/-- An idle line, a busy one, an outstanding request; a HUNTING and a COLLECTING port at the gap's limit; a
response and a packet being sent; monitor queues of 7 and 8; and the first and last bit time of a byte, its data bit 0
and 7, and the first bit time after the packet. -/
theorem witness_LinesCarryResponsesInOrder :
    (let lp := LinkPort.reset
     (lp.sending = none ∧ lp.transmit = []) ∧ lp.outstanding ≠ some ⟨0x01, 4, .authorize 0⟩) ∧
    (let lp := { LinkPort.reset with
       sending := some exResponse, outstanding := some ⟨0x01, 4, .authorize 0⟩ }
     lp.sending ≠ none ∧ lp.outstanding = some ⟨0x01, 4, .authorize 0⟩) ∧
    (ready.port .supervisor).receiver = .hunting ∧ (0x00 : Byte) ≠ 0xA5 ∧
    (let s := { withPort .supervisor (fun lp => { lp with receiver := .collecting [2, 0x07] 0 }) with
       now := 20000 }
     (s.port .supervisor).receiver = .collecting (2 :: [0x07]) 0 ∧ s.now ≤ 0 + 20000 ∧
       ([0x07] : List Byte).length + 1 < (2 : Byte).toNat + 2) ∧
    ((withPort .supervisor (fun lp => { lp with sending := some exResponse })).port .supervisor).sending =
      some exResponse ∧
    (let s := { ready with monitor := { Monitor.reset with
       sending := some ⟨.probe ⟨0, 0, none, false⟩, 0⟩ } }
     s.monitor.sending = some ⟨.probe ⟨0, 0, none, false⟩, 0⟩) ∧
    (let m := fun n : Nat => { Monitor.reset with
       sending := some ⟨exPacket, 0⟩, queue := List.replicate n exPacket }
     (m 7).sending ≠ none ∧ (m 7).queue.length < 8 ∧ 8 ≤ (m 8).queue.length ∧
       Monitor.reset.sending = none ∧ Monitor.reset.queue = []) ∧
    (let bit := fun now : Nat => ((sendingPacket now).now - 0) * 115200 / 1000000
     (sendingPacket 0).monitor.sending = some ⟨exPacket, 0⟩ ∧ exPacket.bytes[0]? = some 0x5A ∧
       bit 0 = 0 ∧ bit 9 = 0 + 1 ∧ bit 70 = 7 + 1 ∧ bit 79 = 9 ∧
       exPacket.bytes.length * 10 ≤ bit 955 ∧ bit 954 < exPacket.bytes.length * 10) ∧
    ready.monitor.sending = none := by decide +kernel

/-- Seven states of arm 3, one for each refusal, the record places at six and each of the three ranges just
missed. -/
theorem witness_AuthorizeIsRefusedInOrder :
    let takes := fun s : State => s.takes ⟨.lane (laneOf 3), 5, 0x01⟩ (.arm 3)
    (takes (withArm 3 authorizedArm) ∧ ((withArm 3 authorizedArm).arm 3).state ≠ .idle) ∧
    (let s := { withArm 3 idleArm with restartPending := true }
     takes s ∧ (s.arm 3).state = .idle ∧ s.restartPending = true) ∧
    (let s := { withArm 3 idleArm with load := .loadFailed }
     takes s ∧ (s.arm 3).state = .idle ∧ s.restartPending = false ∧ s.load = .loadFailed) ∧
    (takes ready ∧ (ready.arm 3).state = .idle ∧ ready.restartPending = false ∧
      ready.load ≠ .loadFailed ∧ (ready.arm 3).config = none) ∧
    (let s := withArm 3 { idleArm with flags := FlagSet.only .store }
     takes s ∧ (s.arm 3).state = .idle ∧ s.load ≠ .loadFailed ∧ (s.arm 3).config ≠ none ∧
       (s.arm 3).barred) ∧
    (let s := withRecords 6 (withArm 3 idleArm)
     takes s ∧ (s.arm 3).state = .idle ∧ (s.arm 3).config ≠ none ∧ ¬ (s.arm 3).barred ∧
       6 ≤ s.lanes[laneOf 3].records.length + s.reservations (laneOf 3)) ∧
    (let s := withRecords 5 (withArm 3 idleArm)
     takes s ∧ (s.arm 3).state = .idle ∧ (s.arm 3).config ≠ none ∧ ¬ (s.arm 3).barred ∧
       s.lanes[laneOf 3].records.length + s.reservations (laneOf 3) < 6 ∧
       ¬ inBatchRange 0 49999 ∧ ¬ inBatchRange 0 60000001 ∧ ¬ inBatchRange 16 50000) := by
  unfold State.takes Arm.barred inBatchRange
  decide +kernel

/-- An enabled window of codes 4 to 7. -/
def exWindow (withheld : Bool) : StraightWindow := ⟨true, 4, 3, withheld, 1200, 100, 10, exName⟩

/-- A configured IDLE arm 3 with five records in its lane. -/
def idleState : State := withRecords 5 (withArm 3 idleArm)

theorem idleState_takes : idleState.takes ⟨.lane (laneOf 3), 5, 0x01⟩ (.arm 3) := by
  unfold State.takes
  decide +kernel

/-- The least preset and the last package. -/
theorem idleState_authorizes : idleState.authorizes 3 15 50000 := by
  unfold State.authorizes Arm.barred inBatchRange
  decide +kernel

/-- A window agrees with a code when its digits do. -/
theorem agrees_exWindow (b : Bool) : (exWindow b).agrees 7 := by
  refine ⟨rfl, fun i h => ?_⟩
  by_cases hi : i < 8
  · revert h
    show (3 : Byte).getLsbD i = false → (4 : Byte).getLsbD i = (7 : Byte).getLsbD i
    have : ∀ k : Fin 8, (3 : Byte).getLsbD k = false → (4 : Byte).getLsbD k = (7 : Byte).getLsbD k := by
      decide
    exact this ⟨i, hi⟩
  · rw [BitVec.getLsbD_of_ge _ _ (by omega), BitVec.getLsbD_of_ge _ _ (by omega)]

/-- Both windows agree with product 7 and window 0 governs, withheld or not. -/
theorem witness_AuthorizeDeliversAStraightWindow (b : Bool) :
    let s := { idleState with windows := #v[exWindow b, exWindow true] }
    s.takes ⟨.lane (laneOf 3), 5, 0x01⟩ (.arm 3) ∧ s.authorizes 3 15 50000 ∧
      s.governs 7 (exWindow b) ∧ (exWindow b).withheld = b :=
  ⟨idleState_takes, idleState_authorizes, Or.inl ⟨agrees_exWindow b, rfl⟩, rfl⟩

/-- No window of the reset state agrees with any product. -/
theorem idleState_ungoverned : idleState.ungoverned 7 :=
  ⟨fun h => Bool.noConfusion h.1, fun h => Bool.noConfusion h.1⟩

/-- `idleState` with a cached entry of product 7. -/
def cachedState (package : Nat) (restricted : Bool) (snap : Snapshot) (release : Timer) : State :=
  { idleState.setArm 3 (fun arm => { arm with release := release }) with
    cache := State.reset.cache.set (wayOf ⟨7, package⟩ 3)
      (some ⟨⟨7, package⟩, 3, restricted, false, snap⟩) }

/-- `exSnap` with an additive behind its first. -/
def twoAdditives (code : Nat) : Snapshot :=
  { exSnap with params := { exParams with additives := #v[⟨2, 600⟩, ⟨code, 1⟩, ⟨0, 0⟩] } }

theorem cachedState_ungoverned (r : Bool) (snap : Snapshot) (release : Timer) :
    (cachedState 15 r snap release).ungoverned 7 :=
  ⟨fun h => Bool.noConfusion h.1, fun h => Bool.noConfusion h.1⟩

/-- A hit: plain, restricted with and without a release, an additive that no slot carries, and one out of
service. -/
theorem witness_AuthorizeLooksTheRecipeUp_hit :
    let good := fun (restricted : Bool) (snap : Snapshot) (release : Timer) (s : State) =>
      s.takes ⟨.lane (laneOf 3), 5, 0x01⟩ (.arm 3) ∧ s.authorizes 3 15 50000 ∧ s.keysDistinct ∧
        s.holds ⟨⟨7, 15⟩, 3, restricted, false, snap⟩ ∧ (s.arm 3).config = some exConfig ∧
        (s.arm 3).release = release
    (good false exSnap none (cachedState 15 false exSnap none) ∧
      (cachedState 15 false exSnap none).additivesPass exConfig exParams) ∧
    good true exSnap none (cachedState 15 true exSnap none) ∧
    good true exSnap (some 1) (cachedState 15 true exSnap (some 1)) ∧
    (let s := cachedState 15 false (twoAdditives 3) none
     good false (twoAdditives 3) none s ∧ s.additivePasses exConfig ⟨2, 600⟩ ∧
       (twoAdditives 3).params.additives.toList = [⟨2, 600⟩] ++ ⟨3, 1⟩ :: [⟨0, 0⟩] ∧
       ∀ i : SlotId, exConfig.slots[i].code ≠ 3) ∧
    (let s := { cachedState 15 false exSnap none with inService := State.reset.inService.set 1 false }
     good false exSnap none s ∧ (∃ i : SlotId, exConfig.slots[i].code = 2) ∧
       s.codeInService 2 = false) ∧
    ∀ restricted snap release, (cachedState 15 restricted snap release).ungoverned 7 := by
  unfold State.takes State.authorizes Arm.barred inBatchRange State.keysDistinct State.holds
    State.additivesPass State.additivePasses
  refine ⟨⟨?_, ?_⟩, ?_, ?_, ⟨?_, ?_, ?_, ?_⟩, ⟨?_, ?_, ?_⟩, cachedState_ungoverned⟩ <;> decide +kernel

/-- A miss: the walk of the key under way, the store busy with another, and the store idle. -/
theorem witness_AuthorizeLooksTheRecipeUp_miss :
    let good := fun s : State => s.takes ⟨.lane (laneOf 3), 5, 0x01⟩ (.arm 3) ∧
      s.authorizes 3 15 50000 ∧ s.cached ⟨7, 15⟩ = none
    let busy := { idleState with
      walks := [⟨⟨7, 15⟩, true, [0]⟩], current := some ⟨.walk ⟨7, 15⟩, 0, none⟩ }
    let other := { idleState with current := some ⟨.checkpointIdle 0 blankTotals, 0, none⟩ }
    (good busy ∧ ∃ w ∈ busy.walks, w.key = ⟨7, 15⟩) ∧
      (good other ∧ (∀ w ∈ other.walks, w.key ≠ ⟨7, 15⟩) ∧ other.current.isSome = true) ∧
      (good idleState ∧ (∀ w ∈ idleState.walks, w.key ≠ ⟨7, 15⟩) ∧ idleState.current = none ∧
        idleState.storeQueue = []) ∧
      idleState.ungoverned 7 ∧ idleState.windows = busy.windows ∧ idleState.windows = other.windows := by
  unfold State.takes State.authorizes Arm.barred inBatchRange
  refine ⟨?_, ?_, ?_, idleState_ungoverned, rfl, rfl⟩ <;> decide +kernel

/-- `authorizedArm` on a recipe without ethanol. -/
def gasolineArm : Arm :=
  idleArm.authorizedWith (resolvedBatch exKey 30000000
    { exSnap with params := { exParams with target := 0 } } (some 3)) 0 120

/-- The three ways to be admitted: no ethanol, the whole request of 305, and the minimum of 82. -/
theorem witness_StartAdmitsTheArm :
    let good := fun (s : State) (arm : Arm) (b : Batch) => s.takes ⟨.lane (laneOf 3), 5, 0x02⟩ (.arm 3) ∧
      s.restartPending = false ∧ (s.arm 3) = arm ∧ arm.state = .authorized ∧ arm.permissive = true ∧
      arm.batch = some b ∧ arm.config = some exConfig
    let fx := fixedQuantities 30000000 exParams
    (good (withCapacity 0 gasolineArm) gasolineArm (resolvedBatch exKey 30000000
        { exSnap with params := { exParams with target := 0 } } (some 3)) ∧
      ceilDiv (3000 * (fixedQuantities 30000000 { exParams with target := 0 }).fraction) 10000 = 0) ∧
    (let s := withCapacity 305 authorizedArm
     good s authorizedArm (resolvedBatch exKey 30000000 exSnap (some 3)) ∧ s.header.queue = [] ∧
       0 < ceilDiv (3000 * fx.fraction) 10000 ∧
       ceilDiv (3000 * fx.fraction) 10000 ≤ s.header.capacity - s.header.granted) ∧
    (let s := withCapacity 82 authorizedArm
     good s authorizedArm (resolvedBatch exKey 30000000 exSnap (some 3)) ∧ s.header.queue = [] ∧
       s.header.capacity - s.header.granted < ceilDiv (3000 * fx.fraction) 10000 ∧
       ceilDiv (800 * fx.fraction) 10000 ≤ s.header.capacity - s.header.granted) := by
  unfold State.takes
  decide +kernel

/-- A capacity one below the minimum, a queue that is not empty, an arm not AUTHORIZED, an absent permissive. -/
theorem witness_StartWaitsOrIsRefused :
    let takes := fun s : State => s.takes ⟨.lane (laneOf 3), 5, 0x02⟩ (.arm 3)
    let fx := fixedQuantities 30000000 exParams
    (let s := withCapacity 81 authorizedArm
     takes s ∧ (s.arm 3).state = .authorized ∧ (s.arm 3).permissive = true ∧
       (s.arm 3).batch = some (resolvedBatch exKey 30000000 exSnap (some 3)) ∧
       0 < ceilDiv (3000 * fx.fraction) 10000 ∧
       s.header.capacity - s.header.granted < ceilDiv (3000 * fx.fraction) 10000 ∧
       s.header.capacity - s.header.granted < ceilDiv (800 * fx.fraction) 10000) ∧
    (let s := { withArm 3 authorizedArm with header := ⟨9999, Header.reset.grants, [⟨0, 305, 82⟩]⟩ }
     takes s ∧ (s.arm 3).state = .authorized ∧ s.header.queue ≠ []) ∧
    (takes (withArm 3 idleArm) ∧ ((withArm 3 idleArm).arm 3).state ≠ .authorized) ∧
    (let s := withArm 3 { authorizedArm with permissive := false }
     takes s ∧ (s.arm 3).state = .authorized ∧ (s.arm 3).permissive = false) := by
  unfold State.takes
  decide +kernel

/-- A state with arm 3 waiting in the header queue. -/
def waitingState : State :=
  { withArm 3 waitingArm with header := ⟨81, Header.reset.grants, [⟨3, 305, 82⟩]⟩ }

theorem waitingState_coherent : waitingState.coherent := by
  refine coherent_state waitingState rfl (fun a => ?_) (by decide +kernel)
  exact coherent_arm _ (by revert a; decide +kernel)

/-- A state with arm 3 waiting behind arm 0. -/
def waitingBehind : State :=
  { waitingState.setArm 0 (fun _ => waitingArm) with
    header := ⟨81, Header.reset.grants, [⟨0, 305, 82⟩, ⟨3, 305, 82⟩]⟩ }

theorem waitingBehind_coherent : waitingBehind.coherent := by
  refine coherent_state waitingBehind rfl (fun a => ?_) (by decide +kernel)
  exact coherent_arm _ (by revert a; decide +kernel)

/-- DELIVERING, FLUSHING, HELD and IDLE for a STOP of either link; and the same with WAITING_HEADER, at the head of the
queue and behind it, for the permissive, present and absent. -/
theorem witness_StopAndPermissiveHoldTheArm :
    (∀ arm ∈ [deliveringArm, flushingArm, heldArm .ratio, idleArm],
      (withArm 3 arm).takes ⟨.lane (laneOf 3), 5, 0x03⟩ (.arm 3) ∧
        (withArm 3 arm).takes ⟨.supervisor, 5, 0x03⟩ (.arm 3) ∧ ((withArm 3 arm).arm 3) = arm ∧
        arm.permissive = true) ∧
    deliveringArm.state = .delivering ∧ flushingArm.state = .flushing ∧
    (heldArm .ratio).state = .held .delivering ∧ idleArm.state.underway = false ∧
    idleArm.state ≠ .waitingHeader ∧ (ready.arm 0).permissive = false ∧
    (∀ s ∈ [waitingState, waitingBehind],
      (s.arm 3).permissive = true ∧ (s.arm 3).state = .waitingHeader) ∧
    (waitingState.header.queue.head?.map (·.arm) = some 3 ∧
      waitingBehind.header.queue.head?.map (·.arm) ≠ some 3) ∧
    waitingState.coherent ∧ waitingBehind.coherent := by
  refine ⟨?_, by decide, by decide, by decide, by decide, by decide, by decide, by decide +kernel,
    by decide +kernel, waitingState_coherent, waitingBehind_coherent⟩
  unfold State.takes
  decide +kernel

/-- `heldArm` with SUPERVISOR beside its cause. -/
def heldTwice (c : HoldCause) : Arm :=
  { heldArm c with causes := HoldSet.add (HoldSet.only c) .supervisor }

/-- An absent permissive, a meter flag, an additive out of service, SUPERVISOR in the set, and a set of one
cause. -/
theorem witness_LaneResumeClearsItsCauses :
    let held := fun s : State => s.takes ⟨.lane (laneOf 3), 5, 0x04⟩ (.arm 3) ∧
      (s.arm 3).state = .held .delivering
    (let s := withArm 3 { heldArm .permissive with permissive := false }
     held s ∧ (s.arm 3).permissive = false) ∧
    (let s := withArm 3 { heldArm .meter with flags := FlagSet.only .meterE }
     held s ∧ (s.arm 3).permissive = true ∧ (s.arm 3).metersClear = false) ∧
    (let s := { withArm 3 (heldArm .additive) with inService := State.reset.inService.set 1 false }
     held s ∧ (s.arm 3).permissive = true ∧ (s.arm 3).metersClear = true ∧
       ¬ ∀ snap ∈ (s.arm 3).snapshot, s.additivesInService snap = true) ∧
    (∀ arm ∈ [heldArm .lane, heldTwice .ratio],
      let s := withArm 3 arm
      held s ∧ (s.arm 3).permissive = true ∧ (s.arm 3).metersClear = true ∧
        ∀ snap ∈ (s.arm 3).snapshot, s.additivesInService snap = true) ∧
    HoldSet.has (heldTwice .ratio).causes .supervisor = true ∧
    HoldSet.has (heldArm .lane).causes .supervisor = false := by
  unfold State.takes
  decide +kernel

/-- An arm not held; one held without SUPERVISOR, with SUPERVISOR and RATIO, and with SUPERVISOR alone; and
a lane RESUME of the second. -/
theorem witness_SupervisorResumeRemovesItsCause :
    (∀ arm ∈ [idleArm, heldArm .ratio, heldTwice .ratio, heldArm .supervisor],
      (withArm 3 arm).takes ⟨.supervisor, 5, 0x04⟩ (.arm 3) ∧ (withArm 3 arm).arm 3 = arm) ∧
    idleArm.state.isHeld = false ∧
    ((heldArm .ratio).state = .held .delivering ∧
      HoldSet.has (heldArm .ratio).causes .supervisor = false) ∧
    ((heldTwice .ratio).state = .held .delivering ∧
      HoldSet.has (heldTwice .ratio).causes .supervisor = true ∧
      HoldSet.drop (heldTwice .ratio).causes .supervisor ≠ 0) ∧
    (HoldSet.has (heldArm .supervisor).causes .supervisor = true ∧
      HoldSet.drop (heldArm .supervisor).causes .supervisor = 0) ∧
    (withArm 3 (heldTwice .ratio)).takes ⟨.lane (laneOf 3), 5, 0x04⟩ (.arm 3) ∧
    ∃ t, exec (.resume (.lane (laneOf 3)) 5 3) (withArm 3 (heldTwice .ratio)) = .next t := by
  unfold State.takes
  refine ⟨by decide +kernel, by decide, by decide, by decide, by decide, by decide +kernel, ⟨_, rfl⟩⟩

/-- The same for AUTHORIZING with its request outstanding on the lane. -/
def authorizingState : State :=
  { (withArm 3 { authorizedArm with
      state := .authorizing, authorizeTimer := none, batch := some (newBatch exKey 50000) }).setPort
      (.lane 1) (fun lp => { lp with outstanding := some ⟨0x01, 4, .authorize 3⟩ }) with
    walks := [⟨exKey, true, [3]⟩], current := some ⟨.walk exKey, 0, none⟩ }

/-- DELIVERING, with a grant to release, and FLUSHING, with none, for END and for ABORT of either link, and each state
in which they do something else, WAITING_HEADER at the head and behind it. -/
theorem witness_EndAndAbortEndTheBatch :
    (∀ arm ∈ [deliveringArm, flushingArm], let s := withArm 3 arm
     (s.arm 3).state.underway = true ∧ (s.arm 3).batch = arm.batch ∧ arm.batch.isSome = true ∧
       (s.arm 3).config = some exConfig ∧ s.restartPending = false ∧
       (3 : ArmId) ∉ s.header.queue.map (·.arm) ∧
       s.takes ⟨.lane (laneOf 3), 5, 0x05⟩ (.arm 3) ∧ s.takes ⟨.supervisor, 5, 0x06⟩ (.arm 3)) ∧
    (∀ arm ∈ [idleArm, closingArm, authorizedArm, waitingArm],
      (withArm 3 arm).takes ⟨.lane (laneOf 3), 5, 0x05⟩ (.arm 3) ∧ arm.state.underway = false ∧
        (withArm 3 arm).takes ⟨.lane (laneOf 3), 5, 0x06⟩ (.arm 3)) ∧
    idleArm.state = .idle ∧ closingArm.state = .closing ∧ authorizedArm.state = .authorized ∧
    (∀ s ∈ [waitingState, waitingBehind], s.takes ⟨.lane (laneOf 3), 5, 0x06⟩ (.arm 3) ∧
      (s.arm 3).state = .waitingHeader) ∧
    (authorizingState.takes ⟨.supervisor, 5, 0x06⟩ (.arm 3) ∧
      (authorizingState.arm 3).state = .authorizing ∧
      (authorizingState.port (.lane (laneOf 3))).outstanding = some ⟨0x01, 4, .authorize 3⟩ ∧
      ∀ w ∈ authorizingState.walks, w.current = true) ∧
    (let s := { authorizingState with
       walks := [⟨exKey, false, [3]⟩], storeQueue := [⟨.walk exKey, false⟩]
       current := some ⟨.readEntry 0, 0, none⟩ }
     s.takes ⟨.supervisor, 5, 0x06⟩ (.arm 3) ∧ (s.arm 3).state = .authorizing ∧
       (s.port (.lane (laneOf 3))).outstanding = some ⟨0x01, 4, .authorize 3⟩) ∧
    waitingState.coherent ∧ waitingBehind.coherent := by
  unfold State.takes
  refine ⟨by decide +kernel, by decide +kernel, by decide, by decide, by decide, by decide +kernel,
    by decide +kernel, by decide +kernel, waitingState_coherent, waitingBehind_coherent⟩

/-- Requests of an arm from both links, a lane's records present and absent, and the supervisor's two. -/
theorem witness_ReadingRequestsOnlyAnswer :
    let s := withRecords 1 (withArm 3 deliveringArm)
    (s.takes ⟨.lane 1, 5, 0x07⟩ (.arm 3) ∧ s.takes ⟨.supervisor, 5, 0x07⟩ (.arm 3)) ∧
    (s.takes ⟨.lane 1, 5, 0x0C⟩ (.arm 3) ∧ s.takes ⟨.supervisor, 5, 0x0C⟩ (.arm 3)) ∧
    (s.takes ⟨.lane 1, 5, 0x0A⟩ (.lane 0) ∧ s.takes ⟨.supervisor, 5, 0x0A⟩ (.lane 1) ∧
      s.lanes[1].records = [exQueued 2 0] ∧ s.takes ⟨.lane 0, 5, 0x0A⟩ (.lane 0) ∧
      s.lanes[0].records = []) ∧
    s.takes ⟨.supervisor, 5, 0x26⟩ .nothing ∧ s.takes ⟨.supervisor, 5, 0x43⟩ .nothing := by
  unfold State.takes
  decide +kernel

theorem witness_ReadFlagsFillsTheSeenSet :
    (withArm 3 deliveringArm).takes ⟨.lane 1, 5, 0x08⟩ (.arm 3) ∧
      (withArm 3 deliveringArm).takes ⟨.supervisor, 5, 0x08⟩ (.arm 7) := by
  unfold State.takes
  decide +kernel

/-- A mask at and below its bound. -/
theorem witness_FlagsAreSeenBeforeTheyClear :
    ready.takes ⟨.lane 1, 5, 0x09⟩ (.arm 3) ∧ ready.takes ⟨.supervisor, 5, 0x09⟩ (.arm 3) ∧
      2048 ≤ (0x0800 : BitVec 16).toNat ∧ (0x07FF : BitVec 16).toNat < 2048 := by
  unfold State.takes
  decide +kernel

/-- An empty queue, a record that is not the oldest, a release pending, a busy store and an idle one. -/
theorem witness_ReleaseRecordQueuesOneFree :
    let s := withRecords 2 ready
    let takes := fun s : State => s.takes ⟨.lane 1, 5, 0x0B⟩ (.lane 0)
    (takes ready ∧ ready.lanes[1].records = []) ∧
    (takes s ∧ s.lanes[1].records = [exQueued 2 0, exQueued 3 1] ∧ (exQueued 2 0).record.number ≠ 3 ∧
      (exQueued 2 0).record.number = 2 ∧ s.lanes[1].releasePending = false ∧ s.current = none ∧
      s.storeQueue = [] ∧ s.restartPending = false) ∧
    (let p := s.setLane 1 fun lane => { lane with releasePending := true }
     takes p ∧ p.lanes[1].releasePending = true) ∧
    (let b := { s with current := some ⟨.readEntry 0, 0, none⟩ }
     takes b ∧ b.current.isSome = true) ∧
    s.takes ⟨.supervisor, 5, 0x0B⟩ (.lane 1) := by
  unfold State.takes
  decide +kernel

/-- An arm not IDLE, a meter factor of 9,999, and a config of least values. -/
theorem witness_SetArmConfigReplacesTheConfig :
    let least : ArmConfig := ⟨10000, 10000, 100, 500, 1, 20,
      #v[⟨0, 100, 10, 50⟩, ⟨0, 100, 10, 50⟩, ⟨0, 100, 10, 50⟩], ⟨-10000, 0⟩, ⟨-10000, 0⟩⟩
    ready.takes ⟨.supervisor, 5, 0x20⟩ (.arm 3) ∧
      (withArm 3 authorizedArm).takes ⟨.supervisor, 5, 0x20⟩ (.arm 3) ∧
      ((withArm 3 authorizedArm).arm 3).state ≠ .idle ∧ (ready.arm 3).state = .idle ∧
      ¬ { least with factorG := 9999 }.acceptable ∧ least.acceptable := by
  unfold State.takes ArmConfig.acceptable SlotConfig.acceptable Calibration.acceptable
  refine ⟨?_, ?_, ?_, ?_, ?_, ?_⟩ <;> decide +kernel

/-- A capacity above the range, one below the grants, one at both bounds, and a raise. -/
theorem witness_SetHeaderCapacityExaminesOnARaise :
    let s := { ready with header := ⟨305, Header.reset.grants.set 3 ⟨305, none⟩, []⟩ }
    let sum := (s.header.grants.toList.map (·.flow)).sum
    s.takes ⟨.supervisor, 5, 0x21⟩ .nothing ∧ 20000 < 20001 ∧ 304 < sum ∧ sum ≤ 305 ∧
      305 ≤ s.header.capacity ∧ s.header.capacity < 20000 ∧ 20000 ≤ 20000 ∧ s.header.queue = [] := by
  unfold State.takes
  decide +kernel

theorem witness_SetAuthorizeTimeoutIsTaken :
    ready.takes ⟨.supervisor, 5, 0x22⟩ .nothing ∧ 9 < 10 ∧ 600 < 601 ∧ 10 ≤ 600 := by
  unfold State.takes
  decide +kernel

/-- Fields of SET WINDOW in and out of range, an arm's release, selections of 31 and 32, the three monitor
modes and the one beyond. -/
theorem witness_PlainSettingsReplaceWhatTheyName :
    let w : WindowFields := ⟨1, 255, 255, 1, 2000, 6000, 3600, exName⟩
    ready.takes ⟨.supervisor, 5, 0x23⟩ .nothing ∧ w.acceptable ∧
      ¬ { w with mainFlow := 99 }.acceptable ∧ ready.takes ⟨.supervisor, 5, 0x25⟩ (.arm 3) ∧
      ready.takes ⟨.supervisor, 5, 0x49⟩ (.lane (3 : LaneId).val) ∧ 32 ≤ (32 : Byte).toNat ∧
      (31 : Byte).toNat < 32 ∧ ready.takes ⟨.supervisor, 5, 0x48⟩ (.arm (3 : ArmId).val) ∧ 2 < 3 := by
  unfold State.takes WindowFields.acceptable
  decide +kernel

/-- Codes 0 and 7 and setting 2; code 2 in service and out of it; arm 3 delivering with a stroke due. -/
theorem witness_SetAdditiveServiceActsOnTheArms :
    let due := { deliveringArm with slots := deliveringArm.slots.set 0 { Slot.reset with due := 1 } }
    let out := { withArm 3 due with inService := State.reset.inService.set 1 false }
    (ready.takes ⟨.supervisor, 5, 0x24⟩ .nothing ∧ 0 < 1 ∧ 6 < 7 ∧ 1 < 2 ∧
      ready.inService[1] = true ∧ 2 = (1 : Fin 6).val + 1) ∧
    ((withArm 3 deliveringArm).takes ⟨.supervisor, 5, 0x24⟩ .nothing ∧
      deliveringArm.state.underway = true ∧ deliveringArm.snapshot = some exSnap ∧
      ∃ ad ∈ exSnap.params.additives.toList, ad.code = 2) ∧
    (out.takes ⟨.supervisor, 5, 0x24⟩ .nothing ∧ out.inService[1] = false ∧
      (out.arm 3).config = some exConfig ∧ (out.arm 3).snapshot = some exSnap ∧
      exConfig.slots[0].code = 2 ∧ (servedAdditive exSnap exConfig.slots[0]).isSome = true ∧
      (out.arm 3).slots[0].phase = .ready ∧ (out.arm 3).slots[0].issued < (out.arm 3).slots[0].due ∧
      (out.arm 3).strokesAllowed = true) := by
  unfold State.takes
  decide +kernel

/-- A record of greatest selectors with the parameters of the worked case. -/
def exRecipeFields : RecipeFields := ⟨1, 0, exName, 0, exParams, 0⟩

/-- Each of the five requests with its selectors at their last value, one out of range, and a busy store. -/
theorem witness_StoreRequestsQueueTheirOperation :
    let busy := { ready with current := some ⟨.readEntry 0, 0, none⟩ }
    (∀ code ∈ ([0x30, 0x31, 0x32, 0x33, 0x36] : List Byte),
      ready.takes ⟨.supervisor, 5, code⟩ .nothing ∧ busy.takes ⟨.supervisor, 5, code⟩ .nothing) ∧
    busy.current.isSome = true ∧ ready.current = none ∧ ready.storeQueue = [] ∧
    ready.restartPending = false ∧
    storeRequest 5 (.readDirectoryEntry .supervisor 5 255) = some (0x30, .readEntry 255) ∧
    (storeRequest 5 (.writeDirectoryEntry .supervisor 5 255 ⟨1, 1, 63⟩)).isSome = true ∧
    (storeRequest 5 (.writeRecipe .supervisor 5 63 15 exRecipeFields)).isSome = true ∧
    storeRequest 5 (.readRecipe .supervisor 5 63 15) = some (0x32, .readRecipe 63 15) ∧
    storeRequest 5 (.clearUsage .supervisor 5 255) = some (0x36, .usageClear 255) ∧
    storeFieldsOk (.readDirectoryEntry .supervisor 5 255) ∧
    ¬ storeFieldsOk (.readDirectoryEntry .supervisor 5 256) ∧
    storeFieldsOk (.writeDirectoryEntry .supervisor 5 255 ⟨1, 1, 63⟩) ∧
    storeFieldsOk (.readRecipe .supervisor 5 63 15) ∧
    storeFieldsOk (.writeRecipe .supervisor 5 63 15 exRecipeFields) ∧
    storeFieldsOk (.clearUsage .supervisor 5 255) := by
  unfold State.takes storeFieldsOk Params.acceptable
  refine ⟨?_, ?_, ?_, ?_, ?_, ?_, ?_, ?_, ?_, ?_, ?_, ?_, ?_, ?_, ?_, ?_⟩ <;> decide +kernel

theorem witness_FlushesInvalidateTheCache :
    lawState.takes ⟨.supervisor, 5, 0x34⟩ .nothing ∧ lawState.takes ⟨.supervisor, 5, 0x35⟩ .nothing ∧
      255 < 256 ∧ lawState.cache[4] = some (exEntry exKey) ∧ (exEntry exKey).key.product ≠ 255 := by
  unfold State.takes
  decide +kernel

/-- A set with a free way and, with its four ways filled, a full one. -/
theorem witness_CacheFillTakesItsWay :
    let full := { ready with cache :=
      (((State.reset.cache.set 4 (some (exEntry ⟨1, 0⟩))).set 5 (some (exEntry ⟨9, 0⟩))).set 6
        (some (exEntry ⟨17, 0⟩))).set 7 (some (exEntry ⟨25, 0⟩)) }
    (∃ v : Fin 4, lawState.cache[wayOf ⟨1, 0⟩ v] = none) ∧
      (∀ v : Fin 4, full.cache[wayOf exKey v] ≠ none) ∧
      (∀ v : Fin 4, ∀ x ∈ full.cache[wayOf exKey v], x.key ≠ exKey) := by decide +kernel

/-- The scanner idle and scanning, with settings at their limits and one beyond. -/
theorem witness_ScanRequestsRunTheScanner :
    let scanning := { ready with scanner := { Scanner.reset with conversion := some ⟨0, 0⟩ } }
    (∀ code ∈ ([0x40, 0x41, 0x42] : List Byte),
      ready.takes ⟨.supervisor, 5, code⟩ .nothing ∧ scanning.takes ⟨.supervisor, 5, code⟩ .nothing) ∧
    ready.scanner.conversion = none ∧ scanning.scanner.conversion.isSome = true ∧
    (⟨15, 15, -4000, -4000, 5⟩ : ScanSettings).acceptable ∧
    ¬ (⟨0, 15, 1, 0, 5⟩ : ScanSettings).acceptable := by
  unfold State.takes ScanSettings.acceptable
  decide +kernel

/-- An arm not IDLE, a store at work and idle; a pending restart with nothing left to carry out; and a port
that waits for a restart and one that waits for nothing. -/
theorem witness_RestartAndResetsBeginTheLoad :
    let busy := { ready with current := some ⟨.readEntry 0, 0, none⟩ }
    let waiting := { withPort .supervisor (fun lp => { lp with outstanding := some ⟨0x7F, 5, .restart⟩ })
      with restartPending := true, storeQueue := [⟨.readEntry 0, false⟩] }
    ((withArm 3 authorizedArm).takes ⟨.supervisor, 5, 0x7F⟩ .nothing ∧
      ∃ a : ArmId, ((withArm 3 authorizedArm).arm a).state ≠ .idle) ∧
    (busy.takes ⟨.supervisor, 5, 0x7F⟩ .nothing ∧ (∀ a : ArmId, (busy.arm a).state = .idle) ∧
      busy.current.isSome = true) ∧
    (ready.takes ⟨.supervisor, 5, 0x7F⟩ .nothing ∧ (∀ a : ArmId, (ready.arm a).state = .idle) ∧
      ready.current = none ∧ ready.storeQueue = []) ∧
    (waiting.restartPending = true ∧ waiting.current = none ∧
      ∀ q ∈ waiting.storeQueue, q.carried = false) ∧
    (waiting.port .supervisor).outstanding = some ⟨0x7F, 5, .restart⟩ ∧
    (waiting.port (.lane 0)).outstanding = none := by
  unfold State.takes
  decide +kernel

/-- Counts one below and at 65,535, idle counts of 8 and 9, in their two modes. -/
theorem witness_MeterPulsesAreCounted :
    let counting := fun n : Nat => ((withArm 3 { deliveringArm with
      meterG := { Meter.reset with mode := .windowCount, countA := n } }).arm 3).meter .gasoline
    let idle := fun n : Nat => ((withArm 3 { idleArm with
      meterE := { Meter.reset with idleCount := n } }).arm 3).meter .ethanol
    ((counting 65534).mode = .windowCount ∧ (counting 65534).countA < 65535) ∧
      ((counting 65535).mode = .windowCount ∧ 65535 ≤ (counting 65535).countA) ∧
      ((idle 8).mode = .idleCount ∧ (idle 8).idleCount < 9) ∧
      ((idle 9).mode = .idleCount ∧ 9 ≤ (idle 9).idleCount) := by decide +kernel

/-- The four timers running. -/
theorem witness_TimersExpireAtTheirInstant :
    (((withArm 3 authorizedArm).arm 3).state = .authorized ∧
      ((withArm 3 authorizedArm).arm 3).authorizeTimer = some 120000000) ∧
    (let s := withArm 3 (heldArm .ratio)
     (s.arm 3).state = .held .delivering ∧ (s.arm 3).holdTimer = some 600000000 ∧
       (s.arm 3).batch.isSome = true ∧ (s.arm 3).config = some exConfig ∧ s.restartPending = false ∧
       (3 : ArmId) ∉ s.header.queue.map (·.arm)) ∧
    ((withArm 3 { idleArm with release := some 1 }).arm 3).release = some 1 ∧
    (((withArm 3 deliveringArm).arm 3).config = some exConfig ∧
      ((withArm 3 deliveringArm).arm 3).valve.periodStart = some 0) := by decide +kernel

/-- A window with no mismatch, a mismatch of three with the count below and at two; the queue empty, waiting
behind a busy BAU, and holding the arm's own request. -/
theorem witness_WindowExpiryFormsTheRequest :
    let mism := fun n : Nat => { Meter.reset with
      mode := .windowCount, countA := 10, countB := 7, mismatch := n }
    let bad := fun m : Meter => m.countB + 2 < m.countA ∨ m.countA + 2 < m.countB
    let s := withArm 3 deliveringArm
    ((s.arm 3).windowTimer = some 250000 ∧ (s.arm 3).windowPeriod = some 250 ∧
      ¬ bad (s.arm 3).meterG ∧ (s.arm 3).state.underway = true) ∧
    (bad (mism 1) ∧ (mism 1).mismatch < 2) ∧ (bad (mism 2) ∧ 2 ≤ (mism 2).mismatch) ∧
    (s.arithmeticQueue = [] ∧ s.bau = none) ∧
    (exState.bau.isSome = true ∧ (∀ w ∈ exState.arithmeticQueue, w.arm ≠ 3) ∧
      (exState.arm 3).windowTimer = some 250000 ∧ (exState.arm 3).windowPeriod = some 250) ∧
    (let q := { exState with arithmeticQueue := [⟨0, 0, 0, ⟨0, false⟩, ⟨0, false⟩, 250, false⟩,
       { exRequest with pulsesG := 65535 }] }
     q.arithmeticQueue = [⟨0, 0, 0, ⟨0, false⟩, ⟨0, false⟩, 250, false⟩] ++
       { exRequest with pulsesG := 65535 } :: [] ∧ exRequest.arm = 3 ∧ q.bau.isSome = true ∧
       (q.arm 3).windowTimer = some 250000 ∧ 65535 < 65535 + 1) := by decide +kernel

/-- The drain timer running with the queue empty, with a busy BAU, and with the arm's own request waiting; a window with
counts two apart and three apart, the mismatch count at 1 and at 2. -/
theorem witness_DrainExpiryClosesTheFinalWindow :
    let s := withArm 3 closingArm
    let closing := fun s : State => (s.arm 3).state = .closing ∧ (s.arm 3).drainTimer = some 2000000 ∧
      (s.arm 3).windowStart = some 0
    (closing s ∧ s.arithmeticQueue = [] ∧ s.bau = none) ∧
    (let b := { s with bau := some ⟨{ exRequest with arm := 0 }, 0⟩ }
     closing b ∧ b.bau.isSome = true ∧ ∀ w ∈ b.arithmeticQueue, w.arm ≠ 3) ∧
    (let q := { s with bau := some ⟨{ exRequest with arm := 0 }, 0⟩, arithmeticQueue := [exRequest] }
     closing q ∧ q.arithmeticQueue = [] ++ exRequest :: [] ∧ exRequest.arm = 3 ∧ q.bau.isSome = true) ∧
    (∀ n ∈ [1, 2],
      let m := { closingArm.meterG with countA := 10, countB := 7, mismatch := n }
      closing (withArm 3 { closingArm with meterG := m }) ∧ m.countB + 2 < m.countA ∧
        (n < 2 ∨ 2 ≤ m.mismatch) ∧ ¬ { m with countB := 8 }.countB + 2 < m.countA) := by
  decide +kernel

/-- The smallest and the largest preset with the greatest target and flush, and a valve at either limit. -/
theorem witness_BlendArithmeticKeepsItsRanges :
    let p := { exParams with target := 8500, flush := 2000000 }
    0 < 1 ∧ 50000 ≤ 50000 ∧ 60000000 ≤ 60000000 ∧ p.target ≤ 8500 ∧ p.flush ≤ 2000000 ∧
      p.uLo ≤ 500 ∧ 500 ≤ p.uHi ∧ p.uLo ≤ 9500 ∧ 9500 ≤ p.uHi := by decide

theorem witness_ComputationMeasuresTheWindow :
    exState.bau = some ⟨exRequest, 0⟩ ∧ (exState.arm 3).state = .delivering ∧
      (exState.arm 3).state.admitted = true ∧ (exState.arm 3).batch = some exBatch ∧
      exBatch.snapshot = some exSnap ∧ exBatch.fixed = some exFixed ∧
      (exState.arm 3).config = some exConfig ∧ exRequest.final = false ∧ exRequest.arm = 3 ∧
      (exState.arm 3).finalDone = false ∧ exState.restartPending = false ∧
      (3 : ArmId) ∉ exState.header.queue.map (·.arm) ∧ 0 < exFixed.goal ∧
      189841 + 20598 < exFixed.flushStart ∧
      (∀ f ∈ [{ exBatch.figures with vg := 480000 }, { exBatch.figures with vg := 0, ve := 0, firstLitre := false }],
        let s := { withArm 3 { deliveringArm with batch := some { exBatch with figures := f } } with
          bau := some ⟨exRequest, 0⟩
          monitor := { Monitor.reset with selection := .trim 3, running := true } }
        (s.arm 3).opened = true ∧ (s.arm 3).batch = some { exBatch with figures := f } ∧
          s.monitor.running = true ∧ s.monitor.selection = .trim 3 ∧ 0 < exRequest.duration) ∧
      (480000 + 19752) / 500000 < (480000 + 19752 + 10054 + 1112) / 500000 ∧ 1000 ≤ 0 + 10054 + 1112 ∧
      exBatch.page = some 3 ∧ exState.cached exKey = none ∧
      (let s := { exState with cache := State.reset.cache.set (wayOf exKey 0) (some (exEntry exKey)) }
       s.cached exKey = some (exEntry exKey) ∧ (exEntry exKey).dispensed = false) := by
  refine ⟨?_, ?_, ?_, ?_, ?_, ?_, ?_, ?_, ?_, ?_, ?_, ?_, ?_, ?_, ?_, ?_, ?_, ?_, ?_, ?_⟩ <;>
    decide +kernel

/-- A closing arm whose drain has expired and whose final request is being computed. -/
theorem witness_FinalComputationClosesTheBatch :
    let r := { exRequest with final := true }
    let arm := { closingArm with drainTimer := none, windowTimer := none, windowStart := none }
    let s := { withArm 3 arm with bau := some ⟨r, 0⟩ }
    s.bau = some ⟨r, 0⟩ ∧ (s.arm r.arm).state = .closing ∧ (s.arm r.arm).batch = arm.batch ∧
      (arm.batch.bind (·.snapshot)) = some exSnap ∧ (arm.batch.bind (·.fixed)) = some exFixed ∧
      (s.arm r.arm).config = some exConfig ∧ r.final = true ∧ (s.arm r.arm).slotsReady = true ∧
      (s.arm r.arm).drainTimer = none ∧ s.restartPending = false ∧
      (arm.batch.bind (·.number)) = some 1 ∧ (arm.batch.bind (·.ending)) = some ⟨.short, none⟩ ∧
      (exSnap.params.additives.toList.filter fun x => decide (x.code ≠ 0))[0]? = some ⟨2, 600⟩ ∧
      exConfig.slots[0].code = 2 := by decide +kernel

/-- Windows at and past each limit, with counts of 1 and 2 and grace of 0 and 1. -/
theorem witness_DeliveryChecksStrikeOnTheThirdWindow :
    let f := { exBatch.figures with overspeed := 2, excursion := 1, ethanolOnly := 2 }
    (3000 * 105 / 100 < 3151 ∧ ¬ 3000 * 105 / 100 < 3150) ∧ 2 ≤ f.overspeed ∧ f.excursion < 2 ∧
      f.grace = 0 ∧ 0 < { f with grace := 1 }.grace ∧
      (exSnap.params.excursion < (-150001 : Int).natAbs ∧
        ¬ exSnap.params.excursion < (150000 : Int).natAbs) ∧
      (exSnap.params.lowStart ≤ f.vg + f.ve ∧ exSnap.excursionOn = true) ∧
      (0 < (⟨0, 1, 0, 1⟩ : WindowVolumes).grossE ∧ (⟨0, 1, 0, 1⟩ : WindowVolumes).grossG = 0) := by
  decide

/-- A computation of arm 3 DELIVERING, FLUSHING and HELD: a window short of the preset and of S, one that reaches the
preset, one that passes S with a flush to come, a valve at either end of its range with the error asking for more, and
the third window of ethanol alone. -/
theorem witness_DeliveryChecksStrikeOnTheThirdWindow_computation :
    (∀ arm ∈ [deliveringArm, flushingArm, heldArm .lane],
      let s := { withArm 3 arm with bau := some ⟨exRequest, 0⟩ }
      s.bau = some ⟨exRequest, 0⟩ ∧ (s.arm 3).state.underway = true ∧ (s.arm 3).batch = arm.batch ∧
        arm.snapshot = some exSnap ∧ arm.batch.bind (·.fixed) = some exFixed ∧
        (s.arm 3).config = some exConfig ∧ exRequest.final = false ∧ exRequest.arm = 3 ∧
        (s.arm 3).finalDone = false ∧ s.restartPending = false ∧
        (3 : ArmId) ∉ s.header.queue.map (·.arm) ∧ 0 < exRequest.duration) ∧
    (let v := 189841 + 20598
     v < exBatch.preset ∧ v < exFixed.flushStart ∧ 0 < exFixed.goal ∧
       { exBatch with preset := v }.preset ≤ v ∧ { exFixed with flushStart := v }.flushStart ≤ v ∧
       0 < exFixed.flush) ∧
    (trimmedCommand exParams (-730) 9500 = exParams.uHi ∧ (-730 : Int) < 0 ∧
      trimmedCommand exParams 730 500 = exParams.uLo ∧ 0 < (730 : Int)) ∧
    (let r := { exRequest with pulsesG := 0 }
     (r.pulsesG * 1000000 + exBatch.figures.grossResidueG) / exConfig.factorG = 0 ∧
       0 < (r.pulsesE * 1000000 + exBatch.figures.grossResidueE) / exConfig.factorE ∧
       2 ≤ { exBatch.figures with ethanolOnly := 2 }.ethanolOnly) := by
  refine ⟨?_, ?_, ?_, ?_⟩ <;> decide +kernel

/-- An empty queue; a head that cannot be served with 81, that takes 82, and that takes its whole 305. -/
theorem witness_HeadExaminationServesInOrder :
    let at_ := fun h : Nat => { waitingState with header := { waitingState.header with capacity := h } }
    let free := fun s : State => s.header.capacity - s.header.granted
    ready.header.queue = [] ∧
    (waitingState.header.queue = [⟨3, 305, 82⟩] ∧ waitingState.restartPending = false ∧
      (waitingState.arm 3).batch.isSome = true ∧ (waitingState.arm 3).snapshot = some exSnap ∧
      ((waitingState.arm 3).batch.bind (·.fixed)) = some exFixed ∧
      (waitingState.arm 3).config = some exConfig ∧ (∀ d : Nat, waitingState.load ≠ .loading d)) ∧
    (free (at_ 81) < 305 ∧ free (at_ 81) < 82) ∧ (free (at_ 82) < 305 ∧ 82 ≤ free (at_ 82)) ∧
    305 ≤ free (at_ 305) := by
  refine ⟨by decide +kernel, ⟨by decide +kernel, by decide +kernel, by decide +kernel, by decide +kernel,
    by decide +kernel, by decide +kernel, not_loading rfl⟩, ?_⟩
  decide +kernel

/-- An arm with its slot 0 in a phase. -/
def strokeArm (arm : Arm) (phase : SlotPhase) (due consecutive : Nat) : State :=
  withArm 3 { arm with
    slots := arm.slots.set 0 ⟨phase, some 40000, some 150000, due, 82, 81, 0, consecutive⟩ }

/-- Arm 3 delivering with its slot 0 in a phase, the consecutive count one below the limit or at 0. -/
def strokeState (phase : SlotPhase) (due consecutive : Nat) : State :=
  strokeArm deliveringArm phase due consecutive

/-- The arm of the worked case CLOSING with its final computation done, its drain timer as given. -/
def drainedArm (drain : Timer) : Arm := { closingArm with finalDone := true, drainTimer := drain }

/-- An unresolved stroke and one that awaits its edge, with and without the miss limit near; a resolved stroke with and
without another due; and the cycle that ends on a CLOSING arm, with its drain running and a stroke due, and with its
final computation done and nothing left. -/
theorem witness_StrokesRunTheirCycle :
    let slot := fun s : State => (s.arm 3).slots[0]
    (∀ phase ∈ [SlotPhase.stroking .unresolved, .awaitVerify],
      (let s := strokeState phase 85 0
       (slot s).phase = phase ∧ (slot s).pulseTimer = some 40000 ∧
         (slot s).verifyTimer = some 150000 ∧ (s.arm 3).batch = some exBatch ∧
         exBatch.snapshot = some exSnap ∧ (s.arm 3).config = some exConfig ∧
         (slot s).consecutive + 1 < exSnap.params.missLimit) ∧
      (let s := strokeState phase 85 1
       exSnap.params.missLimit ≤ (slot s).consecutive + 1 ∧ exSnap.faultAction = .hold ∧
         (s.arm 3).state.underway = true ∧ (s.arm 3).state ≠ .closing)) ∧
    (let s := strokeState (.stroking .verified) 83 0
     (slot s).phase = .stroking .verified ∧ SlotPhase.stroking .verified ≠ .stroking .unresolved ∧
       (slot s).pulseTimer = some 40000 ∧ (s.arm 3).batch = some exBatch ∧
       (slot s).issued < (slot s).due ∧ s.codeInService exConfig.slots[0].code = true) ∧
    (let s := strokeState (.stroking .verified) 82 0
     ¬ (slot s).issued < (slot s).due) ∧
    (let s := strokeArm (drainedArm (some 2000000)) .awaitVerify 83 0
     (slot s).phase = .awaitVerify ∧ (s.arm 3).state = .closing ∧ (s.arm 3).drainTimer.isSome = true ∧
       (slot s).issued < (slot s).due) ∧
    (let s := strokeArm (drainedArm none) .awaitVerify 83 1
     (slot s).phase = .awaitVerify ∧ (s.arm 3).state = .closing ∧ (s.arm 3).finalDone = true ∧
       (∀ j : SlotId, j ≠ 0 → (s.arm 3).slots[j].phase = .ready) ∧ (s.arm 3).drainTimer = none ∧
       (s.arm 3).batch.bind (·.snapshot) = some exSnap ∧ s.restartPending = false ∧
       exSnap.params.missLimit ≤ (slot s).consecutive + 1) := by decide +kernel

/-- A conversion in flight for a configured and an unconfigured arm, temperatures at and past the limits, the
fourth reject of a GOOD record, and a running stale timer. -/
theorem witness_ProbeEventsUpdateTheRecord :
    let good : ProbeRecord := ⟨some 2600, .good, 3, some 30000000⟩
    let s := { withArm 3 idleArm with scanner := { Scanner.reset with
      conversion := some ⟨7, 0⟩, records := Scanner.reset.records.set 7 good } }
    (s.scanner.conversion = some ⟨7, 0⟩ ∧ (s.arm ⟨(7 : Channel).val / 2, by decide⟩).config = some exConfig ∧
      s.scanner.records[7].state = .good ∧ 3 ≤ s.scanner.records[7].rejects) ∧
    (-4000 ≤ (-4000 : Int) ∧ (6000 : Int) ≤ 6000 ∧ (-4001 : Int) < -4000 ∧ (6000 : Int) < 6001) ∧
    (let t := { ready with scanner := { Scanner.reset with conversion := some ⟨15, 0⟩ } }
     t.scanner.conversion = some ⟨15, 0⟩ ∧
       (t.arm ⟨(15 : Channel).val / 2, by decide⟩).config = none) ∧
    s.scanner.records[7].staleTimer = some 30000000 ∧
    (let m := { Monitor.reset with selection := .probes, running := true }
     m.running = true ∧ m.selection = .probes) := by decide +kernel

/-- An idle store with waiting work, a busy one, one with none, a pending restart with nothing carried; the
same of the BAU; and a checkpoint that waits, with and without a CLOSE behind it. -/
theorem witness_QueuesServeTheOldestFirst :
    let op : StoreOp := .checkpointIdle 3 blankTotals
    let close : StoreOp := .close 3 0 (exQueued 2 0).record blankTotals
    let s := { ready with storeQueue := [⟨op, true⟩] }
    (s.current = none ∧ s.storeQueue = [⟨op, true⟩] ∧ s.restartPending = false) ∧
    (let r := { ready with restartPending := true, storeQueue := [⟨op, false⟩] }
     r.current = none ∧ r.restartPending = true ∧ ∀ w ∈ r.storeQueue, w.carried = false) ∧
    { ready with current := some ⟨op, 0, none⟩ }.current.isSome = true ∧
    ({ ready with arithmeticQueue := [exRequest] }.bau = none ∧ exState.bau.isSome = true ∧
      ready.arithmeticQueue = []) ∧
    op.isCheckpoint 3 = true ∧ (∀ w ∈ ready.storeQueue, w.op.isCheckpoint 3 = false) ∧
    ((∀ x ∈ ([⟨.readEntry 0, false⟩] : List QueuedOp), x.op.isCheckpoint 3 = false) ∧
      (∀ x ∈ ([⟨.readEntry 0, false⟩] : List QueuedOp), x.op.isClose 3 = false) ∧
      ∃ x ∈ ([⟨close, false⟩] : List QueuedOp), x.op.isClose 3 = true) := by decide +kernel

theorem ready_not_loading : ∀ d : Nat, ready.load ≠ .loading d := not_loading rfl

/-- The recipe of the walk. -/
def exRecipe (restricted : Bool) : RecipeRecord :=
  ⟨true, restricted, false, exName, .blend, exParams, .hold⟩

/-- Arm 3 waiting on its walk over a store. -/
def walkState (store : Store) (release : Timer) : State :=
  { authorizingState.setArm 3 (fun arm => { arm with release := release }) with store := store }

/-- An item whose contents do not match its check word. -/
def spoilt : StoreCell := ⟨.counter 0, 0xFFFF⟩

/-- The store with the directory entry of product 7 at page 3, used or not, and a recipe. -/
def recipeStore (used : Bool) (r : RecipeRecord) : Store :=
  [(7, formed (.entry ⟨true, false, used, 3⟩)), (306, formed (.recipe r))]

/-- The recipe with an additive of a code behind its first. -/
def twoAdditiveRecipe (code : Nat) : RecipeRecord :=
  { exRecipe false with params := (twoAdditives code).params }

/-- An entry not valid, a record not valid, a good pair plain and restricted, the used flag set and clear, an additive
without a slot, one out of service, an entry and a record with a wrong check word, each with an operation waiting
behind the walk; and a walk without waiters that a pending RESTART carries. -/
theorem witness_WalkCompletionServesItsWaiters :
    let walk := fun s : State => s.current = some ⟨.walk exKey, 0, none⟩ ∧
      { s with storeQueue := [⟨.readEntry 7, false⟩] }.current = some ⟨.walk exKey, 0, none⟩ ∧
      ⟨exKey, true, [3]⟩ ∈ s.walks ∧ s.walkKeys.Nodup ∧ ([3] : List ArmId).Nodup ∧
      (s.arm 3).config = some exConfig
    let entry := fun s : State => asEntry (Store.read s.store exKey.product)
    let item := fun s : State => asRecipe (Store.read s.store (256 + 3 * 16 + 2))
    (walk (walkState [] none) ∧ entry (walkState [] none) = some blankEntry ∧ blankEntry.valid = false) ∧
    (let s := walkState [(7, formed (.entry ⟨true, false, true, 3⟩))] none
     walk s ∧ entry s = some ⟨true, false, true, 3⟩ ∧ item s = some blankRecipe ∧
       blankRecipe.valid = false) ∧
    (∀ restricted used : Bool,
      let s := walkState (recipeStore used (exRecipe restricted)) none
      walk s ∧ entry s = some ⟨true, false, used, 3⟩ ∧ item s = some (exRecipe restricted) ∧
        (s.arm 3).release = none ∧ s.additivesPass exConfig exParams ∧ s.storeCanonical ∧
        (used = false →
          Store.read s.store exKey.product ≠ some (formed (.entry ⟨true, false, true, 3⟩)))) ∧
    (let s := walkState (recipeStore true (twoAdditiveRecipe 3)) none
     walk s ∧ item s = some (twoAdditiveRecipe 3) ∧ s.additivePasses exConfig ⟨2, 600⟩ ∧
       (twoAdditiveRecipe 3).params.additives.toList = [⟨2, 600⟩] ++ ⟨3, 1⟩ :: [⟨0, 0⟩] ∧
       ∀ i : SlotId, exConfig.slots[i].code ≠ 3) ∧
    (let s := { walkState (recipeStore true (exRecipe false)) none with
       inService := State.reset.inService.set 1 false }
     walk s ∧ (∃ i : SlotId, exConfig.slots[i].code = 2) ∧ s.codeInService 2 = false) ∧
    (let s := walkState [(7, spoilt)] none
     walk s ∧ entry s = none) ∧
    (let s := walkState [(7, formed (.entry ⟨true, false, true, 3⟩)), (306, spoilt)] none
     walk s ∧ entry s = some ⟨true, false, true, 3⟩ ∧ item s = none) ∧
    (let s := { walkState (recipeStore true (exRecipe false)) none with
       restartPending := true, walks := [⟨exKey, true, []⟩], storeQueue := [⟨.readEntry 7, true⟩] }
     s.current = some ⟨.walk exKey, 0, none⟩ ∧ ⟨exKey, true, []⟩ ∈ s.walks ∧ s.walkKeys.Nodup) := by
  unfold State.additivesPass State.additivePasses State.storeCanonical
  refine ⟨?_, ?_, ?_, ?_, ?_, ?_, ?_, ?_⟩ <;> decide +kernel

/-- A state whose store works on an operation. -/
def working (op : StoreOp) : State := { ready with current := some ⟨op, 0, none⟩ }

/-- The five custody operations as the current one, with the items and records each clause speaks of; a counter item
before, at and after its moment; and a DISPENSED whose record is good, spoilt, blank and already set. -/
theorem witness_CustodyOperationsWriteTheirItems :
    let m : OpenMarker := ⟨2, exKey, 0, 0, 0, 0, 0, blankTotals⟩
    let rec_ : BatchRecord := (exQueued 2 0).record
    (let k : CurrentOp := ⟨.checkpointOpen 3 m, 500, none⟩
     let c : CurrentOp := ⟨.close 3 0 rec_ blankTotals, 500, none⟩
     k.started + 1000 ≤ 1500 ∧ 1499 < k.started + 1000 ∧ c.started + 2000 ≤ 2500 ∧
       2499 < c.started + 2000 ∧ k.counter = none ∧ { k with counter := some 7 }.counter ≠ none) ∧
    (let s := { working (.checkpointOpen 3 m) with batchCounter := 2 }
     s.current = some ⟨.checkpointOpen 3 m, 0, none⟩ ∧ s.storeCanonical ∧
       Store.read s.store 1320 ≠ some (formed (.counter s.batchCounter))) ∧
    (working (.checkpointIdle 3 blankTotals)).current = some ⟨.checkpointIdle 3 blankTotals, 0, none⟩ ∧
    (working (.close 3 0 rec_ blankTotals)).current = some ⟨.close 3 0 rec_ blankTotals, 0, none⟩ ∧
    (let s := { withRecords 1 (working (.recordFree 1 0)) with
       store := [(1302, formed (.slot (some rec_)))] }
     s.current = some ⟨.recordFree 1 0, 0, none⟩ ∧ s.storeCanonical ∧
       (∀ q ∈ s.lanes[1].records, q.slot = 0 → q.record.unsaved = false) ∧
       Store.read s.store (1296 + 1 * 6 + 0) ≠ some (formed (.slot none))) ∧
    (let q : QueuedRecord := ⟨{ rec_ with unsaved := true }, 0⟩
     let s := { (working (.recordFree 1 0)).setLane 1 (fun lane => { lane with records := [q] }) with
       store := [(1291, formed (.marker (some m)))] }
     s.current = some ⟨.recordFree 1 q.slot, 0, none⟩ ∧ s.lanes[1].records = [q] ∧
       q.record.unsaved = true ∧ q.slot < 6 ∧
       asMarker (Store.read s.store (1288 + q.record.arm.val)) = some (some m) ∧
       m.number = q.record.number) ∧
    (let s := { working (.dispensed 3 2 [exKey]) with
       store := [(306, formed (.recipe (exRecipe false)))]
       cache := State.reset.cache.set (wayOf exKey 0) (some { exEntry exKey with dispensed := true }) }
     s.current = some ⟨.dispensed 3 2 [exKey], 0, none⟩ ∧ s.keysDistinct ∧
       asRecipe (Store.read s.store (256 + 3 * 16 + 2)) = some (exRecipe false) ∧
       (exRecipe false).valid = true ∧ (exRecipe false).dispensed = false ∧
       s.cached exKey = some { exEntry exKey with dispensed := true }) ∧
    asRecipe (Store.read [(306, spoilt)] (256 + 3 * 16 + 2)) = none ∧
    asRecipe (Store.read (working (.dispensed 3 2 [])).store (256 + 3 * 16 + 2)) = some blankRecipe ∧
    { exRecipe false with dispensed := true }.dispensed = true := by
  unfold State.storeCanonical State.keysDistinct
  refine ⟨?_, ?_, ?_, ?_, ?_, ?_, ?_, ?_, ?_, ?_⟩ <;> decide +kernel

/-- The five supervisor operations as the current one, with a blank and a valid entry, items with a wrong check word,
and a write that takes product 7 from page 3, an entry of another product filled from that page. -/
theorem witness_SupervisorOperationsAnswer :
    (working (.readEntry 255)).current = some ⟨.readEntry 255, 0, none⟩ ∧
    asEntry (Store.read ready.store 255) = some blankEntry ∧
    (working (.readRecipe 63 15)).current = some ⟨.readRecipe 63 15, 0, none⟩ ∧
    asRecipe (Store.read ready.store (256 + 63 * 16 + 15)) = some blankRecipe ∧
    (working (.writeEntry 255 blankEntry)).current = some ⟨.writeEntry 255 blankEntry, 0, none⟩ ∧
    (working (.writeRecipe 63 15 blankRecipe)).current = some ⟨.writeRecipe 63 15 blankRecipe, 0, none⟩ ∧
    ((working (.usageClear 7)).current = some ⟨.usageClear 7, 0, none⟩ ∧ blankEntry.valid = false) ∧
    (let s := { working (.readEntry 7) with store := [(7, spoilt), (306, spoilt)] }
     Store.read s.store 7 = some spoilt ∧ Store.read s.store (256 + 3 * 16 + 2) = some spoilt ∧
       spoilt.check ≠ crc16 (itemBytes spoilt.contents)) ∧
    (let e : DirectoryEntry := ⟨true, false, false, 4⟩
     let s := { working (.writeEntry 7 e) with
       store := [(7, formed (.entry ⟨true, false, true, 3⟩))]
       cache := State.reset.cache.set (wayOf ⟨8, 2⟩ 0) (some (exEntry ⟨8, 2⟩)) }
     s.current = some ⟨.writeEntry 7 e, 0, none⟩ ∧
       asEntry (Store.read s.store 7) = some ⟨true, false, true, 3⟩ ∧ 3 ≠ e.page ∧
       s.cached ⟨8, 2⟩ = some (exEntry ⟨8, 2⟩) ∧ (exEntry ⟨8, 2⟩).page = 3) ∧
    (let s := { working (.usageClear 7) with store := [(7, formed (.entry ⟨true, false, true, 3⟩))] }
     asEntry (Store.read s.store 7) = some ⟨true, false, true, 3⟩ ∧
       ∀ k : Fin 16, asRecipe (Store.read s.store (256 + 3 * 16 + k.val)) = some blankRecipe) := by
  decide +kernel

/-- A store with the markers of both arms of lane 1 set: the record of arm 3's batch stands in slot 0, and arm 2's has
none. -/
def twoMarkers : Store :=
  [(1290, formed (.marker (some ⟨9, exKey, 50000, 1, 1, 1, 1, blankTotals⟩))),
    (1291, formed (.marker (some ⟨2, exKey, 50000, 1, 1, 1, 1, blankTotals⟩))),
    (1302, formed (.slot (some (exQueued 2 0).record)))]

/-- The reset state, whose store is blank, and an unreadable counter for a failing load; a sound load with both markers
of a lane set, a record in one of its slots, a CHECKPOINT waiting and a current operation of any kind; a record whose
post number is 254 before one of 0; and a lane with one slot free. -/
theorem witness_LoadEndRestoresTheCustody :
    (State.reset.load = .loading 0 ∧ 40 < 41 ∧ asCounter (Store.read [(1320, spoilt)] 1320) = none) ∧
    (let s : State :=
       { State.reset with store := twoMarkers, storeQueue := [⟨.checkpointIdle 2 blankTotals, false⟩] }
     let markers := fun a : ArmId =>
       if a = 2 then some (⟨9, exKey, 50000, 1, 1, 1, 1, blankTotals⟩ : OpenMarker)
       else if a = 3 then some ⟨2, exKey, 50000, 1, 1, 1, 1, blankTotals⟩ else none
     let slots := fun n : Nat => if n = 6 then some (exQueued 2 0).record else none
     let written := fun a : ArmId => if a = 3 then some (exQueued 2 0) else none
     let found := ([0, 1, 2, 3, 4, 5] : List Nat).filterMap fun i =>
       (slots (1 * 6 + i)).map fun r => (⟨{ r with unsaved := false }, i⟩ : QueuedRecord)
     s.load = .loading 0 ∧ asCounter (Store.read s.store 1320) = some 0 ∧
       (∀ a : ArmId, asTotals (Store.read s.store (1280 + a.val)) = some blankTotals) ∧
       (∀ n : Fin 24, asSlot (Store.read s.store (1296 + n.val)) = some (slots n.val)) ∧
       (∀ a : ArmId, asMarker (Store.read s.store (1288 + a.val)) = some (markers a)) ∧
       (∀ a : ArmId, ∀ m ∈ markers a, laneOf a = 1 ∧
         (∀ q ∈ written a, q ∈ found ∧ q.record.number = m.number) ∧
           ∀ q ∈ found, q.record.number = m.number → written a = some q)) ∧
    (let first := exQueued 2 254
     let later : QueuedRecord := ⟨{ (exQueued 3 1).record with post := 0 }, 1⟩
     let rs := [later, first]
     first ∈ rs ∧ (∀ r ∈ rs, (r.record.post + 256 - first.record.post) % 256 ≤ 127) ∧
       (∀ r ∈ rs, r.record.post < 256) ∧ (rs.map (·.record.post)).Nodup) ∧
    (let lane := (withRecords 5 ready).lanes[1]
     ∃ i, i < 6 ∧ ∀ q ∈ lane.records, q.slot ≠ i) := by
  refine ⟨?_, ?_, ?_, ⟨5, ?_⟩⟩ <;> decide +kernel

/-- The reset state after its load meets every condition under which an event does not occur. -/
theorem witness_UnoccurringEventsChangeNothing :
    ((ready.arm 3).state ≠ .authorized ∧ (ready.arm 3).authorizeTimer = none ∧
      (ready.arm 3).state.isHeld = false ∧ (ready.arm 3).state ≠ .closing ∧
      (ready.arm 3).windowTimer = none ∧ (ready.arm 3).release = none ∧ (ready.arm 3).config = none) ∧
    ((∀ o, (ready.arm 3).slots[0].phase ≠ .stroking o) ∧
      (ready.arm 3).slots[0].phase ≠ .awaitVerify ∧ (ready.arm 3).slots[0].verifyTimer = none) ∧
    (ready.scanner.conversion = none ∧ ready.scanner.records[7].staleTimer = none) ∧
    (ready.bau = none ∧ ready.monitor.sending = none ∧ (ready.port .supervisor).sending = none ∧
      (ready.port .supervisor).receiver = .hunting) ∧
    ready.current = none ∧ (∀ t : Nat, ready.load ≠ .loading t) ∧ ready.restartPending = false := by
  refine ⟨by decide +kernel, ⟨?_, by decide +kernel⟩, by decide +kernel, by decide +kernel, rfl,
    not_loading rfl, rfl⟩
  intro o h
  have : (ready.arm 3).slots[0].phase = .ready := by decide +kernel
  rw [this] at h
  exact SlotPhase.noConfusion h

end Sys2Proof.Tests
end

section
/-! PROOFS. RESUME: what leaving hold causes makes of an arm (R39 to R41), and that a supervisor's RESUME removes its
own cause and nothing else does (R40). -/

namespace Sys2Proof.Machine

open Sys2Proof

/-! ## Sets of hold causes -/

theorem HoldSet.ne_zero_of_has {hs : HoldSet} {c : HoldCause} (h : HoldSet.has hs c = true) :
    hs ≠ 0 := by
  rintro rfl
  simp [HoldSet.has] at h

theorem HoldSet.has_and_only (hs : HoldSet) (c : HoldCause) :
    HoldSet.has (hs &&& HoldSet.only c) c = HoldSet.has hs c := by
  have hlt : c.index < 8 := by cases c <;> decide
  simp [HoldSet.has, HoldSet.only, hlt]

/-! ## Leaving hold causes -/

/-- A HELD arm whose cause set has become empty returns as R41 says. -/
theorem Arm.endHold_eq_resumed {arm : Arm} {o : HeldFrom} (h : arm.state = .held o) :
    Arm.endHold { arm with causes := 0 } = arm.resumed o := by
  cases o with
  | delivering =>
    cases hb : arm.batch <;>
      simp [Arm.endHold, Arm.resumed, Arm.setFigures, Figures.restartChecks, Arm.u, h, hb]
  | flushing => simp [Arm.endHold, Arm.resumed, Arm.setFigures, Figures.restartChecks, h]

/-- While a cause remains, the arm stays as it is but for its cause set. -/
theorem State.leaveCauses_of_ne_zero (s : State) (a : ArmId) {rest : HoldSet} (h : rest ≠ 0) :
    s.leaveCauses a rest = s.setArm a fun arm => { arm with causes := rest } :=
  if_neg h

theorem State.leaveCauses_drop_of_ne_zero (s : State) (a : ArmId) {c : HoldCause}
    (h : HoldSet.drop (s.arm a).causes c ≠ 0) :
    s.leaveCauses a (HoldSet.drop (s.arm a).causes c) =
      s.setArm a fun arm => { arm with causes := HoldSet.drop arm.causes c } := by
  rw [State.leaveCauses_of_ne_zero s a h]
  exact State.setArm_congr s a _ _ rfl

/-- When no cause remains, the arm resumes and starts the strokes pending (R41, R127, R135). -/
theorem State.leaveCauses_zero {s : State} {a : ArmId} {o : HeldFrom}
    (h : (s.arm a).state = .held o) :
    ∃ slots : Vector Slot 3,
      s.leaveCauses a 0 = s.setArm a (fun arm => { arm.resumed o with slots := slots }) ∧
        ((s.arm a).resumed o).startsStrokes s.inService s.now slots := by
  have hend : s.leaveCauses a 0 = (s.setArm a (·.resumed o)).tryStrokes a := by
    have hresumed : (s.setArm a fun arm => { arm with causes := 0 }).setArm a Arm.endHold =
        s.setArm a (·.resumed o) := by
      rw [State.setArm_setArm]
      exact State.setArm_congr s a _ _ (Arm.endHold_eq_resumed h)
    rw [← hresumed]
    rfl
  obtain ⟨slots, hstate, hstart⟩ := State.tryStrokes_spec (s.setArm a (·.resumed o)) a
  exact ⟨slots, by rw [hend, hstate, State.setArm_setArm], by simpa using hstart⟩

/-! ## An answered change of one arm -/

theorem State.port_done_self (s : State) (c : Caller) :
    (s.done c).port c.port = (s.port c.port).form ⟨c.code, c.tag, .ok, .nothing⟩ :=
  State.port_setPort_self s c.port _

/-- A request that changes one arm and is answered leaves every other arm, every other port and the rest of the
block alone. -/
theorem State.changesOnly_setArm_done (s : State) (a : ArmId) (f : Arm → Arm) (c : Caller) :
    s.changesOnly ((s.setArm a f).done c) (fun q => q == .arm a || q == .port c.port) := by
  refine ⟨rfl, fun q hq => ?_⟩
  cases q with
  | arm b =>
    have hb : b ≠ a := by simpa using hq
    exact State.arm_setArm_of_ne s f hb
  | port p =>
    have hp : p ≠ c.port := by simpa using hq
    exact State.port_setPort_of_ne (s.setArm a f) _ hp
  | _ => rfl

/-! ## RESUME -/

/-- A RESUME that its port takes is served for the arm it names. -/
theorem exec_resume_of_takes {p : Port} {tag : Byte} {a : ArmId} {s : State}
    (h : s.takes ⟨p, tag, 0x04⟩ (.arm a.val)) :
    exec (.resume p tag a.val) s = .next (serveResume ⟨p, tag, 0x04⟩ a s) := by
  have harm : exec (.resume p tag a.val) s =
      .next (s.takeRequest ⟨p, tag, 0x04⟩ (.arm a.val) (serveResume ⟨p, tag, 0x04⟩ (armOf a.val))) :=
    rfl
  rw [harm, State.takeRequest_of_takes _ h, armOf_val]

theorem serveResume_of_not_held {c : Caller} {a : ArmId} {s : State}
    (h : (s.arm a).state.isHeld = false) : serveResume c a s = s.refuse c .wrongState := by
  simp [serveResume, h]

theorem serveResume_lane_of_held {l : LaneId} {tag code : Byte} {a : ArmId} {s : State}
    (h : (s.arm a).state.isHeld = true) :
    serveResume ⟨.lane l, tag, code⟩ a s = laneResume ⟨.lane l, tag, code⟩ a s :=
  if_pos h

theorem serveResume_supervisor_of_held {tag code : Byte} {a : ArmId} {s : State}
    (h : (s.arm a).state.isHeld = true) :
    serveResume ⟨.supervisor, tag, code⟩ a s = supervisorResume ⟨.supervisor, tag, code⟩ a s :=
  if_pos h

theorem ArmState.isHeld_of_eq_held {st : ArmState} {o : HeldFrom} (h : st = .held o) :
    st.isHeld = true := by
  subst h; rfl

theorem supervisorResume_of_absent {c : Caller} {a : ArmId} {s : State}
    (h : HoldSet.has (s.arm a).causes .supervisor = false) : supervisorResume c a s = s.done c := by
  simp [supervisorResume, h]

theorem supervisorResume_of_present {c : Caller} {a : ArmId} {s : State}
    (h : HoldSet.has (s.arm a).causes .supervisor = true) :
    supervisorResume c a s =
      (s.leaveCauses a (HoldSet.drop (s.arm a).causes .supervisor)).done c := by
  simp [supervisorResume, h]

/-- A lane RESUME leaves SUPERVISOR in the set: refused it changes no arm, and else SUPERVISOR is what remains
(R39). -/
theorem laneResume_keeps_supervisor {c : Caller} {a : ArmId} {s : State}
    (h : HoldSet.has (s.arm a).causes .supervisor = true) :
    HoldSet.has ((laneResume c a s).arm a).causes .supervisor = true := by
  unfold laneResume
  cases s.resumeRefusal a with
  | some r => exact h
  | none =>
    have hkept := (HoldSet.has_and_only (s.arm a).causes .supervisor).trans h
    simpa [State.leaveCauses_of_ne_zero s a (HoldSet.ne_zero_of_has hkept)] using hkept

theorem serveResume_lane_keeps_supervisor {l : LaneId} {tag code : Byte} {a : ArmId} {s : State}
    (h : HoldSet.has (s.arm a).causes .supervisor = true) :
    HoldSet.has ((serveResume ⟨.lane l, tag, code⟩ a s).arm a).causes .supervisor = true := by
  cases hheld : (s.arm a).state.isHeld with
  | false => simpa [serveResume_of_not_held hheld] using h
  | true =>
    rw [serveResume_lane_of_held hheld]
    exact laneResume_keeps_supervisor h

/-- Settles O27, by the cases of the cause set: without SUPERVISOR, with other causes beside it, and alone; the
last resumes the arm by `State.leaveCauses_zero`. -/
theorem supervisorResumeRemovesItsCause : Obligations.SupervisorResumeRemovesItsCause := by
  unfold Obligations.SupervisorResumeRemovesItsCause
  refine ⟨fun tag a s htakes => ⟨fun hidle => ?notHeld, fun o hstate => ?held⟩, ?lane⟩
  case notHeld => rw [exec_resume_of_takes htakes, serveResume_of_not_held hidle]
  case held =>
    have hserve : exec (.resume .supervisor tag a.val) s =
        .next (supervisorResume ⟨.supervisor, tag, 0x04⟩ a s) := by
      rw [exec_resume_of_takes htakes,
        serveResume_supervisor_of_held (ArmState.isHeld_of_eq_held hstate)]
    refine ⟨fun habsent => ?_, fun hpresent hrest => ?_, fun hpresent halone => ?_⟩
    · rw [hserve, supervisorResume_of_absent habsent]
    · rw [hserve, supervisorResume_of_present hpresent,
        State.leaveCauses_drop_of_ne_zero s a hrest]
    · obtain ⟨slots, hleave, hstart⟩ := State.leaveCauses_zero hstate
      refine ⟨_, by rw [hserve, supervisorResume_of_present hpresent, halone, hleave], ?_, ?_,
        State.port_done_self _ _, State.changesOnly_setArm_done s a _ _⟩
      · simp
      · simpa using hstart
  case lane =>
    intro tag a s t htakes hpresent hexec
    rw [exec_resume_of_takes htakes] at hexec
    cases hexec
    exact serveResume_lane_keeps_supervisor hpresent

end Sys2Proof.Machine
end

section
/-! PROOFS. The scanner's requests SET SCAN, START SCAN and STOP SCAN (R66, R67). -/

namespace Sys2Proof.Machine

open Sys2Proof

/-! ## The ranges of Table 4-1 -/

theorem within_iff {lo hi n : Nat} : within lo hi n = true ↔ lo ≤ n ∧ n ≤ hi := by
  simp [within]

theorem plausibleLimit_iff {t : Int} : plausibleLimit t = true ↔ -4000 ≤ t ∧ t ≤ 6000 := by
  simp [plausibleLimit]

/-- SET SCAN's check bounds each limit on both sides; with the low limit not above the high, one bound of each
follows from the other limit's. -/
theorem scanSettingsOk_iff {k : ScanSettings} : scanSettingsOk k = true ↔ k.acceptable := by
  simp only [scanSettingsOk, ScanSettings.acceptable, Bool.and_eq_true, within_iff,
    plausibleLimit_iff, decide_eq_true_eq]
  omega

/-! ## SET SCAN -/

/-- A SET SCAN that its port takes is served by R67. -/
theorem exec_setScan_of_takes {p : Port} {tag : Byte} {k : ScanSettings} {s : State}
    (h : s.takes ⟨p, tag, 0x40⟩ .nothing) :
    exec (.setScan p tag k) s = .next (serveSetScan ⟨p, tag, 0x40⟩ k s) :=
  congrArg _ (State.takeRequest_of_takes (serveSetScan ⟨p, tag, 0x40⟩ k) h)

theorem serveSetScan_of_scanning {c : Caller} {k : ScanSettings} {s : State}
    (h : s.scanner.conversion.isSome = true) : serveSetScan c k s = s.refuse c .scanRunning :=
  if_pos h

theorem serveSetScan_of_not_acceptable {c : Caller} {k : ScanSettings} {s : State}
    (h : s.scanner.conversion = none) (hk : ¬ k.acceptable) :
    serveSetScan c k s = s.refuse c .badField := by
  simp [serveSetScan, h, mt scanSettingsOk_iff.mp hk]

theorem serveSetScan_of_acceptable {c : Caller} {k : ScanSettings} {s : State}
    (h : s.scanner.conversion = none) (hk : k.acceptable) :
    serveSetScan c k s = (s.setScanSettings k).done c := by
  simp [serveSetScan, h, scanSettingsOk_iff.mpr hk]

/-! ## START SCAN and STOP SCAN -/

/-- A START SCAN that its port takes is served by R66. -/
theorem exec_startScan_of_takes {p : Port} {tag : Byte} {s : State}
    (h : s.takes ⟨p, tag, 0x41⟩ .nothing) :
    exec (.startScan p tag) s = .next (serveStartScan ⟨p, tag, 0x41⟩ s) :=
  congrArg _ (State.takeRequest_of_takes (serveStartScan ⟨p, tag, 0x41⟩) h)

theorem serveStartScan_of_scanning {c : Caller} {s : State}
    (h : s.scanner.conversion.isSome = true) : serveStartScan c s = s.done c :=
  if_pos h

theorem serveStartScan_of_stopped {c : Caller} {s : State} (h : s.scanner.conversion = none) :
    serveStartScan c s =
      (s.setConversion (some ⟨Fin.ofNat 16 s.scanner.settings.first, s.now⟩)).done c := by
  simp [serveStartScan, h]

/-- A STOP SCAN that its port takes leaves the scanner STOPPED, whether or not it was (R66). -/
theorem exec_stopScan_of_takes {p : Port} {tag : Byte} {s : State}
    (h : s.takes ⟨p, tag, 0x42⟩ .nothing) :
    exec (.stopScan p tag) s = .next ((s.setConversion none).done ⟨p, tag, 0x42⟩) :=
  congrArg _ (State.takeRequest_of_takes (fun s => (s.setConversion none).done ⟨p, tag, 0x42⟩) h)

/-- Settles O41: each request that the supervisor's port takes is served by its own rule, with SET SCAN and START
SCAN split by whether a conversion is in flight and SET SCAN by whether its settings are acceptable. -/
theorem scanRequestsRunTheScanner : Obligations.ScanRequestsRunTheScanner := by
  unfold Obligations.ScanRequestsRunTheScanner
  refine ⟨fun tag k s htakes => ?setScan, fun tag s htakes => ?startScan, fun tag s htakes => ?stopScan⟩
  case setScan =>
    rw [exec_setScan_of_takes htakes]
    refine ⟨fun hscanning => ?_, fun hstopped hbad => ?_, fun hstopped hgood => ?_⟩
    · rw [serveSetScan_of_scanning hscanning]
    · rw [serveSetScan_of_not_acceptable hstopped hbad]
    · rw [serveSetScan_of_acceptable hstopped hgood]
      rfl
  case startScan =>
    rw [exec_startScan_of_takes htakes]
    refine ⟨fun hscanning => ?_, fun hstopped => ?_⟩
    · rw [serveStartScan_of_scanning hscanning]
    · rw [serveStartScan_of_stopped hstopped]
      rfl
  case stopScan => exact exec_stopScan_of_takes htakes

end Sys2Proof.Machine
end

section
/-! PROOFS. AUTHORIZE up to its resolution (R27, R28): its checks, the arm's entry into AUTHORIZING with the request
outstanding on its lane link, and an outcome handed back in the same event; and its resolution by a straight-product
window (R95). -/

namespace Sys2Proof.Machine

open Sys2Proof

/-! ## Straight-product windows -/

theorem xor_and_not_eq_false_iff :
    ∀ x y mask : Bool, ((x ^^ y) && !mask) = false ↔ (mask = false → y = x) := by decide

/-- Two words differ only inside a mask when they agree in every digit that the mask leaves clear. -/
theorem xor_and_not_eq_zero_iff {n : Nat} (x y mask : BitVec n) :
    (x ^^^ y) &&& ~~~mask = 0#n ↔ ∀ i, mask.getLsbD i = false → y.getLsbD i = x.getLsbD i := by
  constructor
  · intro hzero i
    by_cases hi : i < n
    · refine (xor_and_not_eq_false_iff _ _ _).mp ?_
      simpa only [BitVec.getLsbD_and, BitVec.getLsbD_xor, BitVec.getLsbD_not, BitVec.getLsbD_zero, hi,
        decide_true, Bool.true_and] using congrArg (·.getLsbD i) hzero
    · rw [BitVec.getLsbD_of_ge y i (by omega), BitVec.getLsbD_of_ge x i (by omega)]
      exact fun _ => rfl
  · intro hagree
    refine BitVec.eq_of_getLsbD_eq fun i hi => ?_
    simpa only [BitVec.getLsbD_and, BitVec.getLsbD_xor, BitVec.getLsbD_not, BitVec.getLsbD_zero, hi,
      decide_true, Bool.true_and] using (xor_and_not_eq_false_iff _ _ _).mpr (hagree i)

theorem StraightWindow.covers_iff_agrees (w : StraightWindow) (product : Nat) :
    w.covers product = true ↔ w.agrees product := by
  unfold StraightWindow.covers StraightWindow.agrees
  rw [Bool.and_eq_true, decide_eq_true_eq]
  exact and_congr_right fun _ => xor_and_not_eq_zero_iff _ _ _

theorem State.governing_of_governs {s : State} {product : Nat} {w : StraightWindow}
    (h : s.governs product w) : s.governing product = some w := by
  unfold State.governing
  rcases h with ⟨hfirst, rfl⟩ | ⟨hfirst, hsecond, rfl⟩
  · rw [if_pos ((StraightWindow.covers_iff_agrees _ _).mpr hfirst)]
  · rw [if_neg (mt (StraightWindow.covers_iff_agrees _ _).mp hfirst),
      if_pos ((StraightWindow.covers_iff_agrees _ _).mpr hsecond)]

/-! ## The checks of AUTHORIZE -/

theorem Arm.authorizable_iff {arm : Arm} : arm.authorizable = true ↔ ¬ arm.barred := by
  simp [Arm.authorizable, Arm.metersClear, Arm.barred, and_assoc]

theorem State.authorizeRefusal_of_authorizes {s : State} {a : ArmId} {package preset : Nat}
    (h : s.authorizes a package preset) : s.authorizeRefusal a package preset = none := by
  obtain ⟨hidle, hrestart, hload, hconfig, hbarred, hplace, hlow, hhigh, hpackage⟩ := h
  have hfree : s.placeFree (laneOf a) = true := decide_eq_true hplace
  simp [State.authorizeRefusal, within, hidle, hrestart, hload,
    Option.isSome_iff_ne_none.mp hconfig, Arm.authorizable_iff.mpr hbarred, hfree, hlow, hhigh,
    hpackage]

/-! ## Entry into AUTHORIZING -/

/-- An arm as it enters AUTHORIZING: it holds its reservation and the batch of a key (R28). -/
def Arm.authorizing (arm : Arm) (key : Key) (preset : Nat) : Arm :=
  { arm with state := .authorizing, reserved := true, batch := some (newBatch key preset) }

/-- Arm `a` in AUTHORIZING, its request outstanding on the port that asked (R28, R167). -/
def State.beginAuthorize (s : State) (c : Caller) (a : ArmId) (key : Key) (preset : Nat) : State :=
  (s.setArm a (·.authorizing key preset)).holdOutstanding c (.authorize a)

theorem serveAuthorize_of_authorizes {c : Caller} {a : ArmId} {product package preset : Nat}
    {s : State} (h : s.authorizes a package preset) :
    serveAuthorize c a product package preset s =
      (s.beginAuthorize c a ⟨product, package⟩ preset).resolve a ⟨product, package⟩ := by
  unfold serveAuthorize
  rw [State.authorizeRefusal_of_authorizes h]
  rfl

/-- An AUTHORIZE that its port takes is served for the arm it names. -/
theorem exec_authorize_of_takes {p : Port} {tag : Byte} {a : ArmId} {product : Fin 256}
    {package preset : Nat} {s : State} (h : s.takes ⟨p, tag, 0x01⟩ (.arm a.val)) :
    exec (.authorize p tag a.val product package preset) s =
      .next (serveAuthorize ⟨p, tag, 0x01⟩ a product.val package preset s) := by
  have harm : exec (.authorize p tag a.val product package preset) s =
      .next (s.takeRequest ⟨p, tag, 0x01⟩ (.arm a.val)
        (serveAuthorize ⟨p, tag, 0x01⟩ (armOf a.val) product.val package preset)) := rfl
  rw [harm, State.takeRequest_of_takes _ h, armOf_val]

/-- An AUTHORIZE that passes its checks comes to resolution in AUTHORIZING (R27, R28). -/
theorem exec_authorize_of_authorizes {p : Port} {tag : Byte} {a : ArmId} {product : Fin 256}
    {package preset : Nat} {s : State} (htakes : s.takes ⟨p, tag, 0x01⟩ (.arm a.val))
    (hpasses : s.authorizes a package preset) :
    exec (.authorize p tag a.val product package preset) s =
      .next ((s.beginAuthorize ⟨p, tag, 0x01⟩ a ⟨product.val, package⟩ preset).resolve a
        ⟨product.val, package⟩) := by
  rw [exec_authorize_of_takes htakes, serveAuthorize_of_authorizes hpasses]

/-! ## An outcome in the event of the AUTHORIZE -/

/-- A request held on a free port and settled in the same event is answered as if at once. -/
theorem State.settle_holdOutstanding {s : State} {p : Port} {tag code : Byte} (w : Work) (r : Result)
    (b : Body) (hfree : (s.port p).outstanding = none) :
    (s.holdOutstanding ⟨p, tag, code⟩ w).settle p w r b = s.reply ⟨p, tag, code⟩ r b := by
  unfold State.settle State.holdOutstanding State.reply
  rw [State.setPort_setPort]
  refine State.setPort_congr _ _ _ _ ?_
  simp [LinkPort.settle, ← hfree]

/-- An arm changed and answered in the event that brought it into AUTHORIZING: its port keeps no outstanding
request. -/
theorem State.settle_setArm_beginAuthorize {s : State} {p : Port} {tag code : Byte} {a : ArmId}
    (key : Key) (preset : Nat) (f : Arm → Arm) (r : Result) (b : Body)
    (hfree : (s.port p).outstanding = none) :
    ((s.beginAuthorize ⟨p, tag, code⟩ a key preset).setArm a f).settle p (.authorize a) r b =
      (s.setArm a fun arm => f (arm.authorizing key preset)).reply ⟨p, tag, code⟩ r b := by
  have hswap : (s.beginAuthorize ⟨p, tag, code⟩ a key preset).setArm a f =
      ((s.setArm a (·.authorizing key preset)).setArm a f).holdOutstanding ⟨p, tag, code⟩
        (.authorize a) := rfl
  rw [hswap, State.setArm_setArm]
  exact State.settle_holdOutstanding _ _ _ hfree

/-- An arm that fails in the event that brought it into AUTHORIZING is as if it had only entered IDLE (R28). -/
theorem State.failArm_beginAuthorize {s : State} {a : ArmId} {tag code : Byte} (key : Key)
    (preset : Nat) (r : Result) (hfree : (s.port (.lane (laneOf a))).outstanding = none) :
    (s.beginAuthorize ⟨.lane (laneOf a), tag, code⟩ a key preset).failArm a r =
      (s.setArm a Arm.toIdle).reply ⟨.lane (laneOf a), tag, code⟩ r .nothing :=
  State.settle_setArm_beginAuthorize key preset Arm.toIdle r .nothing hfree

/-- An arm with a reservation and a batch is authorized with that batch resolved (R28, R29). -/
theorem State.authorizeArm_of_batch {s : State} {a : ArmId} {batch : Batch}
    (hbatch : (s.arm a).batch = some batch) (hreserved : (s.arm a).reserved = true)
    (snap : Snapshot) (page : Option Nat) :
    s.authorizeArm a snap page =
      (s.setArm a (·.authorizedWith { batch with snapshot := some snap, page := page } s.now
        s.authorizeTimeout)).settle (.lane (laneOf a)) (.authorize a) .ok (.recipe snap) := by
  simp only [State.authorizeArm, State.toAuthorized, State.setArm_setArm]
  refine congrArg (fun t : State => t.settle _ _ _ _) (State.setArm_congr s a _ _ ?_)
  simp [Arm.authorizedWith, Arm.setMeters, Meter.clearIdle, State.timerMs, hbatch, hreserved,
    Nat.mul_assoc]

/-- An arm resolved in the event that brought it into AUTHORIZING is authorized as if at once. -/
theorem State.authorizeArm_beginAuthorize {s : State} {a : ArmId} {tag code : Byte} (key : Key)
    (preset : Nat) (snap : Snapshot) (page : Option Nat)
    (hfree : (s.port (.lane (laneOf a))).outstanding = none) :
    (s.beginAuthorize ⟨.lane (laneOf a), tag, code⟩ a key preset).authorizeArm a snap page =
      (s.setArm a fun arm =>
        arm.authorizedWith (resolvedBatch key preset snap page) s.now s.authorizeTimeout).reply
          ⟨.lane (laneOf a), tag, code⟩ .ok (.recipe snap) := by
  have harm : (s.beginAuthorize ⟨.lane (laneOf a), tag, code⟩ a key preset).arm a =
      (s.arm a).authorizing key preset := State.arm_setArm_self s a (·.authorizing key preset)
  rw [State.authorizeArm_of_batch (congrArg Arm.batch harm) (congrArg Arm.reserved harm)]
  exact State.settle_setArm_beginAuthorize key preset _ _ _ hfree

/-! ## Resolution by a window -/

/-- A governing window ends resolution, before cache, release or additives are looked at (R95, R96). -/
theorem State.resolve_of_governs {s : State} {a : ArmId} {product package : Nat}
    {w : StraightWindow} (h : s.governs product w) :
    s.resolve a ⟨product, package⟩ =
      if w.withheld then s.failArm a .withheld else s.authorizeArm a w.snapshot none := by
  unfold State.resolve
  rw [State.governing_of_governs h]

/-- The windows that govern do not change as the arm enters AUTHORIZING. -/
theorem State.beginAuthorize_governs {s : State} {c : Caller} {a : ArmId} {key : Key}
    {preset product : Nat} {w : StraightWindow} :
    (s.beginAuthorize c a key preset).governs product w ↔ s.governs product w := Iff.rfl

/-- Settles O21: the request comes to resolution in AUTHORIZING, where the governing window alone decides; either
outcome is handed back in the same event. -/
theorem authorizeDeliversAStraightWindow : Obligations.AuthorizeDeliversAStraightWindow := by
  unfold Obligations.AuthorizeDeliversAStraightWindow
  intro tag a product package preset w s htakes hpasses hgoverns
  obtain ⟨-, -, hfree, -⟩ := State.takes_spec htakes
  have hexec := exec_authorize_of_authorizes (product := product) htakes hpasses
  rw [State.resolve_of_governs (State.beginAuthorize_governs.mpr hgoverns)] at hexec
  refine ⟨fun hwithheld => ?_, fun hopen => ?_⟩
  · rw [hexec, if_pos hwithheld, State.failArm_beginAuthorize _ _ _ hfree]
  · rw [hexec, if_neg (ne_true_of_eq_false hopen),
      State.authorizeArm_beginAuthorize _ _ _ _ hfree]
    rfl

end Sys2Proof.Machine
end

section
/-! PROOFS. READ FLAGS and the seen sets of the ports (R171, R172). -/

namespace Sys2Proof.Machine

open Sys2Proof

/-! ## Seen sets -/

/-- No set holds a flag that has been taken out of it. -/
theorem FlagSet.has_without_only_self (fs : FlagSet) (f : Flag) :
    FlagSet.has (FlagSet.without fs (FlagSet.only f)) f = false := by
  have hlt : f.index < 11 := by cases f <;> decide
  simp [FlagSet.has, FlagSet.without, FlagSet.only, hlt]

@[simp] theorem LinkPort.forget_seen_self (lp : LinkPort) (a : ArmId) (f : Flag) :
    (lp.forget a f).seen[a] = FlagSet.without lp.seen[a] (FlagSet.only f) := by
  simp [LinkPort.forget]

/-! ## READ FLAGS -/

/-- A READ FLAGS that its port takes is served by R172. -/
theorem exec_readFlags_of_takes {p : Port} {tag : Byte} {a : ArmId} {s : State}
    (h : s.takes ⟨p, tag, 0x08⟩ (.arm a.val)) :
    exec (.readFlags p tag a.val) s = .next (serveReadFlags ⟨p, tag, 0x08⟩ a s) := by
  have hserve : exec (.readFlags p tag a.val) s =
      .next (serveReadFlags ⟨p, tag, 0x08⟩ (armOf a.val) s) :=
    congrArg _ (State.takeRequest_of_takes (serveReadFlags ⟨p, tag, 0x08⟩ (armOf a.val)) h)
  rw [hserve, armOf_val]

theorem serveReadFlags_lane (l : LaneId) (tag code : Byte) (a : ArmId) (s : State) :
    serveReadFlags ⟨.lane l, tag, code⟩ a s =
      (s.setSeen (.lane l) a (s.arm a).flags).reply ⟨.lane l, tag, code⟩ .ok
        (.flags (s.arm a).flags none) := rfl

theorem serveReadFlags_supervisor (tag code : Byte) (a : ArmId) (s : State) :
    serveReadFlags ⟨.supervisor, tag, code⟩ a s =
      (s.setSeen .supervisor a (s.arm a).flags).reply ⟨.supervisor, tag, code⟩ .ok
        (.flags (s.arm a).flags (some (s.arm a).overrun)) := rfl

/-- Settles O30: the overrun count splits the answer by the link that asks; a flag set later is forgotten by every
port. -/
theorem readFlagsFillsTheSeenSet : Obligations.ReadFlagsFillsTheSeenSet := by
  unfold Obligations.ReadFlagsFillsTheSeenSet
  refine ⟨fun p tag a s htakes => ?answered, fun p a f s => ?forgotten⟩
  case answered =>
    rw [exec_readFlags_of_takes htakes]
    cases p with
    | lane l => rw [serveReadFlags_lane, State.setSeen]
    | supervisor => rw [serveReadFlags_supervisor, State.setSeen]
  case forgotten =>
    rw [State.port_setFlag, LinkPort.forget_seen_self]
    exact FlagSet.has_without_only_self _ f

end Sys2Proof.Machine
end

section
/-! PROOFS. What one event can do, said once: every command is a run of small acts on the state, each with the
condition under which the model performs it. The laws that every step keeps are proved act by act. -/

namespace Sys2Proof.Machine

open Sys2Proof

/-- The responses waiting on a port together with its outstanding request, which R168 bounds by five. -/
def LinkPort.entries (lp : LinkPort) : Nat :=
  lp.transmit.length + (if lp.outstanding.isSome then 1 else 0)

/-! ## What can become of one arm -/

/-- What can become of an arm that neither enters nor leaves the states before admission. -/
inductive Arm.Act (arm : Arm) : Arm → Prop
  | noted (flags : FlagSet) (overrun : Nat) (permissive : Bool) (release : Timer) (totals : Totalizers)
      (finalDone : Bool) (h : overrun ≤ 65535 ∨ overrun = arm.overrun) :
      Arm.Act arm { arm with
        flags := flags, overrun := overrun, permissive := permissive, release := release
        totals := totals, finalDone := finalDone }
  | meters (g e : Meter) (modeG : g.mode = arm.meterG.mode) (modeE : e.mode = arm.meterE.mode)
      (rangeG : arm.meterG.inRange → g.inRange) (rangeE : arm.meterE.inRange → e.inRange) :
      Arm.Act arm { arm with meterG := g, meterE := e }
  | saturates : Arm.Act arm arm.markSaturated
  | drains (t : Timer) (h : arm.state = .closing) : Arm.Act arm { arm with drainTimer := t }
  | configures (c : ArmConfig) (v : Valve) (h : arm.state = .idle) (ok : armConfigOk c = true)
      (hv : v.commanded = arm.valve.commanded) : Arm.Act arm { arm with config := some c, valve := v }
  | drives (v : Valve) (hv : v.commanded = arm.valve.commanded) : Arm.Act arm { arm with valve := v }
  | holds (c : HoldCause) (now : Nat) : Arm.Act arm (arm.takesCause c now)
  | keepsHeld (rest : HoldSet) (h : arm.state.isHeld = true) (hr : rest ≠ 0) :
      Arm.Act arm { arm with causes := rest }
  | resumes (o : HeldFrom) (h : arm.state = .held o) : Arm.Act arm (arm.resumed o)
  | strokes (v : Vector Slot 3) (due : ∀ i : SlotId, v[i].due = arm.slots[i].due)
      (sound : ∀ i : SlotId, arm.slots[i].sound → v[i].sound)
      (ready : arm.state.admitted = false →
        ∀ i : SlotId, arm.slots[i].phase = .ready → v[i].phase = .ready) :
      Arm.Act arm { arm with slots := v }
  | windows (timer : Timer) (start : Option Nat) :
      Arm.Act arm { arm with windowTimer := timer, windowStart := start }
  | computes (limit : Option Nat) (r : TrimRequest) (k : Computed) (h : arm.compute limit r = some k) :
      Arm.Act arm (arm.enter k)
  | flushes (h : arm.state = .delivering) : Arm.Act arm { arm.shutValve with state := .flushing }
  | closes (e : Ending) (now : Nat) (h : arm.state.underway = true) : Arm.Act arm (arm.toClosing e now)
  | drained (h : arm.state = .closing) : Arm.Act arm arm.drained

/-- An arm enters AUTHORIZED with its timer running to `deadline`. -/
def Arm.toAuthorized (arm : Arm) (deadline : Nat) : Arm :=
  { arm.setMeters Meter.clearIdle with state := .authorized, authorizeTimer := some deadline }

/-- An arm takes a snapshot from a page, and its restricted release becomes `release`. -/
def Arm.resolve (arm : Arm) (release : Timer) (snap : Snapshot) (page : Option Nat) : Arm :=
  { arm with
    release := release
    batch := arm.batch.map fun b => { b with snapshot := some snap, page := page } }

/-- An arm enters WAITING_HEADER. -/
def Arm.toWaiting (arm : Arm) : Arm := { arm.setMeters Meter.clearIdle with state := .waitingHeader }

/-- What can become of an arm in one act of a step; `C` says that the step began in a coherent state,
`B` that its AUTHORIZE begins a batch on this arm. -/
inductive Arm.Change (C B : Prop) (arm : Arm) : Arm → Prop
  | same : Arm.Change C B arm arm
  | acts (x : Arm) (h : arm.Act x) : Arm.Change C B arm x
  | resets : Arm.Change C B arm (Arm.reset arm.permissive)
  | loads (t : TotalsBlock) : Arm.Change C B arm (arm.load t)
  | joins (fx : Fixed) (reduced : Bool) (hs : arm.state = .authorized) :
      Arm.Change C B arm (arm.fix fx reduced).toWaiting
  | admits (x : Arm) (number : Nat) (limit : Option Nat) (now : Nat)
      (hs : C → arm.state = .authorized ∨ arm.state = .waitingHeader)
      (hx : x = arm ∨ ∃ fx reduced, x = arm.fix fx reduced) :
      Arm.Change C B arm (x.admission number limit now)
  | requeues (deadline : Nat) (hs : C → arm.state = .waitingHeader) :
      Arm.Change C B arm (arm.toAuthorized deadline)
  | resolves (release : Timer) (snap : Snapshot) (page : Option Nat) (deadline : Nat)
      (hs : C → arm.state = .authorizing) :
      Arm.Change C B arm ((arm.resolve release snap page).toAuthorized deadline)
  | begins (key : Key) (preset : Nat) (snap : Snapshot) (page : Option Nat) (release : Timer)
      (deadline : Nat) (hb : B) (hs : arm.state = .idle) (hc : arm.config.isSome = true) :
      Arm.Change C B arm (((arm.authorizing key preset).resolve release snap page).toAuthorized deadline)
  | waits (key : Key) (preset : Nat) (hb : B) (hs : arm.state = .idle) (hc : arm.config.isSome = true) :
      Arm.Change C B arm (arm.authorizing key preset)
  | idles (hs : C → arm.state.admitted = false) : Arm.Change C B arm arm.toIdle
  | closes (hs : arm.state = .closing) (hr : arm.slotsReady = true) : Arm.Change C B arm arm.toIdle

/-! ## Acts on the state -/

/-- What is known of a step as a whole: whether it began in a coherent state, the arm that its AUTHORIZE begins a
batch on, the arm that leaves the header queue unadmitted, and whether it ends a load. -/
structure Scope where
  coherent : Prop
  begins : Option ArmId
  leaves : Option ArmId
  loads : Prop

/-- An AUTHORIZE of arm `a` passes every test but those of its recipe (R27). -/
structure State.MayBegin (sc : Scope) (s : State) (a : ArmId) : Prop where
  begins : sc.begins = some a
  idle : (s.arm a).state = .idle
  configured : (s.arm a).config.isSome = true
  running : s.restartPending = false
  loaded : ∀ d : Nat, s.load ≠ .loading d
  place : s.placeFree (laneOf a) = true

/-- The acts. `sc.coherent → …` is what an act can count on in a step that began in a coherent state. -/
inductive State.Act (sc : Scope) (s : State) : State → Prop
  | clock (n : Nat) (h : s.now ≤ n) : State.Act sc s { s with now := n }
  | ports (ps : Vector LinkPort 5) (h : ∀ p : Fin 5, ps[p].entries ≤ s.ports[p].entries) :
      State.Act sc s { s with ports := ps }
  | settings (w : Vector StraightWindow 2) (r : Fin 4) (t : Nat) (i : Vector Bool 6) :
      State.Act sc s { s with windows := w, replacement := r, authorizeTimeout := t, inService := i }
  | scanner (k : Scanner) (h : s.probesSound → ∀ ch : Channel, k.records[ch].sound) :
      State.Act sc s { s with scanner := k }
  | monitor (m : Monitor) (h : s.packetsBounded → m.queue.length ≤ 8) :
      State.Act sc s { s with monitor := m }
  | lanes (ls : Vector Lane 4)
      (h : ∀ l : LaneId, (ls[l].records.map (·.record.number)).Sublist
        (s.lanes[l].records.map (·.record.number))) : State.Act sc s { s with lanes := ls }
  | cache (places : Vector (Option CacheEntry) 32)
      (h : ∀ i : Fin 32, ∀ e ∈ places[i], ∃ x ∈ s.cache[i], x.key = e.key) :
      State.Act sc s { s with cache := places }
  | ops (q : List QueuedOp) (k : Option CurrentOp)
      (hw : State.walkOps { s with storeQueue := q, current := k } = s.walkOps)
      (hk : k.bind (·.op.walkKey) = s.current.bind (·.op.walkKey))
      (hc : s.oneCheckpointPerArm → State.oneCheckpointPerArm { s with storeQueue := q }) :
      State.Act sc s { s with storeQueue := q, current := k }
  | starts (w : QueuedOp) (rest : List QueuedOp) (hc : s.current = none)
      (hq : s.storeQueue = w :: rest) : State.Act sc s (s.startOp w.op rest)
  | resets (ps : Vector LinkPort 5) (st : Store)
      (hp : ∀ p : Fin 5, ps[p].entries ≤ s.ports[p].entries)
      (hs : Store.wf s.store = true → Store.wf st = true) : State.Act sc s (s.resetBlocks ps st)
  | finishes (st : Store) (hs : Store.wf s.store = true → Store.wf st = true) :
      State.Act sc s { s with store := st, current := none }
  | walkEnds (key : Key) (st : Store) (places : Vector (Option CacheEntry) 32)
      (hk : s.current.bind (·.op.walkKey) = some key)
      (hs : Store.wf s.store = true → Store.wf st = true)
      (hc : places = s.cache ∨ ∃ e : CacheEntry, e.key = key ∧
        places = s.cache.set (s.fillPlace key) (some e)) :
      State.Act sc s { s with
        store := st, current := none, cache := places
        walks := s.walks.filter fun w => decide (w.key ≠ key) }
  | arm (a : ArmId) (x : Arm) (h : (s.arm a).Act x) : State.Act sc s (s.setArm a fun _ => x)
  | bau (q : List TrimRequest) (k : Option Computation)
      (h : s.oneRequestPerArm → (q.map (·.arm)).Nodup) :
      State.Act sc s { s with arithmeticQueue := q, bau := k }
  | capacity (n : Nat) (h : s.header.granted ≤ n) :
      State.Act sc s { s with header := { s.header with capacity := n } }
  | releases (a : ArmId) :
      State.Act sc s { s with header := { s.header with grants := s.header.grants.set a ⟨0, none⟩ } }
  | unqueues (a : ArmId) (h : sc.leaves = some a) :
      State.Act sc s { s with header := { s.header with queue := s.header.queue.filter (·.arm ≠ a) } }
  | joins (a : ArmId) (fx : Fixed) (reduced : Bool) (request minimum : Nat)
      (hs : (s.arm a).state = .authorized) :
      State.Act sc s ((s.setArm a (·.fix fx reduced)).joinHeader a request minimum)
  | admits (a : ArmId) (x : Arm) (g : Grant)
      (hs : sc.coherent → (s.arm a).state = .authorized ∨ (s.arm a).state = .waitingHeader)
      (hx : x = s.arm a ∨ ∃ fx reduced, x = (s.arm a).fix fx reduced)
      (hg : g.flow = 0 ∨ g.flow ≤ s.header.free) :
      State.Act sc s ((State.takeNumber { s with header := s.header.seat a g } (s.nextNumber a)).setArm
        a fun _ => x.admission (s.nextNumber a) g.limit s.now)
  | requeues (a : ArmId) (deadline : Nat)
      (hs : sc.coherent →
        (s.arm a).state = .waitingHeader ∧ a ∉ s.header.queue.map (·.arm)) :
      State.Act sc s (s.setArm a (·.toAuthorized deadline))
  | resolves (a : ArmId) (release : Timer) (snap : Snapshot) (page : Option Nat) (deadline : Nat)
      (hs : sc.coherent → (s.arm a).state = .authorizing ∧ a ∉ s.waiters) :
      State.Act sc s (s.setArm a fun arm => (arm.resolve release snap page).toAuthorized deadline)
  | idles (a : ArmId)
      (hs : sc.coherent → (s.arm a).state = .idle ∨ (s.arm a).state = .authorized ∨
        (s.arm a).state = .waitingHeader ∧ a ∉ s.header.queue.map (·.arm) ∨
        (s.arm a).state = .authorizing ∧ a ∉ s.waiters) : State.Act sc s (s.toIdle a)
  | begins (a : ArmId) (key : Key) (preset : Nat) (snap : Snapshot) (page : Option Nat)
      (release : Timer) (deadline : Nat) (h : s.MayBegin sc a) :
      State.Act sc s (s.setArm a fun arm =>
        ((arm.authorizing key preset).resolve release snap page).toAuthorized deadline)
  | waits (a : ArmId) (key : Key) (preset : Nat) (h : s.MayBegin sc a)
      (hw : ∃ w ∈ s.walks, w.key = key) :
      State.Act sc s { s.setArm a (·.authorizing key preset) with
        walks := s.walks.map fun w =>
          if w.key = key then { w with waiters := w.waiters ++ [a] } else w }
  | walks (a : ArmId) (key : Key) (preset : Nat) (h : s.MayBegin sc a)
      (hw : ∀ w ∈ s.walks, w.key ≠ key) (hc : s.cached key = none) :
      State.Act sc s { s.setArm a (·.authorizing key preset) with
        walks := s.walks ++ [⟨key, false, [a]⟩]
        storeQueue := s.storeQueue ++ [⟨.walk key, false⟩] }
  | leavesWalks (a : ArmId) : State.Act sc s (s.leaveWalks a)
  | closes (a : ArmId) (r : BatchRecord) (hs : (s.arm a).state = .closing)
      (ready : (s.arm a).slotsReady = true)
      (hr : ∀ b ∈ (s.arm a).batch, r.number = b.number.getD 0) :
      State.Act sc s ((s.setLane (laneOf a) (·.post r)).toIdle a)
  | posts (l : LaneId) (r : BatchRecord) (h : sc.coherent → sc.loads) :
      State.Act sc s (s.setLane l (·.post r))
  | custody (n : Nat) (f : ArmId → TotalsBlock) (ls : Vector Lane 4) (q : List QueuedOp) (h : sc.loads)
      (hw : State.walkOps { s with storeQueue := q } = s.walkOps)
      (hc : s.oneCheckpointPerArm → State.oneCheckpointPerArm { s with storeQueue := q }) :
      State.Act sc s { s with
        batchCounter := n, arms := Vector.ofFn fun a => s.arms[a].load (f a), lanes := ls
        storeQueue := q }
  | restarts (h : s.allIdle = true) : State.Act sc s { s with restartPending := true }
  | loaded (l : LoadState) (h : ∀ d : Nat, l ≠ .loading d) : State.Act sc s { s with load := l }

/-- A run of acts. -/
def State.Run (sc : Scope) : State → State → Prop := Relation.ReflTransGen (State.Act sc)

/-- A response is formed or a request becomes outstanding on one port with room: what a request adds to its port. -/
def State.Asks (s : State) (p : Port) (t : State) : Prop :=
  (s.port p).entries ≤ 4 ∧
    ∃ lp : LinkPort, lp.entries ≤ (s.port p).entries + 1 ∧ t = s.setPort p fun _ => lp

/-- Everything that a step can do: a run of acts, broken at most once by what a request adds to its port. -/
def State.Event (sc : Scope) (s t : State) : Prop :=
  s.Run sc t ∨ ∃ (p : Port) (u v : State), s.Run sc u ∧ u.Asks p v ∧ v.Run sc t

end Sys2Proof.Machine
end

section
/-! PROOFS. What a computation gives, and what becomes of one arm's coherence in one act. -/

namespace Sys2Proof.Machine
open Sys2Proof

/-! ## What a computation gives -/

/-- What an arm holds when a computation is made on it. -/
theorem Arm.compute_eq_some {arm : Arm} {limit : Option Nat} {r : TrimRequest} {k : Computed}
    (h : arm.compute limit r = some k) :
    ∃ b c snap fx, arm.batch = some b ∧ arm.config = some c ∧ b.snapshot = some snap ∧
      b.fixed = some fx ∧ arm.state.admitted = true ∧
      k = computeStages arm.state b snap fx c limit r := by
  unfold Arm.compute at h
  split at h
  · next b c hb hc =>
    split at h
    · next snap fx hs hf =>
      split at h
      · next ha => exact ⟨b, c, snap, fx, hb, hc, hs, hf, ha, by simpa using h.symm⟩
      · simp at h
    · simp at h
  · simp at h

/-- The figures after Stage D, which is performed or passed over (R10). -/
def trimStage (st : ArmState) (fx : Fixed) (p : Params) (m : Figures) : Figures :=
  if trims st fx m then m.trim p else m

/-- The figures of a computation, stage by stage. -/
theorem computeStages_figures (st : ArmState) (b : Batch) (snap : Snapshot) (fx : Fixed)
    (c : ArmConfig) (limit : Option Nat) (r : TrimRequest) :
    (computeStages st b snap fx c limit r).figures =
      if st = .closing then trimStage st fx snap.params (b.figures.measure snap.params c fx r)
      else ((trimStage st fx snap.params (b.figures.measure snap.params c fx r)).flow snap.params c
        b.preset limit (flowRate ((windowVolumes b.figures snap.params c r).grossG +
          (windowVolumes b.figures snap.params c r).grossE) r.duration)).check st snap
        (windowVolumes b.figures snap.params c r) := by
  unfold computeStages trimStage
  split <;> rfl

/-- Trim, flow and checks leave what they do not write as the measuring of the window gave it. -/
theorem computeStages_measured {α : Type} (f : Figures → α) (ht : ∀ g p, f (Figures.trim g p) = f g)
    (hf : ∀ g p c n l r, f (Figures.flow g p c n l r) = f g)
    (hc : ∀ g st snap w, f (Figures.check g st snap w) = f g) (st : ArmState) (b : Batch)
    (snap : Snapshot) (fx : Fixed) (c : ArmConfig) (limit : Option Nat) (r : TrimRequest) :
    f (computeStages st b snap fx c limit r).figures = f (b.figures.measure snap.params c fx r) := by
  have stage : ∀ m, f (trimStage st fx snap.params m) = f m := by
    intro m; unfold trimStage; split
    · exact ht m _
    · rfl
  rw [computeStages_figures]
  split
  · exact stage _
  · rw [hc, hf, stage]

/-- Stage D is performed only where Table 1-3 lets it take effect. -/
theorem computeStages_trimmed (st : ArmState) (b : Batch) (snap : Snapshot) (fx : Fixed)
    (c : ArmConfig) (limit : Option Nat) (r : TrimRequest) :
    (computeStages st b snap fx c limit r).trimmed =
      trims st fx (b.figures.measure snap.params c fx r) := by
  by_cases h : st = .closing
  · have : trims st fx (b.figures.measure snap.params c fx r) = false := by simp [trims, h]
    simp only [computeStages, if_pos h, this]
  · simp only [computeStages, if_neg h]

@[simp] theorem Figures.u_measure (f : Figures) (p : Params) (c : ArmConfig) (fx : Fixed)
    (r : TrimRequest) : (f.measure p c fx r).u = f.u := by
  cases f; rfl

@[simp] theorem Figures.u_flow (f : Figures) (p : Params) (c : ArmConfig) (n : Nat) (l : Option Nat)
    (r : Nat) : (f.flow p c n l r).u = f.u := rfl

@[simp] theorem Figures.u_check (f : Figures) (st : ArmState) (snap : Snapshot) (w : WindowVolumes) :
    (f.check st snap w).u = f.u := rfl

/-- A computation trims u where Stage D is performed and leaves it elsewhere. -/
theorem computeStages_u (st : ArmState) (b : Batch) (snap : Snapshot) (fx : Fixed) (c : ArmConfig)
    (limit : Option Nat) (r : TrimRequest) :
    (computeStages st b snap fx c limit r).figures.u =
      if trims st fx (b.figures.measure snap.params c fx r) then
        trimmedCommand snap.params (b.figures.measure snap.params c fx r).error b.figures.u
      else b.figures.u := by
  have stage : ∀ m : Figures, (trimStage st fx snap.params m).u =
      if trims st fx m then trimmedCommand snap.params m.error m.u else m.u := by
    intro m; unfold trimStage; split <;> rfl
  rw [computeStages_figures]
  split <;> simp only [Figures.u_check, Figures.u_flow, stage, Figures.u_measure]

/-- An arm after a computation. -/
theorem Arm.enter_eq {arm : Arm} {b : Batch} {snap : Snapshot} {c : ArmConfig} (k : Computed)
    (hb : arm.batch = some b) (hs : b.snapshot = some snap) (hc : arm.config = some c) :
    arm.enter k =
      { arm with
        batch := some { b with
          figures := k.entered (lagging snap c (arm.pace snap c (k.figures.vg + k.figures.ve))) }
        slots := arm.pace snap c (k.figures.vg + k.figures.ve)
        totals := advanceTotals arm.totals k.volumes.grossG k.volumes.grossE k.volumes.netG
          k.volumes.netE
        valve := if k.trimmed then { arm.valve with commanded := k.figures.u } else arm.valve } := by
  simp [Arm.enter, Arm.snapshot, Arm.setFigures, hb, hs, hc]

/-! ## Coherence of the arms through the acts -/

theorem HoldSet.only_ne_zero (c : HoldCause) : HoldSet.only c ≠ 0 := by cases c <;> decide

theorem HoldSet.add_ne_zero (hs : HoldSet) (c : HoldCause) : HoldSet.add hs c ≠ 0 := by
  intro h
  refine HoldSet.only_ne_zero c (BitVec.eq_of_getLsbD_eq fun i hi => ?_)
  have := congrArg (fun x => BitVec.getLsbD x i) h
  simp_all [HoldSet.add]

theorem Arm.u_eq (arm : Arm) : arm.u = (arm.batch.map (·.figures.u)).getD 0 := by
  cases h : arm.batch <;> simp [Arm.u, h]

theorem ArmState.admitted_cases {st : ArmState} (h : st.admitted = true) :
    st = .delivering ∨ st = .flushing ∨ (∃ o, st = .held o) ∨ st = .closing := by
  cases st <;> simp_all [ArmState.admitted, ArmState.underway]

theorem ArmState.admitted_of_underway {st : ArmState} (h : st.underway = true) :
    st.admitted = true := by
  cases st <;> simp_all [ArmState.admitted, ArmState.underway]

/-- An act on an arm leaves its state, or goes from one admitted state to another. -/
theorem Arm.Act.state {arm x : Arm} (h : arm.Act x) :
    x.state = arm.state ∨ arm.state.admitted = true ∧ x.state.admitted = true := by
  cases h with
  | holds c now =>
    cases h : arm.state <;> simp [Arm.takesCause, h, ArmState.admitted, ArmState.underway]
  | resumes o h => cases o <;> simp [Arm.resumed, h, ArmState.admitted, ArmState.underway]
  | computes limit r k h =>
    left; unfold Arm.enter; split <;> rfl
  | flushes h => right; simp [h, ArmState.admitted, ArmState.underway]
  | closes e now h => exact .inr ⟨ArmState.admitted_of_underway h, rfl⟩
  | _ => left; rfl

theorem Arm.takesCause_of_not_underway {arm : Arm} (h : arm.state.underway = false) (c : HoldCause)
    (now : Nat) : arm.takesCause c now = arm := by
  cases hs : arm.state <;> simp_all [Arm.takesCause, ArmState.underway]

/-- What coherence says of an admitted arm. -/
theorem Arm.coherent_of_admitted {x : Arm} (ha : x.state.admitted = true)
    (batch : x.batch.isSome = true) (reserved : x.reserved = true) (opened : x.opened = true)
    (configured : x.config.isSome = true) (causes : x.causes ≠ 0 ↔ x.state.isHeld = true)
    (holdTimer : x.holdTimer.isSome = true ↔ x.state.isHeld = true)
    (authorizeTimer : x.authorizeTimer = none)
    (drainTimer : x.drainTimer.isSome = true → x.state = .closing)
    (valveShut : x.state ≠ .delivering → x.u = 0) (commanded : x.valve.commanded = x.u)
    (sameMode : x.meterG.mode = x.meterE.mode)
    (counting : x.state.underway = true → x.meterG.mode = .windowCount) : x.coherent := by
  have hi : x.state ≠ .idle := by rintro h; simp [h, ArmState.admitted, ArmState.underway] at ha
  have hu : x.state ≠ .authorized := by
    rintro h; simp [h, ArmState.admitted, ArmState.underway] at ha
  constructor <;> simp_all

/-- A hold cause leaves an arm coherent. -/
theorem Arm.coherent_takesCause {arm : Arm} (hc : arm.coherent) (c : HoldCause) (now : Nat) :
    (arm.takesCause c now).coherent := by
  have hne := HoldSet.only_ne_zero c
  have hadd := HoldSet.add_ne_zero arm.causes c
  obtain ⟨batch, reserved, opened, configured, causes, holdTimer, authorizeTimer, drainTimer,
    valveShut, commanded, sameMode, counting⟩ := hc
  by_cases hu : arm.state.underway = true
  · have ha := ArmState.admitted_of_underway hu
    refine Arm.coherent_of_admitted ?_ ?_ ?_ ?_ ?_ ?_ ?_ ?_ ?_ ?_ ?_ ?_ ?_ <;>
    rcases ArmState.admitted_cases ha with hs | hs | ⟨o, hs⟩ | hs <;>
    cases hb : arm.batch <;>
    simp_all [Arm.takesCause, ArmState.admitted, ArmState.underway, ArmState.isHeld, Arm.u_eq]
  · rw [Arm.takesCause_of_not_underway (by simpa using hu)]
    constructor <;> assumption

/-- Coherence concerns only what it names. -/
theorem Arm.coherent.congr {arm x : Arm} (hc : arm.coherent) (state : x.state = arm.state := by rfl)
    (batch : x.batch.isSome = arm.batch.isSome := by rfl)
    (reserved : x.reserved = arm.reserved := by rfl) (opened : x.opened = arm.opened := by rfl)
    (config : x.config.isSome = arm.config.isSome := by rfl) (causes : x.causes = arm.causes := by rfl)
    (holdTimer : x.holdTimer.isSome = arm.holdTimer.isSome := by rfl)
    (authorizeTimer : x.authorizeTimer.isSome = arm.authorizeTimer.isSome := by rfl)
    (drainTimer : x.drainTimer.isSome = true → arm.drainTimer.isSome = true ∨ arm.state = .closing := by
      exact Or.inl)
    (u : x.u = arm.u := by rfl) (commanded : x.valve.commanded = arm.valve.commanded := by rfl)
    (modeG : x.meterG.mode = arm.meterG.mode := by rfl)
    (modeE : x.meterE.mode = arm.meterE.mode := by rfl) : x.coherent where
  batch := by rw [batch, state]; exact hc.batch
  reserved := by rw [reserved, state]; exact hc.reserved
  opened := by rw [opened, state]; exact hc.opened
  configured := by rw [config, state]; exact hc.configured
  causes := by rw [causes, state]; exact hc.causes
  holdTimer := by rw [holdTimer, state]; exact hc.holdTimer
  authorizeTimer := by rw [authorizeTimer, state]; exact hc.authorizeTimer
  drainTimer := by rw [state]; exact fun h => (drainTimer h).elim hc.drainTimer id
  valveShut := by rw [u, state]; exact hc.valveShut
  commanded := by rw [u, commanded]; exact hc.commanded
  sameMode := by rw [modeG, modeE]; exact hc.sameMode
  counting := by rw [modeG, state]; exact hc.counting

/-- A computation leaves an arm coherent: it trims u only in DELIVERING, and hands it to the Valve Drive. -/
theorem Arm.coherent_enter {arm : Arm} {limit : Option Nat} {r : TrimRequest} {k : Computed}
    (h : arm.compute limit r = some k) (hc : arm.coherent) : (arm.enter k).coherent := by
  obtain ⟨b, c, snap, fx, hb, hcf, hs, -, -, rfl⟩ := Arm.compute_eq_some h
  rw [Arm.enter_eq _ hb hs hcf]
  have htrim := computeStages_trimmed arm.state b snap fx c limit r
  have hu := computeStages_u arm.state b snap fx c limit r
  have hold : arm.u = b.figures.u := by rw [Arm.u_eq, hb]; rfl
  by_cases ht : trims arm.state fx (b.figures.measure snap.params c fx r) = true
  · have hd : arm.state = .delivering := by
      simp only [trims, Bool.and_eq_true, decide_eq_true_eq] at ht
      exact ht.1.1
    obtain ⟨batch, reserved, opened, configured, causes, holdTimer, authorizeTimer, drainTimer,
      valveShut, commanded, sameMode, counting⟩ := hc
    rw [htrim, ht]
    constructor <;> simp_all [Arm.u_eq, Computed.entered]
  · rw [if_neg ht] at hu
    rw [htrim, if_neg ht]
    refine hc.congr (batch := by simp [hb]) (u := ?_)
    simp [Arm.u_eq, hb, Computed.entered, hu]

/-- An act leaves an arm coherent. -/
theorem Arm.Act.coherent {arm x : Arm} (h : arm.Act x) (hc : arm.coherent) : x.coherent := by
  cases h with
  | holds c now => exact Arm.coherent_takesCause hc c now
  | noted | windows | strokes => exact hc.congr
  | drives v hv => exact hc.congr (commanded := hv)
  | meters g e modeG modeE => exact hc.congr (modeG := modeG) (modeE := modeE)
  | saturates =>
    refine hc.congr (batch := ?_) (u := ?_) <;>
      cases hb : arm.batch <;> simp [Arm.markSaturated, Arm.setFigures, Arm.u_eq, hb]
  | drains t h => exact hc.congr (drainTimer := fun _ => .inr h)
  | computes limit r k h => exact Arm.coherent_enter h hc
  | configures c v h ok hv =>
    have := hc.batch
    obtain ⟨batch, reserved, opened, configured, causes, holdTimer, authorizeTimer, drainTimer,
      valveShut, commanded, sameMode, counting⟩ := hc
    constructor <;> simp_all [Arm.u_eq]
  | keepsHeld rest h hr =>
    obtain ⟨batch, reserved, opened, configured, causes, holdTimer, authorizeTimer, drainTimer,
      valveShut, commanded, sameMode, counting⟩ := hc
    constructor <;> simp_all [Arm.u_eq]
  | resumes o h =>
    obtain ⟨batch, reserved, opened, configured, causes, holdTimer, authorizeTimer, drainTimer,
      valveShut, commanded, sameMode, counting⟩ := hc
    cases hb : arm.batch <;> cases o <;> constructor <;>
      simp_all [Arm.u_eq, Arm.resumed, ArmState.admitted, ArmState.underway, ArmState.isHeld]
  | flushes h =>
    obtain ⟨batch, reserved, opened, configured, causes, holdTimer, authorizeTimer, drainTimer,
      valveShut, commanded, sameMode, counting⟩ := hc
    cases hb : arm.batch <;> constructor <;>
      simp_all [Arm.u_eq, Arm.shutValve, Arm.setFigures, ArmState.admitted, ArmState.underway,
        ArmState.isHeld]
  | closes e now h =>
    obtain ⟨batch, reserved, opened, configured, causes, holdTimer, authorizeTimer, drainTimer,
      valveShut, commanded, sameMode, counting⟩ := hc
    have ha := ArmState.admitted_of_underway h
    have hi : arm.state ≠ .idle := by rintro h; simp [h, ArmState.admitted, ArmState.underway] at ha
    cases hb : arm.batch <;> constructor <;>
      simp_all [Arm.u_eq, Arm.toClosing, Arm.shutValve, Arm.setFigures, ArmState.admitted,
        ArmState.underway, ArmState.isHeld]
  | drained h =>
    obtain ⟨batch, reserved, opened, configured, causes, holdTimer, authorizeTimer, drainTimer,
      valveShut, commanded, sameMode, counting⟩ := hc
    constructor <;>
      simp_all [Arm.u_eq, Arm.drained, Arm.setMeters, Meter.toIdleCount, ArmState.admitted,
        ArmState.underway, ArmState.isHeld]

/-- An arm after the entry into IDLE is coherent. -/
theorem Arm.coherent_toIdle {arm : Arm} (mode : arm.meterG.mode = arm.meterE.mode)
    (shut : arm.valve.commanded = 0) : arm.toIdle.coherent := by
  constructor <;>
    simp_all [Arm.toIdle, Arm.setMeters, Meter.clearIdle, Arm.u_eq, ArmState.admitted,
      ArmState.underway, ArmState.isHeld]

/-- A coherent arm outside DELIVERING has its valve shut. -/
theorem Arm.coherent.shut {arm : Arm} (hc : arm.coherent) (h : arm.state ≠ .delivering) :
    arm.valve.commanded = 0 := hc.commanded.trans (hc.valveShut h)

/-- An arm admitted from AUTHORIZED or from the header queue is coherent. -/
theorem Arm.coherent_admission {arm y : Arm} (hc : arm.coherent)
    (hs : arm.state = .authorized ∨ arm.state = .waitingHeader)
    (hx : y = arm ∨ ∃ fx reduced, y = arm.fix fx reduced) (number : Nat) (limit : Option Nat)
    (now : Nat) : (y.admission number limit now).coherent := by
  have hi : arm.state ≠ .idle := by rintro h; simp [h] at hs
  have hh : arm.state.isHeld = false := by rcases hs with h | h <;> simp [h, ArmState.isHeld]
  have hcl : arm.state ≠ .closing := by rintro h; simp [h] at hs
  have hb : y.batch.isSome = true := by
    rcases hx with rfl | ⟨fx, reduced, rfl⟩ <;> simp [Arm.fix, hc.batch, hi]
  have hr : y.reserved = true ∧ y.config.isSome = true ∧ y.causes = 0 ∧ y.holdTimer = none ∧
      y.drainTimer = none := by
    have := hc.reserved; have := hc.configured; have := hc.causes; have := hc.holdTimer
    have := hc.drainTimer
    rcases hx with rfl | ⟨fx, reduced, rfl⟩ <;> simp_all [Arm.fix]
  obtain ⟨hr, hcf, hca, hh, hd⟩ := hr
  obtain ⟨b, hb⟩ := Option.isSome_iff_exists.mp hb
  constructor <;>
    simp [Arm.admission, Arm.u_eq, Arm.setMeters, Meter.admission, ArmState.admitted,
      ArmState.underway, ArmState.isHeld, hb, hr, hcf, hca, hh, hd]

/-- Whatever becomes of an arm in a step that began coherent, it stays coherent. -/
theorem Arm.Change.coherent {C B : Prop} {arm x : Arm} (h : arm.Change C B x) (C : C)
    (hc : arm.coherent) : x.coherent := by
  cases h with
  | same => exact hc
  | acts x h => exact h.coherent hc
  | resets =>
    constructor <;>
      simp [Arm.reset, Arm.u_eq, Meter.reset, ArmState.admitted, ArmState.underway, ArmState.isHeld]
  | loads t => exact hc.congr
  | joins fx reduced hs =>
    obtain ⟨batch, reserved, opened, configured, causes, holdTimer, authorizeTimer, drainTimer,
      valveShut, commanded, sameMode, counting⟩ := hc
    cases hb : arm.batch <;> constructor <;>
      simp_all [Arm.u_eq, Arm.toWaiting, Arm.fix, Arm.setMeters, Meter.clearIdle, ArmState.admitted,
        ArmState.underway, ArmState.isHeld]
  | admits y number limit now hs hx =>
    exact Arm.coherent_admission hc (hs C) hx number limit now
  | requeues deadline hs =>
    replace hs := hs C
    obtain ⟨batch, reserved, opened, configured, causes, holdTimer, authorizeTimer, drainTimer,
      valveShut, commanded, sameMode, counting⟩ := hc
    constructor <;>
      simp_all [Arm.u_eq, Arm.toAuthorized, Arm.setMeters, Meter.clearIdle, ArmState.admitted,
        ArmState.underway, ArmState.isHeld]
  | resolves release snap page deadline hs =>
    replace hs := hs C
    obtain ⟨batch, reserved, opened, configured, causes, holdTimer, authorizeTimer, drainTimer,
      valveShut, commanded, sameMode, counting⟩ := hc
    cases hb : arm.batch <;> constructor <;>
      simp_all [Arm.u_eq, Arm.resolve, Arm.toAuthorized, Arm.setMeters, Meter.clearIdle,
        ArmState.admitted, ArmState.underway, ArmState.isHeld]
  | begins key preset snap page release deadline hb hs hcf =>
    have := hc.shut (by simp [hs])
    obtain ⟨batch, reserved, opened, configured, causes, holdTimer, authorizeTimer, drainTimer,
      valveShut, commanded, sameMode, counting⟩ := hc
    constructor <;>
      simp_all [Arm.u_eq, Arm.resolve, Arm.toAuthorized, Arm.authorizing, newBatch, Figures.zero,
        Arm.setMeters, Meter.clearIdle, ArmState.admitted, ArmState.underway, ArmState.isHeld]
  | waits key preset hb hs hcf =>
    have := hc.shut (by simp [hs])
    obtain ⟨batch, reserved, opened, configured, causes, holdTimer, authorizeTimer, drainTimer,
      valveShut, commanded, sameMode, counting⟩ := hc
    constructor <;>
      simp_all [Arm.u_eq, Arm.authorizing, newBatch, Figures.zero, ArmState.admitted,
        ArmState.underway, ArmState.isHeld]
  | idles hs =>
    refine Arm.coherent_toIdle hc.sameMode (hc.shut fun h => ?_)
    simp [h, ArmState.admitted, ArmState.underway] at hs
    exact hs C
  | closes hs hr => exact Arm.coherent_toIdle hc.sameMode (hc.shut (by simp [hs]))

/-! ## Coherence of the whole state through the acts -/

theorem State.arm_joins (s : State) (a b : ArmId) (fx : Fixed) (reduced : Bool) (request minimum : Nat) :
    ((s.setArm a (·.fix fx reduced)).joinHeader a request minimum).arm b =
      if b = a then ((s.arm a).fix fx reduced).toWaiting else s.arm b := by
  by_cases h : b = a
  · subst h; simp [State.joinHeader, State.setArm, State.arm, Arm.toWaiting]
  · have : a.val ≠ b.val := fun e => h (Fin.ext e.symm)
    simp [State.joinHeader, State.setArm, State.arm, h, this]

/-- What an act makes of each arm. -/
theorem State.Act.change {sc : Scope} {s t : State} (h : s.Act sc t) (b : ArmId) :
    (s.arm b).Change sc.coherent (sc.begins = some b) (t.arm b) := by
  have set : ∀ (a : ArmId) (f : Arm → Arm), (s.arm a).Change sc.coherent (sc.begins = some a) (f (s.arm a)) →
      (s.arm b).Change sc.coherent (sc.begins = some b) ((s.setArm a f).arm b) := by
    intro a f h
    rw [State.arm_setArm]
    split
    · next e => subst e; exact h
    · exact .same
  cases h with
  | resets ps st => 
    have : (s.resetBlocks ps st).arm b = Arm.reset (s.arm b).permissive := by
      simp [State.arm, State.resetBlocks]
    rw [this]; exact .resets
  | arm a x h => exact set a _ (.acts _ h)
  | joins a fx reduced request minimum hs =>
    rw [State.arm_joins]
    split
    · next e => subst e; exact .joins fx reduced hs
    · exact .same
  | admits a x g hs hx hg => exact set a (fun _ => x.admission (s.nextNumber a) g.limit s.now) (.admits x _ _ _ hs hx)
  | requeues a deadline hs => exact set a _ (.requeues _ fun h => (hs h).1)
  | resolves a release snap page deadline hs => exact set a _ (.resolves _ _ _ _ fun h => (hs h).1)
  | idles a hs =>
    refine set a _ (.idles fun h => ?_)
    rcases hs h with h | h | h | h <;> simp [h, ArmState.admitted, ArmState.underway]
  | begins a key preset snap page release deadline h =>
    exact set a _ (.begins _ _ _ _ _ _ h.begins h.idle h.configured)
  | waits a key preset h hw =>
    exact set a (·.authorizing key preset) (.waits _ _ h.begins h.idle h.configured)
  | walks a key preset h hw hc =>
    exact set a (·.authorizing key preset) (.waits _ _ h.begins h.idle h.configured)
  | closes a r hs ready hr => exact set a _ (.closes hs ready)
  | custody n f ls q h hw hc =>
    have : (State.arm { s with
        batchCounter := n, arms := Vector.ofFn fun a => s.arms[a].load (f a), lanes := ls
        storeQueue := q } b) = (s.arm b).load (f b) := by
      simp [State.arm]
    rw [this]; exact .loads _
  | _ => exact .same

/-- The part of the coherence of the state that every act keeps by itself: the arms, the header queue and the walks
in the directions that need nothing of the keys, and every arm IDLE during a load or a pending restart. -/
structure State.Settled (s : State) : Prop where
  arms : ∀ a : ArmId, (s.arm a).coherent
  queued : ∀ a ∈ s.header.queue.map (·.arm), (s.arm a).state = .waitingHeader
  queueOnce : (s.header.queue.map (·.arm)).Nodup
  waiting : ∀ a ∈ s.waiters, (s.arm a).state = .authorizing
  restarting : s.restartPending = true → s.allIdle = true
  loading : ∀ t : Nat, s.load = .loading t → s.allIdle = true

theorem State.coherent.settled {s : State} (h : s.coherent) : s.Settled :=
  ⟨h.arms, fun a => (h.queue a).mp, h.queueOnce, h.waiting, h.restarting, h.loading⟩

theorem mem_allArms (a : ArmId) : a ∈ allArms := by revert a; decide

theorem State.allIdle_iff (s : State) : s.allIdle = true ↔ ∀ a : ArmId, (s.arm a).state = .idle := by
  simp [State.allIdle, mem_allArms]

end Sys2Proof.Machine
end

section
/-! PROOFS. What a step that began in a coherent state can count on, act by act. -/

namespace Sys2Proof.Machine
open Sys2Proof

@[simp] theorem State.waiters_markCurrent (op : StoreOp) (walks : List WalkEntry) :
    (markCurrent op walks).flatMap (·.waiters) = walks.flatMap (·.waiters) := by
  unfold markCurrent
  split
  · rw [List.flatMap_map]
    refine congrArg (fun f => walks.flatMap f) (funext fun w => ?_)
    split <;> rfl
  · rfl

theorem State.arm_resetBlocks (s : State) (ps : Vector LinkPort 5) (st : Store) (b : ArmId) :
    (s.resetBlocks ps st).arm b = Arm.reset (s.arm b).permissive := by
  simp [State.arm, State.resetBlocks]

theorem State.allIdle_resetBlocks (s : State) (ps : Vector LinkPort 5) (st : Store) :
    (s.resetBlocks ps st).allIdle = true := by
  rw [State.allIdle_iff]; intro a; rw [State.arm_resetBlocks]; rfl

/-- A waiter of a walk list is a waiter of one of its walks. -/
theorem State.mem_waiters {s : State} {a : ArmId} : a ∈ s.waiters ↔ ∃ w ∈ s.walks, a ∈ w.waiters := by
  simp [State.waiters]

/-- The state is settled after one arm's act: acts leave an arm outside the admitted states alone. -/
theorem State.Settled.setArm {s : State} (hs : s.Settled) (a : ArmId) (x : Arm) (hx : x.coherent)
    (state : x.state = (s.arm a).state ∨ (s.arm a).state.admitted = true ∧ x.state.admitted = true) :
    (s.setArm a fun _ => x).Settled := by
  have keep : ∀ (b : ArmId) (st : ArmState), st.admitted = false → (s.arm b).state = st →
      ((s.setArm a fun _ => x).arm b).state = st := by
    intro b st hst hb
    rw [State.arm_setArm]
    split
    · next e =>
      subst e
      rcases state with h | h
      · rw [h, hb]
      · rw [hb, hst] at h; simp at h
    · exact hb
  have idle : s.allIdle = true → (s.setArm a fun _ => x).allIdle = true := fun h =>
    (State.allIdle_iff _).mpr fun b => keep b _ rfl ((State.allIdle_iff s).mp h b)
  refine ⟨fun b => ?_, fun b hb => keep b _ rfl (hs.queued b hb), hs.queueOnce,
    fun b hb => keep b _ rfl (hs.waiting b hb), fun h => idle (hs.restarting h),
    fun d h => idle (hs.loading d h)⟩
  rw [State.arm_setArm]
  split
  · exact hx
  · exact hs.arms b

/-- The state is settled after an arm that is not IDLE, or that may leave IDLE, has gone to another state which the
header queue and the walks allow. -/
theorem State.Settled.moves {s t : State} (hs : s.Settled) (a : ArmId)
    (arms : ∀ b, (t.arm b).coherent) (others : ∀ b, b ≠ a → (t.arm b).state = (s.arm b).state)
    (free : (s.arm a).state ≠ .idle ∨ s.restartPending = false ∧ ∀ d : Nat, s.load ≠ .loading d)
    (restart : t.restartPending = s.restartPending) (load : t.load = s.load)
    (queued : ∀ b ∈ t.header.queue.map (·.arm), b ∈ s.header.queue.map (·.arm) ∧ b ≠ a ∨
      b = a ∧ (t.arm a).state = .waitingHeader)
    (queueOnce : (t.header.queue.map (·.arm)).Nodup)
    (waiting : ∀ b ∈ t.waiters, b ∈ s.waiters ∧ b ≠ a ∨ b = a ∧ (t.arm a).state = .authorizing) :
    t.Settled := by
  have busy : s.restartPending = false ∧ ∀ d : Nat, s.load ≠ .loading d := by
    rcases free with h | h
    · refine ⟨?_, fun d hd => h ((State.allIdle_iff s).mp (hs.loading d hd) a)⟩
      by_contra hr
      exact h ((State.allIdle_iff s).mp (hs.restarting (by simpa using hr)) a)
    · exact h
  refine ⟨arms, fun b hb => ?_, queueOnce, fun b hb => ?_, fun h => ?_, fun d h => ?_⟩
  · rcases queued b hb with ⟨h, ne⟩ | ⟨rfl, h⟩
    · rw [others b ne]; exact hs.queued b h
    · exact h
  · rcases waiting b hb with ⟨h, ne⟩ | ⟨rfl, h⟩
    · rw [others b ne]; exact hs.waiting b h
    · exact h
  · rw [restart, busy.1] at h; simp at h
  · rw [load] at h; exact absurd h (busy.2 d)

/-- Every act of a step that began coherent leaves the state settled. -/
theorem State.Act.settled {sc : Scope} {s t : State} (h : s.Act sc t) (hc : sc.coherent)
    (hs : s.Settled) : t.Settled := by
  have arms : ∀ b, (t.arm b).coherent := fun b => (h.change b).coherent hc (hs.arms b)
  have others : ∀ (a : ArmId) (f : Arm → Arm) (b : ArmId), b ≠ a →
      ((s.setArm a f).arm b).state = (s.arm b).state := by
    intro a f b hb; rw [State.arm_setArm_of_ne s f hb]
  -- an arm that leaves a state keeps the header queue and the walks when it is in neither
  have setArm : ∀ (a : ArmId) (f : Arm → Arm), (∀ b, ((s.setArm a f).arm b).coherent) →
      ((s.arm a).state ≠ .idle ∨ s.restartPending = false ∧ ∀ d : Nat, s.load ≠ .loading d) →
      a ∉ s.header.queue.map (·.arm) → a ∉ s.waiters → (s.setArm a f).Settled := by
    intro a f hf free hq hw
    exact hs.moves a hf (others a f) free rfl rfl (fun b hb => .inl ⟨hb, fun e => hq (e ▸ hb)⟩)
      hs.queueOnce (fun b hb => .inl ⟨hb, fun e => hw (e ▸ hb)⟩)
  have notQueued : ∀ a : ArmId, (s.arm a).state ≠ .waitingHeader → a ∉ s.header.queue.map (·.arm) :=
    fun a h hq => h (hs.queued a hq)
  have notWaiting : ∀ a : ArmId, (s.arm a).state ≠ .authorizing → a ∉ s.waiters :=
    fun a h hq => h (hs.waiting a hq)
  cases h with
  | starts w rest hcur hq =>
    exact ⟨hs.arms, hs.queued, hs.queueOnce, fun a ha => hs.waiting a (by
      simpa [State.waiters, State.startOp] using ha), hs.restarting, hs.loading⟩
  | resets ps st =>
    refine ⟨arms, ?_, ?_, ?_, fun _ => s.allIdle_resetBlocks ps st, fun _ _ => s.allIdle_resetBlocks ps st⟩ <;>
      simp [State.resetBlocks, Header.reset, State.waiters]
  | walkEnds key st places hk hst hcache =>
    refine ⟨hs.arms, hs.queued, hs.queueOnce, fun a ha => ?_, hs.restarting, hs.loading⟩
    obtain ⟨w, hw, ha⟩ := State.mem_waiters.mp ha
    exact hs.waiting a (State.mem_waiters.mpr ⟨w, (List.mem_filter.mp hw).1, ha⟩)
  | arm a x h => exact hs.setArm a x (h.coherent (hs.arms a)) h.state
  | unqueues a h =>
    refine ⟨hs.arms, fun b hb => ?_, ?_, hs.waiting, hs.restarting, hs.loading⟩
    · obtain ⟨p, hp, rfl⟩ := List.mem_map.mp hb
      exact hs.queued _ (List.mem_map.mpr ⟨p, (List.mem_filter.mp hp).1, rfl⟩)
    · exact hs.queueOnce.sublist (List.filter_sublist.map _)
  | joins a fx reduced request minimum ha =>
    have hq := notQueued a (by simp [ha])
    refine hs.moves a arms (fun b hb => ?_) (.inl (by simp [ha])) rfl rfl (fun b hb => ?_) ?_
      (fun b hb => .inl ⟨hb, fun e => notWaiting a (by simp [ha]) (e ▸ hb)⟩)
    · rw [State.arm_joins, if_neg hb]
    · rw [State.arm_joins, if_pos rfl]
      have : b ∈ s.header.queue.map (·.arm) ∨ b = a := by
        simpa [State.joinHeader, State.setArm] using hb
      rcases this with hb | rfl
      · exact .inl ⟨hb, fun e => hq (e ▸ hb)⟩
      · exact .inr ⟨rfl, rfl⟩
    · have : ((s.header.queue ++ [(⟨a, request, minimum⟩ : HeaderPlace)]).map (·.arm)).Nodup := by
        rw [List.map_append, List.nodup_append]
        refine ⟨hs.queueOnce, by simp, ?_⟩
        intro b hb c hc e
        simp at hc
        exact hq (by rw [← hc, ← e]; exact hb)
      exact this
  | admits a x g ha hx hg =>
    have ha := ha hc
    refine hs.moves a arms (others a fun _ => x.admission (s.nextNumber a) g.limit s.now)
      (.inl (by rcases ha with h | h <;> simp [h])) rfl rfl
      (fun b hb => ?_) (hs.queueOnce.sublist (List.filter_sublist.map _))
      (fun b hb => .inl ⟨hb, fun e => notWaiting a (by rcases ha with h | h <;> simp [h]) (e ▸ hb)⟩)
    obtain ⟨p, hp, rfl⟩ := List.mem_map.mp hb
    obtain ⟨hp, hne⟩ := List.mem_filter.mp hp
    exact .inl ⟨List.mem_map.mpr ⟨p, hp, rfl⟩, by simpa using hne⟩
  | requeues a deadline ha =>
    obtain ⟨ha, hq⟩ := ha hc
    exact setArm a _ arms (.inl (by simp [ha])) hq (notWaiting a (by simp [ha]))
  | resolves a release snap page deadline ha =>
    obtain ⟨ha, hw⟩ := ha hc
    exact setArm a _ arms (.inl (by simp [ha])) (notQueued a (by simp [ha])) hw
  | idles a ha =>
    rcases ha hc with ha | ha | ⟨ha, hq⟩ | ⟨ha, hw⟩
    · exact hs.setArm a (s.arm a).toIdle (by simpa only [State.toIdle, State.arm_setArm_self] using arms a)
        (.inl (by rw [ha]; rfl))
    · exact setArm a _ arms (.inl (by simp [ha])) (notQueued a (by simp [ha])) (notWaiting a (by simp [ha]))
    · exact setArm a _ arms (.inl (by simp [ha])) hq (notWaiting a (by simp [ha]))
    · exact setArm a _ arms (.inl (by simp [ha])) (notQueued a (by simp [ha])) hw
  | begins a key preset snap page release deadline h =>
    exact setArm a _ arms (.inr ⟨h.running, h.loaded⟩) (notQueued a (by simp [h.idle]))
      (notWaiting a (by simp [h.idle]))
  | waits a key preset h hw =>
    refine hs.moves a arms (others a (·.authorizing key preset)) (.inr ⟨h.running, h.loaded⟩) rfl rfl
      (fun b hb => .inl ⟨hb, fun e => notQueued a (by simp [h.idle]) (e ▸ hb)⟩) hs.queueOnce
      (fun b hb => ?_)
    obtain ⟨w, hw, hb⟩ := State.mem_waiters.mp hb
    obtain ⟨v, hv, rfl⟩ := List.mem_map.mp hw
    have : b ∈ v.waiters ∨ b = a := by
      split at hb
      · simpa using hb
      · exact .inl hb
    rcases this with hb | rfl
    · have hb : b ∈ s.waiters := State.mem_waiters.mpr ⟨v, hv, hb⟩
      exact .inl ⟨hb, fun e => notWaiting a (by simp [h.idle]) (e ▸ hb)⟩
    · exact .inr ⟨rfl, congrArg Arm.state (State.arm_setArm_self s b (·.authorizing key preset))⟩
  | walks a key preset h hw hcache =>
    refine hs.moves a arms (others a (·.authorizing key preset)) (.inr ⟨h.running, h.loaded⟩) rfl rfl
      (fun b hb => .inl ⟨hb, fun e => notQueued a (by simp [h.idle]) (e ▸ hb)⟩) hs.queueOnce
      (fun b hb => ?_)
    obtain ⟨w, hw, hb⟩ := State.mem_waiters.mp hb
    rcases List.mem_append.mp hw with hw | hw
    · have hb : b ∈ s.waiters := State.mem_waiters.mpr ⟨w, hw, hb⟩
      exact .inl ⟨hb, fun e => notWaiting a (by simp [h.idle]) (e ▸ hb)⟩
    · obtain rfl := List.mem_singleton.mp hw
      obtain rfl := List.mem_singleton.mp hb
      exact .inr ⟨rfl, congrArg Arm.state (State.arm_setArm_self s b (·.authorizing key preset))⟩
  | leavesWalks a =>
    refine ⟨hs.arms, hs.queued, hs.queueOnce, fun b hb => ?_, hs.restarting, hs.loading⟩
    obtain ⟨w, hw, hb⟩ := State.mem_waiters.mp hb
    obtain ⟨v, hv, rfl⟩ := List.mem_map.mp (List.mem_filter.mp hw).1
    exact hs.waiting b (State.mem_waiters.mpr ⟨v, hv, (List.mem_filter.mp hb).1⟩)
  | closes a r ha ready hr =>
    exact hs.moves a arms (others a Arm.toIdle) (.inl (by simp [ha])) rfl rfl
      (fun b hb => .inl ⟨hb, fun e => notQueued a (by simp [ha]) (e ▸ hb)⟩) hs.queueOnce
      (fun b hb => .inl ⟨hb, fun e => notWaiting a (by simp [ha]) (e ▸ hb)⟩)
  | custody n f ls q h hw hcp =>
    have load : ∀ b, (State.arm { s with
        batchCounter := n, arms := Vector.ofFn fun a => s.arms[a].load (f a), lanes := ls
        storeQueue := q } b).state = (s.arm b).state := fun b => by simp [State.arm, Arm.load]
    have idle : s.allIdle = true → State.allIdle { s with
        batchCounter := n, arms := Vector.ofFn fun a => s.arms[a].load (f a), lanes := ls
        storeQueue := q } = true := fun h =>
      (State.allIdle_iff _).mpr fun b => (load b).trans ((State.allIdle_iff s).mp h b)
    exact ⟨arms, fun b hb => (load b).trans (hs.queued b hb), hs.queueOnce,
      fun b hb => (load b).trans (hs.waiting b hb), fun h => idle (hs.restarting h),
      fun d h => idle (hs.loading d h)⟩
  | restarts h =>
    exact ⟨hs.arms, hs.queued, hs.queueOnce, hs.waiting, fun _ => h, hs.loading⟩
  | loaded l h =>
    exact ⟨hs.arms, hs.queued, hs.queueOnce, hs.waiting, hs.restarting, fun d e => absurd e (h d)⟩
  | _ => exact ⟨hs.arms, hs.queued, hs.queueOnce, hs.waiting, hs.restarting, hs.loading⟩

end Sys2Proof.Machine
end

section
/-! PROOFS. The laws that every act keeps: header, store, queues, metering, demand, valve range and counts. -/

namespace Sys2Proof.Machine
open Sys2Proof

/-! ## Laws that every act keeps -/

/-- A law that every act and every response keeps holds after the step when it held before. -/
theorem State.Event.keeps {sc : Scope} {s t : State} (P : State → Prop) (h : s.Event sc t)
    (act : ∀ u v, u.Act sc v → P u → P v) (ask : ∀ u p lp, P u → P (u.setPort p fun _ => lp))
    (hs : P s) : P t := by
  have run : ∀ u v, u.Run sc v → P u → P v := by
    intro u v h hu
    induction h with
    | refl => exact hu
    | tail _ h ih => exact act _ _ h ih
  rcases h with h | ⟨p, u, v, hu, ⟨_, lp, _, rfl⟩, hv⟩
  · exact run s t h hs
  · exact run _ t hv (ask u p lp (run s u hu hs))

/-- An act leaves the queue of waiting commands and never turns the clock back. -/
theorem State.Act.keeps_pending_now {sc : Scope} {s t : State} (h : s.Act sc t) :
    t.pending = s.pending ∧ s.now ≤ t.now := by
  cases h with
  | clock n h => exact ⟨rfl, h⟩
  | _ => exact ⟨rfl, le_refl _⟩

/-! ### The header (R149) -/

/-- The sum of the grants after one of them is written. -/
theorem Header.granted_set (h : Header) (a : ArmId) (g : Grant) (c : Nat) (q : List HeaderPlace) :
    Header.granted ⟨c, h.grants.set a g, q⟩ + h.grants[a].flow = h.granted + g.flow := by
  have key : ∀ (l : List Nat) (i x : Nat) (hi : i < l.length), (l.set i x).sum + l[i] = l.sum + x := by
    intro l
    induction l with
    | nil => intro i x hi; simp at hi
    | cons y l ih =>
      intro i x hi
      cases i with
      | zero => simp; omega
      | succ i => have := ih i x (by simpa using hi); simp; omega
  have := key (h.grants.toList.map (·.flow)) a.val g.flow (by simp)
  simpa [Header.granted, Vector.toList_set, List.map_set] using this

theorem State.Act.keeps_grantsWithinCapacity {sc : Scope} {s t : State} (h : s.Act sc t)
    (hs : s.grantsWithinCapacity) : t.grantsWithinCapacity := by
  unfold State.grantsWithinCapacity at *
  cases h with
  | resets ps st => simp [State.resetBlocks, Header.reset, Header.granted]
  | capacity n h => exact h
  | releases a =>
    have : _ = s.header.granted + 0 :=
      Header.granted_set s.header a ⟨0, none⟩ s.header.capacity s.header.queue
    show Header.granted ⟨s.header.capacity, _, _⟩ ≤ s.header.capacity
    omega
  | admits a x g ha hx hg =>
    have := Header.granted_set s.header a g s.header.capacity (s.header.queue.filter (·.arm ≠ a))
    show Header.granted ⟨s.header.capacity, _, _⟩ ≤ s.header.capacity
    have : g.flow ≤ s.header.capacity - s.header.granted := by
      rcases hg with h | h
      · omega
      · exact h
    omega
  | unqueues | joins => exact hs
  | _ => exact hs

/-! ### The store (R88) -/

theorem State.Act.keeps_storeCanonical {sc : Scope} {s t : State} (h : s.Act sc t)
    (hs : s.storeCanonical) : t.storeCanonical := by
  cases h with
  | resets ps st hp h => exact h hs
  | finishes st h => exact h hs
  | walkEnds key st places hk h => exact h hs
  | _ => exact hs

/-! ### The arithmetic queue and the store queue (R80, R103) -/

theorem State.Act.keeps_oneRequestPerArm {sc : Scope} {s t : State} (h : s.Act sc t)
    (hs : s.oneRequestPerArm) : t.oneRequestPerArm := by
  cases h with
  | resets => exact List.nodup_nil
  | bau q k h => exact h hs
  | _ => exact hs

theorem State.Act.keeps_oneCheckpointPerArm {sc : Scope} {s t : State} (h : s.Act sc t)
    (hs : s.oneCheckpointPerArm) : t.oneCheckpointPerArm := by
  have sublist : ∀ q : List QueuedOp, q.Sublist s.storeQueue →
      State.oneCheckpointPerArm { s with storeQueue := q } := fun q h a =>
    le_trans (h.filter _).length_le (hs a)
  cases h with
  | ops q k hw hk h => exact h hs
  | custody n f ls q h hw hc => exact hc hs
  | starts w rest hc hq => exact sublist rest (by rw [hq]; exact List.sublist_cons_self w rest)
  | resets => intro a; simp [State.resetBlocks]
  | leavesWalks a => exact sublist _ List.filter_sublist
  | walks a key preset h hw hc =>
    intro b
    have : (s.storeQueue ++ [(⟨.walk key, false⟩ : QueuedOp)]).filter (·.op.isCheckpoint b) =
        s.storeQueue.filter (·.op.isCheckpoint b) := by simp [StoreOp.isCheckpoint]
    exact this ▸ hs b
  | _ => exact hs

/-! ### Laws of the arms -/

/-- A law of the arms that every change of an arm keeps is kept by every act. -/
theorem State.Act.keeps_arms {sc : Scope} {s t : State} (h : s.Act sc t) (P : Arm → Prop)
    (change : ∀ a arm x, Arm.Change sc.coherent (sc.begins = some a) arm x → P arm → P x) (hs : ∀ a, P (s.arm a)) (a : ArmId) :
    P (t.arm a) := change a _ _ (h.change a) (hs a)

/-- What every act but a computation keeps of a batch, and the ranges of its check counts. -/
structure Batch.Kept (b b' : Batch) : Prop where
  key : b'.key = b.key
  preset : b'.preset = b.preset
  snapshot : b'.snapshot = b.snapshot
  fixed : b'.fixed = b.fixed
  number : b'.number = b.number
  vg : b'.figures.vg = b.figures.vg
  ve : b'.figures.ve = b.figures.ve
  ng : b'.figures.ng = b.figures.ng
  ne : b'.figures.ne = b.figures.ne
  grossResidueG : b'.figures.grossResidueG = b.figures.grossResidueG
  grossResidueE : b'.figures.grossResidueE = b.figures.grossResidueE
  pulsesG : b'.figures.pulsesG = b.figures.pulsesG
  pulsesE : b'.figures.pulsesE = b.figures.pulsesE
  demand : b'.figures.demand = b.figures.demand
  checks : b.figures.checksInRange → b'.figures.checksInRange

theorem Batch.Kept.refl (b : Batch) : b.Kept b :=
  ⟨rfl, rfl, rfl, rfl, rfl, rfl, rfl, rfl, rfl, rfl, rfl, rfl, rfl, rfl, id⟩

/-- An arm's batch before and after: none in both, or one kept. -/
def Arm.keepsBatch (arm x : Arm) : Prop :=
  ∃ g : Batch → Batch, x.batch = arm.batch.map g ∧ ∀ b : Batch, b.Kept (g b)

theorem Arm.keepsBatch_of_eq {arm x : Arm} (h : x.batch = arm.batch) : arm.keepsBatch x :=
  ⟨id, by simp [h], Batch.Kept.refl⟩

theorem Arm.keepsBatch.kept {arm x : Arm} (h : arm.keepsBatch x) {b' : Batch} (hb : x.batch = some b') :
    ∃ b, arm.batch = some b ∧ b.Kept b' := by
  obtain ⟨g, hg, kept⟩ := h
  obtain ⟨b, hb₀, rfl⟩ := Option.map_eq_some_iff.mp (hg.symm.trans hb)
  exact ⟨b, hb₀, kept b⟩

/-- Every act on an arm but a computation keeps its batch. -/
theorem Arm.Act.keepsBatch {arm x : Arm} (h : arm.Act x) :
    arm.keepsBatch x ∨ ∃ limit r k, arm.compute limit r = some k ∧ x = arm.enter k := by
  cases h with
  | computes limit r k h => exact .inr ⟨limit, r, k, h, rfl⟩
  | saturates => exact .inl ⟨_, rfl, fun _ =>
      ⟨rfl, rfl, rfl, rfl, rfl, rfl, rfl, rfl, rfl, rfl, rfl, rfl, rfl, rfl, id⟩⟩
  | resumes o h =>
    exact .inl ⟨_, rfl, fun _ => ⟨rfl, rfl, rfl, rfl, rfl, rfl, rfl, rfl, rfl, rfl, rfl, rfl, rfl, rfl,
      fun _ => ⟨Nat.zero_le _, Nat.zero_le _, Nat.zero_le _, le_refl _⟩⟩⟩
  | flushes h => exact .inl ⟨_, rfl, fun _ =>
      ⟨rfl, rfl, rfl, rfl, rfl, rfl, rfl, rfl, rfl, rfl, rfl, rfl, rfl, rfl, id⟩⟩
  | closes e now h =>
    refine .inl ⟨fun b => { b with ending := some e, figures := { b.figures with u := 0 } }, ?_,
      fun _ =>
      ⟨rfl, rfl, rfl, rfl, rfl, rfl, rfl, rfl, rfl, rfl, rfl, rfl, rfl, rfl, id⟩⟩
    simp [Arm.toClosing, Arm.shutValve, Arm.setFigures, Function.comp_def]
  | holds c now =>
    left
    cases hs : arm.state with
    | delivering =>
      refine ⟨fun b => { b with figures := { b.figures with uResume := b.figures.u, u := 0 } }, ?_,
        fun _ =>
      ⟨rfl, rfl, rfl, rfl, rfl, rfl, rfl, rfl, rfl, rfl, rfl, rfl, rfl, rfl, id⟩⟩
      simp [Arm.takesCause, hs]
    | _ => exact Arm.keepsBatch_of_eq (by simp [Arm.takesCause, hs])
  | _ => exact .inl (Arm.keepsBatch_of_eq rfl)

/-- An act on an arm leaves its config, or gives an IDLE arm one in range. -/
theorem Arm.Act.config {arm x : Arm} (h : arm.Act x) :
    x.config = arm.config ∨
      arm.state = .idle ∧ x.batch = arm.batch ∧ ∃ c, x.config = some c ∧ armConfigOk c = true := by
  cases h with
  | configures c v h ok hv => exact .inr ⟨h, rfl, c, rfl, ok⟩
  | holds c now => left; cases hs : arm.state <;> simp [Arm.takesCause, hs]
  | computes limit r k h => left; unfold Arm.enter; split <;> rfl
  | _ => exact .inl rfl

/-! ### The metering law (R6) -/

/-- A batch whose figures are still zero obeys the metering law under positive factors. -/
theorem metered_zero {factor : Nat} (h : 0 < factor) : metered factor 0 0 0 := ⟨by simp, h⟩

/-- The volume of one window keeps the metering law of a component (R6). -/
theorem metered_window {factor pulses gross residue : Nat} (more : Nat) (hf : 0 < factor)
    (h : metered factor pulses gross residue) :
    metered factor (pulses + more) (gross + (grossVolume factor more residue).1)
      (grossVolume factor more residue).2 := by
  obtain ⟨h, -⟩ := h
  have split := Nat.div_add_mod' (more * 1000000 + residue) factor
  refine ⟨?_, Nat.mod_lt _ hf⟩
  calc (pulses + more) * 1000000 = gross * factor + (more * 1000000 + residue) := by
        rw [Nat.add_mul, h]; omega
    _ = gross * factor + ((more * 1000000 + residue) / factor * factor +
          (more * 1000000 + residue) % factor) := by rw [split]
    _ = (gross + (more * 1000000 + residue) / factor) * factor +
          (more * 1000000 + residue) % factor := by rw [Nat.add_mul, Nat.add_assoc]

/-- The figures of the metering law, as a computation leaves them. -/
theorem computeStages_meters (st : ArmState) (b : Batch) (snap : Snapshot) (fx : Fixed)
    (c : ArmConfig) (limit : Option Nat) (r : TrimRequest) :
    let f := (computeStages st b snap fx c limit r).figures
    f.pulsesG = b.figures.pulsesG + r.pulsesG ∧ f.pulsesE = b.figures.pulsesE + r.pulsesE ∧
      f.vg = b.figures.vg + (grossVolume c.factorG r.pulsesG b.figures.grossResidueG).1 ∧
      f.ve = b.figures.ve + (grossVolume c.factorE r.pulsesE b.figures.grossResidueE).1 ∧
      f.grossResidueG = (grossVolume c.factorG r.pulsesG b.figures.grossResidueG).2 ∧
      f.grossResidueE = (grossVolume c.factorE r.pulsesE b.figures.grossResidueE).2 := by
  have keep : ∀ f : Figures → Nat, (∀ g p, f (Figures.trim g p) = f g) →
      (∀ g p c n l r, f (Figures.flow g p c n l r) = f g) →
      (∀ g st snap w, f (Figures.check g st snap w) = f g) →
      f (computeStages st b snap fx c limit r).figures = f (b.figures.measure snap.params c fx r) :=
    fun f ht hf hc => computeStages_measured f ht hf hc st b snap fx c limit r
  refine ⟨keep (·.pulsesG) ?_ ?_ ?_, keep (·.pulsesE) ?_ ?_ ?_, keep (·.vg) ?_ ?_ ?_,
    keep (·.ve) ?_ ?_ ?_, keep (·.grossResidueG) ?_ ?_ ?_, keep (·.grossResidueE) ?_ ?_ ?_⟩ <;>
    intros <;> rfl

/-- The figures that the metering law speaks of agree. -/
def Figures.sameMeters (f g : Figures) : Prop :=
  g.pulsesG = f.pulsesG ∧ g.pulsesE = f.pulsesE ∧ g.vg = f.vg ∧ g.ve = f.ve ∧
    g.grossResidueG = f.grossResidueG ∧ g.grossResidueE = f.grossResidueE

theorem Arm.meteringLaw.of_same {arm x : Arm} (hs : arm.meteringLaw)
    (state : x.state = .idle → x.batch = none) (config : x.config = arm.config)
    (same : ∀ b' ∈ x.batch, ∃ b ∈ arm.batch, b.figures.sameMeters b'.figures) : x.meteringLaw := by
  refine ⟨state, fun c hc => ?_⟩
  rw [config] at hc
  obtain ⟨g, e, law⟩ := hs.2 c hc
  refine ⟨g, e, fun b' hb => ?_⟩
  obtain ⟨b, hb, h1, h2, h3, h4, h5, h6⟩ := same b' hb
  rw [h1, h2, h3, h4, h5, h6]
  exact law b hb

theorem Arm.Act.keeps_meteringLaw {arm x : Arm} (h : arm.Act x) (hs : arm.meteringLaw) :
    x.meteringLaw := by
  have idle : x.state = .idle → arm.state = .idle := fun e => by
    rcases h.state with h | ⟨-, h⟩
    · rw [← h, e]
    · rw [e] at h; exact absurd h (by decide)
  rcases h.config with config | ⟨hi, hb, c, hc, ok⟩
  · rcases h.keepsBatch with kept | ⟨limit, r, k, hk, rfl⟩
    · refine hs.of_same (fun e => ?_) config fun b' hb' => ?_
      · obtain ⟨g, hg, -⟩ := kept
        rw [hg, hs.1 (idle e)]; rfl
      · obtain ⟨b, hb, k⟩ := kept.kept hb'
        exact ⟨b, hb, k.pulsesG, k.pulsesE, k.vg, k.ve, k.grossResidueG, k.grossResidueE⟩
    · obtain ⟨b, c, snap, fx, hb, hcf, hsn, -, ha, rfl⟩ := Arm.compute_eq_some hk
      obtain ⟨g, e, law⟩ := hs.2 c hcf
      obtain ⟨lawG, lawE⟩ := law b hb
      obtain ⟨h1, h2, h3, h4, h5, h6⟩ := computeStages_meters arm.state b snap fx c limit r
      rw [Arm.enter_eq _ hb hsn hcf]
      refine ⟨fun e => ?_, fun c' hc' => ?_⟩
      · rw [show arm.state = .idle from e] at ha; exact absurd ha (by decide)
      · obtain rfl : c = c' := by simpa [hcf] using hc'
        refine ⟨g, e, fun b' hb' => ?_⟩
        obtain rfl := Option.some.inj hb'
        simp only [Computed.entered, h1, h2, h3, h4, h5, h6]
        exact ⟨metered_window _ g lawG, metered_window _ e lawE⟩
  · have none : x.batch = none := hb.trans (hs.1 hi)
    refine ⟨fun _ => none, fun c' hc' => ?_⟩
    obtain rfl : c = c' := by simpa [hc] using hc'
    simp only [armConfigOk, within, Bool.and_eq_true, decide_eq_true_eq] at ok
    exact ⟨by omega, by omega, fun b hb => by simp [none] at hb⟩

theorem Arm.Change.keeps_meteringLaw {C B : Prop} {arm x : Arm} (h : arm.Change C B x)
    (hs : arm.meteringLaw) : x.meteringLaw := by
  cases h with
  | same => exact hs
  | acts x h => exact h.keeps_meteringLaw hs
  | resets => exact ⟨fun _ => rfl, fun c hc => absurd hc (by simp [Arm.reset])⟩
  | loads t => exact hs
  | joins fx reduced ha =>
    refine hs.of_same (fun e => absurd e (by simp [Arm.toWaiting])) rfl fun b' hb' => ?_
    obtain ⟨b, hb, rfl⟩ := Option.map_eq_some_iff.mp hb'
    exact ⟨b, hb, rfl, rfl, rfl, rfl, rfl, rfl⟩
  | admits y number limit now ha hx =>
    refine ⟨fun e => absurd e (by simp [Arm.admission]), fun c hc => ?_⟩
    have hc : arm.config = some c := by
      rcases hx with rfl | ⟨fx, reduced, rfl⟩ <;> exact hc
    obtain ⟨g, e, -⟩ := hs.2 c hc
    refine ⟨g, e, fun b' hb => ?_⟩
    obtain ⟨b, -, rfl⟩ := Option.map_eq_some_iff.mp hb
    cases hsn : b.snapshot <;> 
      simpa [Batch.admission, hsn, admissionFigures, Figures.zero] using ⟨metered_zero g, metered_zero e⟩
  | requeues deadline ha =>
    exact hs.of_same (fun e => absurd e (by simp [Arm.toAuthorized])) rfl
      fun b hb => ⟨b, hb, rfl, rfl, rfl, rfl, rfl, rfl⟩
  | resolves release snap page deadline ha =>
    refine hs.of_same (fun e => absurd e (by simp [Arm.toAuthorized])) rfl fun b' hb' => ?_
    obtain ⟨b, hb, rfl⟩ := Option.map_eq_some_iff.mp hb'
    exact ⟨b, hb, rfl, rfl, rfl, rfl, rfl, rfl⟩
  | begins key preset snap page release deadline hb hi hcf =>
    refine ⟨fun e => absurd e (by simp [Arm.toAuthorized]), fun c hc => ?_⟩
    obtain ⟨g, e, law⟩ := hs.2 c hc
    refine ⟨g, e, fun b' hb => ?_⟩
    obtain rfl := Option.some.inj hb
    exact ⟨metered_zero g, metered_zero e⟩
  | waits key preset hb hi hcf =>
    refine ⟨fun e => absurd e (by simp [Arm.authorizing]), fun c hc => ?_⟩
    obtain ⟨g, e, law⟩ := hs.2 c hc
    refine ⟨g, e, fun b' hb => ?_⟩
    obtain rfl := Option.some.inj hb
    exact ⟨metered_zero g, metered_zero e⟩
  | idles | closes =>
    exact ⟨fun _ => rfl, fun c hc => ⟨(hs.2 c hc).1, (hs.2 c hc).2.1, fun b hb => by simp [Arm.toIdle] at hb⟩⟩

/-! ### The demand law (R9) -/

theorem demandAt_le_goal (fx : Fixed) (v : Nat) : demandAt fx v ≤ fx.goal := by
  unfold demandAt; split
  · exact min_le_left _ _
  · exact le_refl _

/-- The demand never falls as the net blend rises (R9). -/
theorem demandAt_mono (fx : Fixed) {v w : Nat} (h : v ≤ w) : demandAt fx v ≤ demandAt fx w := by
  by_cases hw : w < fx.flushStart
  · rw [demandAt, if_pos (lt_of_le_of_lt h hw), demandAt, if_pos hw]
    exact min_le_min_left _ (Nat.div_le_div_right (Nat.mul_le_mul_left _ h))
  · rw [demandAt.eq_1 fx w, if_neg hw]
    exact demandAt_le_goal fx v

/-- The net volumes and the demand, as a computation leaves them. -/
theorem computeStages_demand (st : ArmState) (b : Batch) (snap : Snapshot) (fx : Fixed)
    (c : ArmConfig) (limit : Option Nat) (r : TrimRequest) :
    let f := (computeStages st b snap fx c limit r).figures
    f.ng = b.figures.ng + (windowVolumes b.figures snap.params c r).netG ∧
      f.ne = b.figures.ne + (windowVolumes b.figures snap.params c r).netE ∧
      f.demand = demandAt fx (f.ng + f.ne) := by
  have keep : ∀ f : Figures → Nat, (∀ g p, f (Figures.trim g p) = f g) →
      (∀ g p c n l r, f (Figures.flow g p c n l r) = f g) →
      (∀ g st snap w, f (Figures.check g st snap w) = f g) →
      f (computeStages st b snap fx c limit r).figures = f (b.figures.measure snap.params c fx r) :=
    fun f ht hf hc => computeStages_measured f ht hf hc st b snap fx c limit r
  have hg := keep (·.ng) (fun _ _ => rfl) (fun _ _ _ _ _ _ => rfl) fun _ _ _ _ => rfl
  have he := keep (·.ne) (fun _ _ => rfl) (fun _ _ _ _ _ _ => rfl) fun _ _ _ _ => rfl
  have hd := keep (·.demand) (fun _ _ => rfl) (fun _ _ _ _ _ _ => rfl) fun _ _ _ _ => rfl
  dsimp only
  rw [hg, he, hd]
  exact ⟨rfl, rfl, rfl⟩

theorem Arm.Act.keeps_demandFollows {arm x : Arm} (h : arm.Act x) (hs : arm.demandFollows) :
    x.demandFollows := by
  intro ha b' hb' fx hfx
  have ha : arm.state.admitted = true := by
    rcases h.state with h | ⟨h, -⟩
    · rwa [← h]
    · exact h
  rcases h.keepsBatch with kept | ⟨limit, r, k, hk, rfl⟩
  · obtain ⟨b, hb, k⟩ := kept.kept hb'
    rw [k.demand, k.ng, k.ne]
    exact hs ha b hb fx (k.fixed ▸ hfx)
  · obtain ⟨b, c, snap, fx₀, hb, hcf, hsn, hf, -, rfl⟩ := Arm.compute_eq_some hk
    rw [Arm.enter_eq _ hb hsn hcf] at hb'
    obtain rfl := Option.some.inj hb'
    obtain rfl : fx₀ = fx := Option.some.inj (hf.symm.trans hfx)
    obtain ⟨-, -, hd⟩ := computeStages_demand arm.state b snap fx₀ c limit r
    simp only [Computed.entered]
    rw [hd]
    exact ⟨le_refl _, demandAt_le_goal _ _⟩

theorem Arm.Change.keeps_demandFollows {C B : Prop} {arm x : Arm} (h : arm.Change C B x)
    (hs : arm.demandFollows) : x.demandFollows := by
  cases h with
  | same => exact hs
  | acts x h => exact h.keeps_demandFollows hs
  | loads t => exact hs
  | admits y number limit now ha hx =>
    intro _ b' hb' fx _
    obtain ⟨b, -, rfl⟩ := Option.map_eq_some_iff.mp hb'
    cases hsn : b.snapshot <;> simp [Batch.admission, hsn, admissionFigures, Figures.zero]
  | resets | joins | requeues | resolves | begins | waits | idles | closes =>
    exact fun ha => absurd ha Bool.false_ne_true

/-! ### The valve command (R10) -/

theorem trimmedCommand_within (p : Params) (e : Int) (u : Nat) (h : p.uLo ≤ p.uHi) :
    p.uLo ≤ trimmedCommand p e u ∧ trimmedCommand p e u ≤ p.uHi := by
  unfold trimmedCommand limitTo
  dsimp only
  generalize ((u : Int) + max (-(p.stepLimit : Int)) (min p.stepLimit (-roundDiv (p.gain * e) 1000))) = x
  omega

/-- A valve command that an arm takes over from where its law held: u of a DELIVERING arm becomes u or u_resume, and
u_resume of an arm held from DELIVERING becomes u_resume or u. -/
theorem Arm.valveWithinRange.takesOver {arm x : Arm} (hs : arm.valveWithinRange)
    (h : ∀ b' ∈ x.batch, ∃ b ∈ arm.batch, b'.snapshot = b.snapshot ∧
      (x.state = .delivering → arm.state = .delivering ∧ b'.figures.u = b.figures.u ∨
        arm.state = .held .delivering ∧ b'.figures.u = b.figures.uResume) ∧
      (x.state = .held .delivering → arm.state = .delivering ∧ b'.figures.uResume = b.figures.u ∨
        arm.state = .held .delivering ∧ b'.figures.uResume = b.figures.uResume)) :
    x.valveWithinRange := by
  intro b' hb' snap hsn lo hi
  obtain ⟨b, hb, e, hd, hh⟩ := h b' hb'
  obtain ⟨d, k⟩ := hs b hb snap (e ▸ hsn) lo hi
  refine ⟨fun hx => ?_, fun hx => ?_⟩
  · rcases hd hx with ⟨h, e⟩ | ⟨h, e⟩ <;> rw [e]
    · exact d h
    · exact k h
  · rcases hh hx with ⟨h, e⟩ | ⟨h, e⟩ <;> rw [e]
    · exact d h
    · exact k h

theorem Arm.valveWithinRange.same {arm x : Arm} (hs : arm.valveWithinRange)
    (state : x.state = arm.state) (batch : x.batch = arm.batch) : x.valveWithinRange := by
  unfold Arm.valveWithinRange; rw [state, batch]; exact hs

/-- Outside DELIVERING and the hold from it the law of the valve command says nothing. -/
theorem Arm.valveWithinRange_of_state {x : Arm} (hd : x.state ≠ .delivering)
    (hh : x.state ≠ .held .delivering) : x.valveWithinRange :=
  fun _ _ _ _ _ _ => ⟨fun h => absurd h hd, fun h => absurd h hh⟩

theorem Figures.uResume_measure (f : Figures) (p : Params) (c : ArmConfig) (fx : Fixed)
    (r : TrimRequest) : (f.measure p c fx r).uResume = f.uResume := by
  cases f; rfl

theorem Arm.Act.keeps_valveWithinRange {arm x : Arm} (h : arm.Act x) (hs : arm.valveWithinRange) :
    x.valveWithinRange := by
  cases h with
  | saturates =>
    refine hs.takesOver fun b' hb' => ?_
    obtain ⟨b, hb, rfl⟩ := Option.map_eq_some_iff.mp hb'
    exact ⟨b, hb, rfl, fun h => .inl ⟨h, rfl⟩, fun h => .inr ⟨h, rfl⟩⟩
  | holds c now =>
    cases st : arm.state with
    | delivering =>
      refine hs.takesOver fun b' hb' => ?_
      simp only [Arm.takesCause, st] at hb' ⊢
      obtain ⟨b, hb, rfl⟩ := Option.map_eq_some_iff.mp hb'
      exact ⟨b, hb, rfl, by simp, fun _ => .inl ⟨trivial, rfl⟩⟩
    | flushing => 
      exact Arm.valveWithinRange_of_state (by simp [Arm.takesCause, st]) (by simp [Arm.takesCause, st])
    | _ => exact hs.same (by simp [Arm.takesCause, st]) (by simp [Arm.takesCause, st])
  | resumes o ho =>
    cases o with
    | delivering =>
      refine hs.takesOver fun b' hb' => ?_
      obtain ⟨b, hb, rfl⟩ := Option.map_eq_some_iff.mp hb'
      exact ⟨b, hb, rfl, fun _ => .inr ⟨ho, rfl⟩, by simp [Arm.resumed]⟩
    | flushing => exact Arm.valveWithinRange_of_state (by simp [Arm.resumed]) (by simp [Arm.resumed])
  | computes limit r k hk =>
    obtain ⟨b, c, snap, fx, hb, hcf, hsn, -, -, rfl⟩ := Arm.compute_eq_some hk
    rw [Arm.enter_eq _ hb hsn hcf]
    intro b' hb' snap' hsn' lo hi
    obtain rfl := Option.some.inj hb'
    obtain rfl : snap = snap' := Option.some.inj (hsn.symm.trans hsn')
    obtain ⟨d, k⟩ := hs b hb snap hsn lo hi
    have hu := computeStages_u arm.state b snap fx c limit r
    have hr : (computeStages arm.state b snap fx c limit r).figures.uResume = b.figures.uResume :=
      (computeStages_measured (·.uResume) (fun _ _ => rfl) (fun _ _ _ _ _ _ => rfl)
        (fun _ _ _ _ => rfl) arm.state b snap fx c limit r).trans
        (Figures.uResume_measure _ _ _ _ _)
    refine ⟨fun h => ?_, fun h => ?_⟩
    · simp only [Computed.entered]
      rw [hu]
      split
      · exact trimmedCommand_within _ _ _ (le_trans lo hi)
      · exact d h
    · simp only [Computed.entered]
      rw [hr]; exact k h
  | flushes | closes =>
    exact Arm.valveWithinRange_of_state (by simp [Arm.toClosing]) (by simp [Arm.toClosing])
  | _ => exact hs.same rfl rfl

theorem Arm.Change.keeps_valveWithinRange {C B : Prop} {arm x : Arm} (h : arm.Change C B x)
    (hs : arm.valveWithinRange) : x.valveWithinRange := by
  cases h with
  | same => exact hs
  | acts x h => exact h.keeps_valveWithinRange hs
  | loads t => exact hs
  | admits y number limit now ha hx =>
    intro b' hb' snap hsn lo hi
    refine ⟨fun _ => ?_, fun h => absurd h (by simp [Arm.admission])⟩
    obtain ⟨b, -, rfl⟩ := Option.map_eq_some_iff.mp hb'
    have : b.snapshot = some snap := hsn
    simp only [Batch.admission, this, admissionFigures]
    exact ⟨lo, hi⟩
  | resets | joins | requeues | resolves | begins | waits | idles | closes =>
    exact Arm.valveWithinRange_of_state ArmState.noConfusion ArmState.noConfusion

/-! ### The ranges of the counts (Tables 1-2, 3-1 and 5-1) -/

theorem checkCount_le (count : Nat) (bad : Bool) : (checkCount count bad).1 ≤ 2 := by
  unfold checkCount
  split_ifs <;> simp <;> omega

theorem Figures.checksInRange_measure {f : Figures} (p : Params) (c : ArmConfig) (fx : Fixed)
    (r : TrimRequest) (h : f.checksInRange) : (f.measure p c fx r).checksInRange := by
  have overspeed : (f.measure p c fx r).overspeed = f.overspeed := by cases f; rfl
  have excursion : (f.measure p c fx r).excursion = f.excursion := by cases f; rfl
  have ethanolOnly : (f.measure p c fx r).ethanolOnly = f.ethanolOnly := by cases f; rfl
  have grace : (f.measure p c fx r).grace = f.grace := by cases f; rfl
  unfold Figures.checksInRange
  rw [overspeed, excursion, ethanolOnly, grace]
  exact h

theorem Figures.checksInRange_trim {f : Figures} (p : Params) (h : f.checksInRange) :
    (f.trim p).checksInRange := by
  have overspeed : (f.trim p).overspeed = f.overspeed := by cases f; rfl
  have excursion : (f.trim p).excursion = f.excursion := by cases f; rfl
  have ethanolOnly : (f.trim p).ethanolOnly = f.ethanolOnly := by cases f; rfl
  have grace : (f.trim p).grace = f.grace := by cases f; rfl
  unfold Figures.checksInRange
  rw [overspeed, excursion, ethanolOnly, grace]
  exact h
theorem Figures.checksInRange_flow {f : Figures} (p : Params) (c : ArmConfig) (n : Nat) (l : Option Nat)
    (r : Nat) (h : f.checksInRange) : (f.flow p c n l r).checksInRange := by
  obtain ⟨h1, h2, h3, h4⟩ := h
  refine ⟨h1, h2, h3, ?_⟩
  simp only [Figures.flow]
  split_ifs 
  · exact le_refl _
  · exact h4
theorem Figures.checksInRange_check {f : Figures} (st : ArmState) (snap : Snapshot) (w : WindowVolumes)
    (h : f.checksInRange) : (f.check st snap w).checksInRange := by
  obtain ⟨h1, h2, h3, h4⟩ := h
  refine ⟨?_, ?_, ?_, ?_⟩ <;> simp only [Figures.check]
  · split_ifs
    · omega
    · exact checkCount_le _ _
    · exact h1
  · split_ifs
    · exact checkCount_le _ _
    · exact h2
  · split_ifs
    · exact checkCount_le _ _
    · exact h3
  · split_ifs <;> omega

/-- The check counts stay in range through a computation. -/
theorem computeStages_checks (st : ArmState) (b : Batch) (snap : Snapshot) (fx : Fixed)
    (c : ArmConfig) (limit : Option Nat) (r : TrimRequest) (h : b.figures.checksInRange) :
    (computeStages st b snap fx c limit r).figures.checksInRange := by
  have hm := Figures.checksInRange_measure snap.params c fx r h
  have ht : (trimStage st fx snap.params (b.figures.measure snap.params c fx r)).checksInRange := by
    unfold trimStage; split
    · exact Figures.checksInRange_trim _ hm
    · exact hm
  rw [computeStages_figures]
  split
  · exact ht
  · exact Figures.checksInRange_check _ _ _ (Figures.checksInRange_flow _ _ _ _ _ ht)

/-- A batch after a change has its check counts in range when they were so before, or it starts from zero. -/
theorem Arm.countsInRange.of_same {arm x : Arm} (hs : arm.countsInRange)
    (meters : arm.meterG.inRange → arm.meterE.inRange → x.meterG.inRange ∧ x.meterE.inRange)
    (overrun : x.overrun ≤ 65535 ∨ x.overrun = arm.overrun)
    (batch : ∀ b' ∈ x.batch, b'.figures.checksInRange ∨
      ∃ b ∈ arm.batch, b.figures.checksInRange → b'.figures.checksInRange) : x.countsInRange := by
  obtain ⟨g, e, o, law⟩ := hs
  refine ⟨(meters g e).1, (meters g e).2, ?_, fun b' hb' => ?_⟩
  · rcases overrun with h | h <;> omega
  · rcases batch b' hb' with h | ⟨b, hb, h⟩
    · exact h
    · exact h (law b hb)

theorem Figures.checksInRange_zero : Figures.zero.checksInRange := by
  simp [Figures.checksInRange, Figures.zero]

theorem Meter.inRange_clearIdle {m : Meter} (h : m.inRange) : m.clearIdle.inRange := by
  simp_all [Meter.inRange, Meter.clearIdle]

theorem Meter.inRange_admission {m : Meter} (h : m.inRange) : m.admission.inRange := by
  simp_all [Meter.inRange, Meter.admission]

theorem Meter.inRange_toIdleCount {m : Meter} (h : m.inRange) : m.toIdleCount.inRange := by
  simp_all [Meter.inRange, Meter.toIdleCount]

/-- The meters and the overrun count of an arm through an act. -/
theorem Arm.Act.meters_overrun {arm x : Arm} (h : arm.Act x) :
    (arm.meterG.inRange → arm.meterE.inRange → x.meterG.inRange ∧ x.meterE.inRange) ∧
      (x.overrun ≤ 65535 ∨ x.overrun = arm.overrun) := by
  cases h with
  | noted flags overrun permissive release totals finalDone h => exact ⟨fun g e => ⟨g, e⟩, h⟩
  | meters g e modeG modeE rangeG rangeE => exact ⟨fun g e => ⟨rangeG g, rangeE e⟩, .inr rfl⟩
  | drained h =>
    exact ⟨fun g e => ⟨Meter.inRange_toIdleCount g, Meter.inRange_toIdleCount e⟩, .inr rfl⟩
  | holds c now =>
    cases st : arm.state <;> simp only [Arm.takesCause, st] <;> exact ⟨fun g e => ⟨g, e⟩, .inr trivial⟩
  | computes limit r k h =>
    unfold Arm.enter; split <;> exact ⟨fun g e => ⟨g, e⟩, .inr rfl⟩
  | _ => exact ⟨fun g e => ⟨g, e⟩, .inr rfl⟩

theorem Arm.Act.keeps_countsInRange {arm x : Arm} (h : arm.Act x) (hs : arm.countsInRange) :
    x.countsInRange := by
  obtain ⟨meters, overrun⟩ := h.meters_overrun
  refine hs.of_same meters overrun fun b' hb' => ?_
  rcases h.keepsBatch with kept | ⟨limit, r, k, hk, rfl⟩
  · obtain ⟨b, hb, k⟩ := kept.kept hb'
    exact .inr ⟨b, hb, k.checks⟩
  · obtain ⟨b, c, snap, fx, hb, hcf, hsn, -, -, rfl⟩ := Arm.compute_eq_some hk
    rw [Arm.enter_eq _ hb hsn hcf] at hb'
    obtain rfl := Option.some.inj hb'
    exact .inr ⟨b, hb, computeStages_checks arm.state b snap fx c limit r⟩

theorem Arm.Change.keeps_countsInRange {C B : Prop} {arm x : Arm} (h : arm.Change C B x)
    (hs : arm.countsInRange) : x.countsInRange := by
  have clear : arm.meterG.inRange → arm.meterE.inRange →
      arm.meterG.clearIdle.inRange ∧ arm.meterE.clearIdle.inRange :=
    fun g e => ⟨Meter.inRange_clearIdle g, Meter.inRange_clearIdle e⟩
  cases h with
  | same => exact hs
  | acts x h => exact h.keeps_countsInRange hs
  | resets => simp [Arm.countsInRange, Arm.reset, Meter.reset, Meter.inRange]
  | loads t =>
    have wrap : ∀ n, wrapPulses n ≤ 4294967295 := fun n => by unfold wrapPulses; omega
    refine hs.of_same (fun g e => ?_) (.inr rfl) fun b hb => .inr ⟨b, hb, id⟩
    simp_all [Arm.load, Meter.inRange]
  | joins fx reduced ha =>
    refine hs.of_same clear (.inr rfl) fun b' hb' => ?_
    obtain ⟨b, hb, rfl⟩ := Option.map_eq_some_iff.mp hb'
    exact .inr ⟨b, hb, id⟩
  | admits y number limit now ha hx =>
    refine hs.of_same (fun g e => ?_) ?_ fun b' hb' => ?_
    · rcases hx with rfl | ⟨fx, reduced, rfl⟩ <;>
        exact ⟨Meter.inRange_admission g, Meter.inRange_admission e⟩
    · rcases hx with rfl | ⟨fx, reduced, rfl⟩ <;> exact .inr rfl
    · obtain ⟨b, -, rfl⟩ := Option.map_eq_some_iff.mp hb'
      left
      cases hsn : b.snapshot <;>
        simp [Batch.admission, hsn, admissionFigures, Figures.zero, Figures.checksInRange]
  | requeues deadline ha => exact hs.of_same clear (.inr rfl) fun b hb => .inr ⟨b, hb, id⟩
  | resolves release snap page deadline ha =>
    refine hs.of_same clear (.inr rfl) fun b' hb' => ?_
    obtain ⟨b, hb, rfl⟩ := Option.map_eq_some_iff.mp hb'
    exact .inr ⟨b, hb, id⟩
  | begins key preset snap page release deadline hb hi hcf =>
    refine hs.of_same clear (.inr rfl) fun b' hb' => ?_
    obtain rfl := Option.some.inj hb'
    exact .inl Figures.checksInRange_zero
  | waits key preset hb hi hcf =>
    refine hs.of_same (fun g e => ⟨g, e⟩) (.inr rfl) fun b' hb' => ?_
    obtain rfl := Option.some.inj hb'
    exact .inl Figures.checksInRange_zero
  | idles | closes => exact hs.of_same clear (.inr rfl) fun b hb => by simp [Arm.toIdle] at hb

/-! ### The lines and the probes (R168, R183, Table 4-3) -/

theorem State.Act.keeps_transmitBounded {sc : Scope} {s t : State} (h : s.Act sc t)
    (hs : s.transmitBounded) : t.transmitBounded := by
  cases h with
  | ports ps h => exact fun p => le_trans (h p) (hs p)
  | resets ps st h => exact fun p => le_trans (h p) (hs p)
  | _ => exact hs

theorem State.Act.keeps_packetsBounded {sc : Scope} {s t : State} (h : s.Act sc t)
    (hs : s.packetsBounded) : t.packetsBounded := by
  cases h with
  | monitor m h => exact h hs
  | resets => exact Nat.zero_le _
  | _ => exact hs

theorem ProbeRecord.sound_reset : ProbeRecord.reset.sound := by
  simp [ProbeRecord.sound, ProbeRecord.reset]

theorem State.Act.keeps_probesSound {sc : Scope} {s t : State} (h : s.Act sc t)
    (hs : s.probesSound) : t.probesSound := by
  cases h with
  | scanner k h => exact h hs
  | resets =>
    intro ch
    have : (Scanner.reset.records)[ch] = ProbeRecord.reset := by simp [Scanner.reset]
    exact this.symm ▸ ProbeRecord.sound_reset
  | _ => exact hs

end Sys2Proof.Machine
end

section
/-! PROOFS. The laws that every act keeps: strokes, and a batch from one state to the next. -/

namespace Sys2Proof.Machine
open Sys2Proof

/-! ### Strokes (R19, R126, R127) -/

theorem Arm.slotsReady_iff (arm : Arm) :
    arm.slotsReady = true ↔ ∀ i : SlotId, arm.slots[i].phase = .ready := by
  simp only [Arm.slotsReady, List.all_eq_true, decide_eq_true_eq, Vector.mem_toList_iff,
    Vector.mem_iff_getElem]
  constructor
  · intro h i; exact h _ ⟨i.val, i.isLt, rfl⟩
  · rintro h _ ⟨i, hi, rfl⟩; exact h ⟨i, hi⟩

/-- Strokes due never fall as the gross blend rises (R19). -/
theorem strokesDue_mono {gross more : Nat} (rate strokeVolume : Nat) (h : gross ≤ more) :
    strokesDue gross rate strokeVolume ≤ strokesDue more rate strokeVolume :=
  Nat.div_le_div_right (Nat.mul_le_mul_right _ h)

/-- The strokes law through a change that leaves slots, config and gross blend. -/
theorem Arm.strokesSound.of_same {arm x : Arm} (hs : arm.strokesSound) (slots : x.slots = arm.slots)
    (state : x.state.admitted = arm.state.admitted)
    (batch : x.state.admitted = true → x.config = arm.config ∧ ∀ b' ∈ x.batch, ∃ b ∈ arm.batch,
      b'.snapshot = b.snapshot ∧ b'.figures.vg = b.figures.vg ∧ b'.figures.ve = b.figures.ve) :
    x.strokesSound := by
  obtain ⟨sound, ready, due⟩ := hs
  refine ⟨by rw [slots]; exact sound, fun h => ?_, fun h => ?_⟩
  · rw [Arm.slotsReady, slots]; exact ready (state ▸ h)
  · obtain ⟨config, batch⟩ := batch h
    intro i b' hb' snap hsn c hc ad had
    obtain ⟨b, hb, h1, h2, h3⟩ := batch b' hb'
    rw [h2, h3, slots]
    exact due (state ▸ h) i b hb snap (h1 ▸ hsn) c (config ▸ hc) ad had

theorem Slot.sound_pace {slot : Slot} (hs : slot.sound) (snap : Snapshot) (sc : SlotConfig)
    (gross more : Nat) (h : gross ≤ more)
    (due : ∀ ad ∈ servedAdditive snap sc, slot.due ≤ strokesDue gross ad.rate sc.strokeVolume) :
    (slot.pace snap sc more).sound := by
  unfold Slot.pace
  split
  · next ad had =>
    have := strokesDue_mono ad.rate sc.strokeVolume h
    have := due ad had
    exact ⟨by have := hs.1; simp only; omega, hs.2⟩
  · exact hs

/-- A computation never lowers the gross volumes. -/
theorem computeStages_gross (st : ArmState) (b : Batch) (snap : Snapshot) (fx : Fixed)
    (c : ArmConfig) (limit : Option Nat) (r : TrimRequest) :
    b.figures.vg ≤ (computeStages st b snap fx c limit r).figures.vg ∧
      b.figures.ve ≤ (computeStages st b snap fx c limit r).figures.ve := by
  obtain ⟨-, -, h1, h2, -, -⟩ := computeStages_meters st b snap fx c limit r
  omega

@[simp] theorem Arm.getElem_pace (arm : Arm) (snap : Snapshot) (c : ArmConfig) (gross : Nat)
    (i : SlotId) : (arm.pace snap c gross)[i] = arm.slots[i].pace snap c.slots[i] gross := by
  simp [Arm.pace]

theorem Arm.keeps_strokesSound_enter {arm : Arm} {limit : Option Nat} {r : TrimRequest} {k : Computed}
    (h : arm.compute limit r = some k) (hs : arm.strokesSound) : (arm.enter k).strokesSound := by
  obtain ⟨b, c, snap, fx, hb, hcf, hsn, -, ha, rfl⟩ := Arm.compute_eq_some h
  obtain ⟨h1, h2⟩ := computeStages_gross arm.state b snap fx c limit r
  rw [Arm.enter_eq _ hb hsn hcf]
  obtain ⟨sound, -, due⟩ := hs
  refine ⟨fun i => ?_, fun h => absurd (ha.symm.trans h) (by simp), fun _ => ?_⟩
  · simp only [Arm.getElem_pace]
    exact Slot.sound_pace (sound i) snap c.slots[i] (b.figures.vg + b.figures.ve) _ (by omega)
      fun ad had => due ha i b hb snap hsn c hcf ad had
  · intro i b' hb' snap' hsn' c' hc' ad had
    obtain rfl := Option.some.inj hb'
    obtain rfl : snap = snap' := Option.some.inj (hsn.symm.trans hsn')
    obtain rfl : c = c' := Option.some.inj (hcf.symm.trans hc')
    simp only [Arm.getElem_pace, Slot.pace, Computed.entered]
    rw [Option.mem_def.mp had]

theorem Arm.Act.keeps_strokesSound {arm x : Arm} (h : arm.Act x) (hs : arm.strokesSound) :
    x.strokesSound := by
  have admitted : x.state.admitted = arm.state.admitted := by
    rcases h.state with h | ⟨h, h'⟩
    · rw [h]
    · rw [h, h']
  have notIdle : x.state.admitted = true → arm.state ≠ .idle := by
    rintro hx hi; rw [admitted, hi] at hx; exact absurd hx Bool.false_ne_true
  have same : arm.keepsBatch x → x.slots = arm.slots → x.strokesSound := by
    intro kept slots
    refine hs.of_same slots admitted fun hx => ⟨?_, fun b' hb' => ?_⟩
    · rcases h.config with h | ⟨h, -⟩
      · exact h
      · exact absurd h (notIdle hx)
    · obtain ⟨b, hb, k⟩ := kept.kept hb'
      exact ⟨b, hb, k.snapshot, k.vg, k.ve⟩
  have kept := h.keepsBatch
  cases h with
  | computes limit r k hk => exact Arm.keeps_strokesSound_enter hk hs
  | strokes v due sound ready =>
    obtain ⟨hsound, hready, hdue⟩ := hs
    refine ⟨fun i => sound i (hsound i), fun h => ?_, fun h => ?_⟩
    · rw [Arm.slotsReady_iff]
      exact fun i => ready h i ((Arm.slotsReady_iff arm).mp (hready h) i)
    · intro i b hb snap hsn c hc ad had
      simp only [due i]
      exact hdue h i b hb snap hsn c hc ad had
  | holds c now =>
    rcases kept with kept | ⟨limit, r, k, hk, e⟩
    · exact same kept (by cases st : arm.state <;> simp [Arm.takesCause, st])
    · exact e ▸ Arm.keeps_strokesSound_enter hk hs
  | _ =>
    rcases kept with kept | ⟨limit, r, k, hk, e⟩
    · exact same kept rfl
    · exact e ▸ Arm.keeps_strokesSound_enter hk hs

/-- Outside the admitted states the strokes law asks for sound slots that are all READY. -/
theorem Arm.strokesSound.outside {arm x : Arm} (hs : arm.strokesSound) (slots : x.slots = arm.slots)
    (hx : x.state.admitted = false) (ready : arm.slotsReady = true) : x.strokesSound :=
  ⟨by rw [slots]; exact hs.1, fun _ => by rw [Arm.slotsReady, slots]; exact ready,
    fun h => absurd (hx.symm.trans h) (by simp)⟩

theorem Arm.Change.keeps_strokesSound {C B : Prop} {arm x : Arm} (h : arm.Change C B x) (hC : C)
    (hs : arm.strokesSound) : x.strokesSound := by
  have ready : arm.state.admitted = false → arm.slotsReady = true := hs.2.1
  cases h with
  | same => exact hs
  | acts x h => exact h.keeps_strokesSound hs
  | resets =>
    have : ∀ i : SlotId, (Arm.reset arm.permissive).slots[i] = Slot.reset := fun i => by
      simp [Arm.reset]
    refine ⟨fun i => ?_, fun _ => (Arm.slotsReady_iff _).mpr fun i => ?_,
      fun h => absurd h Bool.false_ne_true⟩ <;> rw [this]
    · simp [Slot.sound, Slot.reset]
    · rfl
  | loads t => exact hs
  | joins fx reduced ha => exact hs.outside rfl rfl (ready (by rw [ha]; rfl))
  | admits y number limit now ha hx =>
    have ready := (Arm.slotsReady_iff arm).mp (ready (by rcases ha hC with h | h <;> rw [h] <;> rfl))
    have slots : ∀ i : SlotId, (y.admission number limit now).slots[i] = arm.slots[i].admission := by
      rcases hx with rfl | ⟨fx, reduced, rfl⟩ <;> intro i <;> simp [Arm.admission, Arm.fix]
    refine ⟨fun i => ?_, fun h => absurd h.symm Bool.false_ne_true, fun _ => ?_⟩
    · have phase : arm.slots[i].admission.phase = .ready := ready i
      rw [slots]
      exact ⟨le_refl _, by rw [phase]; simp [Slot.admission]⟩
    · intro i b hb snap hsn c hc ad had
      rw [slots]; exact Nat.zero_le _
  | requeues deadline ha => exact hs.outside rfl rfl (ready (by rw [ha hC]; rfl))
  | resolves release snap page deadline ha => exact hs.outside rfl rfl (ready (by rw [ha hC]; rfl))
  | begins key preset snap page release deadline hb hi hcf =>
    exact hs.outside rfl rfl (ready (by rw [hi]; rfl))
  | waits key preset hb hi hcf => exact hs.outside rfl rfl (ready (by rw [hi]; rfl))
  | idles ha => exact hs.outside rfl rfl (ready (ha hC))
  | closes ha hr => exact hs.outside rfl rfl hr

/-! ### Volumes and demand within a batch (R2, R9) -/

/-- A batch later on: what is fixed in it stands, and its volumes and its demand have not fallen. -/
structure Batch.Follows (b b' : Batch) : Prop where
  vg : b.figures.vg ≤ b'.figures.vg
  ve : b.figures.ve ≤ b'.figures.ve
  ng : b.figures.ng ≤ b'.figures.ng
  ne : b.figures.ne ≤ b'.figures.ne
  demand : b.figures.demand ≤ b'.figures.demand
  key : b'.key = b.key
  preset : b'.preset = b.preset
  snapshot : b'.snapshot = b.snapshot
  fixed : b'.fixed = b.fixed
  number : b'.number = b.number

theorem Batch.Follows.refl (b : Batch) : b.Follows b := by
  constructor <;> rfl

theorem Batch.Follows.kept {b c d : Batch} (h : b.Follows c) (k : c.Kept d) : b.Follows d where
  vg := k.vg ▸ h.vg
  ve := k.ve ▸ h.ve
  ng := k.ng ▸ h.ng
  ne := k.ne ▸ h.ne
  demand := k.demand ▸ h.demand
  key := k.key.trans h.key
  preset := k.preset.trans h.preset
  snapshot := k.snapshot.trans h.snapshot
  fixed := k.fixed.trans h.fixed
  number := k.number.trans h.number

/-- Since batch `b` was admitted the arm has been IDLE again, or it still holds `b`, further on. -/
def Arm.stillOn (b : Batch) (arm : Arm) : Prop :=
  arm.demandFollows ∧
    (arm.state = .idle ∨ arm.state.admitted = true ∧ ∀ b' ∈ arm.batch, b.Follows b')

theorem Arm.Act.keeps_stillOn {arm x : Arm} (h : arm.Act x) {b : Batch} (hs : arm.stillOn b) :
    x.stillOn b := by
  refine ⟨h.keeps_demandFollows hs.1, ?_⟩
  rcases hs.2 with hi | ⟨ha, follows⟩
  · left
    rcases h.state with h | ⟨h, -⟩
    · rw [h, hi]
    · rw [hi] at h; exact absurd h Bool.false_ne_true
  · right
    refine ⟨?_, fun b' hb' => ?_⟩
    · rcases h.state with h | ⟨-, h⟩
      · rw [h, ha]
      · exact h
    · rcases h.keepsBatch with kept | ⟨limit, r, k, hk, rfl⟩
      · obtain ⟨b₀, hb₀, k⟩ := kept.kept hb'
        exact (follows b₀ hb₀).kept k
      · obtain ⟨b₀, c, snap, fx, hb₀, hcf, hsn, hf, -, rfl⟩ := Arm.compute_eq_some hk
        rw [Arm.enter_eq _ hb₀ hsn hcf] at hb'
        obtain rfl := Option.some.inj hb'
        have f := follows b₀ hb₀
        obtain ⟨hvg, hve⟩ := computeStages_gross arm.state b₀ snap fx c limit r
        obtain ⟨hng, hne, hd⟩ := computeStages_demand arm.state b₀ snap fx c limit r
        obtain ⟨law, -⟩ := hs.1 ha b₀ hb₀ fx hf
        refine ⟨le_trans f.vg hvg, le_trans f.ve hve, ?_, ?_, ?_, f.key, f.preset, f.snapshot,
          f.fixed, f.number⟩ <;> simp only [Computed.entered]
        · have := f.ng; omega
        · have := f.ne; omega
        · rw [hd]
          exact le_trans f.demand (le_trans law (demandAt_mono fx (by omega)))

theorem Arm.Change.keeps_stillOn {C B : Prop} {arm x : Arm} (h : arm.Change C B x) (hC : C)
    (hB : ¬ B) {b : Batch} (hs : arm.stillOn b) : x.stillOn b := by
  have out : ∀ st : ArmState, st.admitted = false → st ≠ .idle → arm.state ≠ st := by
    rintro st ha hi rfl
    rcases hs.2 with h | ⟨h, -⟩
    · exact hi h
    · exact absurd (ha.symm.trans h) Bool.false_ne_true
  refine ⟨h.keeps_demandFollows hs.1, ?_⟩
  cases h with
  | same => exact hs.2
  | acts x h => exact (h.keeps_stillOn hs).2
  | loads t => exact hs.2
  | joins fx reduced ha => exact absurd ha (out _ rfl (by simp))
  | admits y number limit now ha hx =>
    rcases ha hC with ha | ha <;> exact absurd ha (out _ rfl (by simp))
  | requeues deadline ha => exact absurd (ha hC) (out _ rfl (by simp))
  | resolves release snap page deadline ha => exact absurd (ha hC) (out _ rfl (by simp))
  | begins key preset snap page release deadline hb => exact absurd hb hB
  | waits key preset hb => exact absurd hb hB
  | resets | idles | closes => exact .inl rfl

end Sys2Proof.Machine
end

section
/-! PROOFS. The laws that every act keeps: record places. -/

namespace Sys2Proof.Machine
open Sys2Proof

/-! ### Record places (R156) -/

/-- One more element of a list counts when a predicate is switched on at it alone. -/
theorem countP_switch {α : Type} [DecidableEq α] {l : List α} (nodup : l.Nodup) {a : α} (ha : a ∈ l)
    {p q : α → Bool} (same : ∀ x, x ≠ a → p x = q x) (hp : p a = true) (hq : q a = false) :
    l.countP p = l.countP q + 1 := by
  induction l with
  | nil => simp at ha
  | cons y l ih =>
    obtain ⟨hy, nodup⟩ := List.nodup_cons.mp nodup
    by_cases h : y = a
    · subst h
      have : l.countP p = l.countP q :=
        List.countP_congr fun x hx => by rw [same x (fun e => hy (e ▸ hx))]
      rw [List.countP_cons_of_pos hp, List.countP_cons_of_neg (by simp [hq]), this]
    · have hmem : a ∈ l := (List.mem_cons.mp ha).resolve_left fun e => h e.symm
      rw [List.countP_cons, List.countP_cons, same y h, ih nodup hmem]
      omega

theorem State.reservations_eq (s : State) (l : LaneId) :
    s.reservations l = allArms.countP fun a => decide (laneOf a = l) && (s.arm a).reserved := by
  rw [State.reservations, List.countP_eq_length_filter]

/-- Reservations never rise where no arm gains one. -/
theorem State.reservations_le {s t : State} (h : ∀ b, (t.arm b).reserved = true → (s.arm b).reserved = true)
    (l : LaneId) : t.reservations l ≤ s.reservations l := by
  rw [State.reservations_eq, State.reservations_eq]
  refine List.countP_mono_left fun b _ hb => ?_
  simp only [Bool.and_eq_true] at hb ⊢
  exact ⟨hb.1, h b hb.2⟩

/-- One reservation less where arm `a` alone gives its own back. -/
theorem State.reservations_gives {s t : State} (a : ArmId) (others : ∀ b, b ≠ a → (t.arm b).reserved = (s.arm b).reserved)
    (before : (s.arm a).reserved = true) (after : (t.arm a).reserved = false) :
    s.reservations (laneOf a) = t.reservations (laneOf a) + 1 := by
  rw [State.reservations_eq, State.reservations_eq]
  refine countP_switch (by decide) (mem_allArms a) (fun b hb => ?_) (by simp [before]) (by simp [after])
  rw [others b hb]

theorem Arm.Act.reserved {arm x : Arm} (h : arm.Act x) : x.reserved = arm.reserved := by
  cases h with
  | holds c now => cases st : arm.state <;> simp [Arm.takesCause, st]
  | computes limit r k h => unfold Arm.enter; split <;> rfl
  | _ => rfl

/-- An arm gains a reservation only by the AUTHORIZE of the step. -/
theorem Arm.Change.reserved {C B : Prop} {arm x : Arm} (h : arm.Change C B x)
    (hx : x.reserved = true) : arm.reserved = true ∨ B := by
  cases h with
  | acts x h => exact .inl (h.reserved ▸ hx)
  | admits y number limit now ha hy =>
    rcases hy with rfl | ⟨fx, reduced, rfl⟩ <;> exact .inl hx
  | begins key preset snap page release deadline hb => exact .inr hb
  | waits key preset hb => exact .inr hb
  | resets | idles | closes => exact absurd hx Bool.false_ne_true
  | _ => exact .inl hx

/-- Records and reservations stay at most six where neither rises. -/
theorem State.placesBounded.of_le {s t : State} (hs : s.placesBounded)
    (records : ∀ l : LaneId, t.lanes[l].records.length ≤ s.lanes[l].records.length)
    (reserved : ∀ b, (t.arm b).reserved = true → (s.arm b).reserved = true) : t.placesBounded :=
  fun l => le_trans (Nat.add_le_add (records l) (State.reservations_le reserved l)) (hs l)

/-- An AUTHORIZE reserves a place only where one is free (Table 2-4). -/
theorem State.placesBounded.begin {sc : Scope} {s t : State} {a : ArmId} (h : s.MayBegin sc a) (hw : s.Settled)
    (hs : s.placesBounded) (lanes : t.lanes = s.lanes)
    (others : ∀ b, b ≠ a → (t.arm b).reserved = (s.arm b).reserved)
    (after : (t.arm a).reserved = true) : t.placesBounded := by
  have before : (s.arm a).reserved = false := by
    by_contra hr
    exact (hw.arms a).reserved.mp (by simpa using hr) h.idle
  intro l
  by_cases hl : l = laneOf a
  · subst hl
    have := State.reservations_gives a (fun b hb => (others b hb).symm) after before
    have := h.place
    simp only [State.placeFree, decide_eq_true_eq] at this
    rw [lanes]; omega
  · have : t.reservations l = s.reservations l := by
      rw [State.reservations_eq, State.reservations_eq]
      refine List.countP_congr fun b _ => ?_
      by_cases hb : b = a
      · subst hb; simp [show laneOf b ≠ l from fun e => hl e.symm]
      · rw [others b hb]
    rw [lanes, this]; exact hs l

theorem State.records_post (s : State) (l m : LaneId) (r : BatchRecord) :
    ((s.setLane l (·.post r)).lanes[m]).records.length =
      if m = l then s.lanes[m].records.length + 1 else s.lanes[m].records.length := by
  by_cases h : m = l
  · subst h; simp [State.setLane, Lane.post]
  · have : l.val ≠ m.val := fun e => h (Fin.ext e.symm)
    simp [State.setLane, h, this]

theorem State.Act.keeps_placesBounded {sc : Scope} {s t : State} (h : s.Act sc t) (hc : sc.coherent)
    (hl : ¬ sc.loads) (hw : s.Settled) (hs : s.placesBounded) : t.placesBounded := by
  have reserved : ∀ b, sc.begins ≠ some b → (t.arm b).reserved = true → (s.arm b).reserved = true :=
    fun b hb hr => ((h.change b).reserved hr).resolve_right hb
  have others : ∀ (a : ArmId) (f : Arm → Arm) (b : ArmId), b ≠ a →
      ((s.setArm a f).arm b).reserved = (s.arm b).reserved := by
    intro a f b hb; rw [State.arm_setArm_of_ne s f hb]
  have setArm : ∀ (a : ArmId) (f : Arm → Arm),
      ((f (s.arm a)).reserved = true → (s.arm a).reserved = true) → (s.setArm a f).placesBounded := by
    intro a f hf
    refine hs.of_le (fun _ => le_refl _) fun b hb => ?_
    rw [State.arm_setArm] at hb
    split at hb
    · next e => subst e; exact hf hb
    · exact hb
  cases h with
  | lanes ls h =>
    exact hs.of_le (fun l => by simpa using (h l).length_le) fun b hb => hb
  | resets ps st =>
    refine hs.of_le (fun l => ?_) fun b hb => ?_
    · simp [State.resetBlocks, Lane.reset]
    · rw [State.arm_resetBlocks] at hb; exact absurd hb Bool.false_ne_true
  | arm a x h => exact setArm a _ fun hx => h.reserved ▸ hx
  | joins a fx reduced request minimum ha =>
    refine hs.of_le (fun _ => le_refl _) fun b hb => ?_
    rw [State.arm_joins] at hb
    split at hb
    · next e => subst e; exact hb
    · exact hb
  | admits a x g ha hx hg =>
    exact setArm a (fun _ => x.admission (s.nextNumber a) g.limit s.now) fun h => by
      rcases hx with rfl | ⟨fx, reduced, rfl⟩ <;> exact h
  | requeues a deadline ha => exact setArm a _ id
  | resolves a release snap page deadline ha => exact setArm a _ id
  | idles a ha => exact setArm a Arm.toIdle fun h => absurd h Bool.false_ne_true
  | begins a key preset snap page release deadline h =>
    exact hs.begin h hw rfl (others a _) (by rw [State.arm_setArm_self]; rfl)
  | waits a key preset h hk =>
    exact hs.begin h hw rfl (others a (·.authorizing key preset))
      (congrArg Arm.reserved (State.arm_setArm_self s a (·.authorizing key preset)))
  | walks a key preset h hk hcache =>
    exact hs.begin h hw rfl (others a (·.authorizing key preset))
      (congrArg Arm.reserved (State.arm_setArm_self s a (·.authorizing key preset)))
  | closes a r ha ready hr =>
    have gives := State.reservations_gives (s := s) (t := (s.setLane (laneOf a) (·.post r)).toIdle a) a
      (others a Arm.toIdle) ((hw.arms a).reserved.mpr (by simp [ha]))
      (congrArg Arm.reserved (State.arm_setArm_self s a Arm.toIdle))
    intro l
    have hrec := s.records_post (laneOf a) l r
    show ((s.setLane (laneOf a) (·.post r)).lanes[l]).records.length + _ ≤ 6
    rw [hrec]
    split
    · next e => subst e; have := hs (laneOf a); omega
    · refine le_trans (Nat.add_le_add_left (State.reservations_le (s := s) (fun b hb => ?_) l) _) (hs l)
      have hb : ((s.setArm a Arm.toIdle).arm b).reserved = true := hb
      rw [State.arm_setArm] at hb
      split at hb
      · exact absurd hb Bool.false_ne_true
      · exact hb
  | posts l r h => exact absurd (h hc) hl
  | custody n f ls q h => exact absurd h hl
  | _ => exact hs

end Sys2Proof.Machine
end

section
/-! PROOFS. Batch numbers: when they are apart, and why a free one is found. -/

namespace Sys2Proof.Machine
open Sys2Proof

/-! ### Batch numbers (R153) -/

/-- The batch numbers of a lane's queued records. -/
def State.laneNumbers (s : State) (l : LaneId) : List Nat := s.lanes[l].records.map (·.record.number)

/-- The batch numbers apart, place by place. -/
structure State.NumbersApart (s : State) : Prop where
  within : ∀ l : LaneId, (s.laneNumbers l).Nodup
  between : ∀ (l m : LaneId) (n : Nat), n ∈ s.laneNumbers l → n ∈ s.laneNumbers m → l = m
  batches : ∀ (a b : ArmId) (n : Nat), (s.arm a).openNumber = some n → (s.arm b).openNumber = some n → a = b
  apart : ∀ (a : ArmId) (l : LaneId) (n : Nat), (s.arm a).openNumber = some n → n ∉ s.laneNumbers l
  numbered : ∀ a : ArmId, (s.arm a).opened = true → (s.arm a).openNumber.isSome = true

theorem State.lanes_toList (s : State) : s.lanes.toList = allLanes.map fun l => s.lanes[l] := by
  refine List.ext_getElem (by simp [allLanes]) fun i h _ => ?_
  have : i < 4 := by simpa using h
  have : i = 0 ∨ i = 1 ∨ i = 2 ∨ i = 3 := by omega
  rcases this with rfl | rfl | rfl | rfl <;> simp [allLanes]

theorem mem_allLanes (l : LaneId) : l ∈ allLanes := by revert l; decide

theorem State.heldNumbers_eq (s : State) :
    s.heldNumbers = allLanes.flatMap s.laneNumbers ++ allArms.filterMap fun a => (s.arm a).openNumber := by
  rw [State.heldNumbers, State.lanes_toList, List.flatMap_map]
  rfl

theorem pairwise_forall {α : Type} {R : α → α → Prop} (symm : ∀ a b, R a b → R b a) {l : List α}
    (h : l.Pairwise R) {a b : α} (ha : a ∈ l) (hb : b ∈ l) (hne : a ≠ b) : R a b :=
  haveI : Std.Symm R := ⟨symm⟩
  h.forall ha hb hne

theorem nodup_flatMap_laneNumbers (s : State) :
    (allLanes.flatMap s.laneNumbers).Nodup ↔
      (∀ l, (s.laneNumbers l).Nodup) ∧
        ∀ (l m : LaneId) (n : Nat), n ∈ s.laneNumbers l → n ∈ s.laneNumbers m → l = m := by
  have pairwise : allLanes.Pairwise (Function.onFun List.Disjoint s.laneNumbers) ↔
      ∀ l m : LaneId, l ≠ m → List.Disjoint (s.laneNumbers l) (s.laneNumbers m) := by
    constructor
    · intro h l m hne
      exact pairwise_forall (R := Function.onFun List.Disjoint s.laneNumbers)
        (fun _ _ h => List.Disjoint.symm h) h (mem_allLanes l) (mem_allLanes m) hne
    · intro h
      exact (show allLanes.Nodup by decide).imp fun {l m} hne => h l m hne
  rw [List.nodup_flatMap, pairwise]
  refine and_congr ⟨fun h l => h l (mem_allLanes l), fun h l _ => h l⟩ ⟨fun h l m n hl hm => ?_, fun h l m hne n hl hm => hne (h l m n hl hm)⟩
  by_contra hne
  exact h l m hne hl hm

theorem State.numbersDistinct_iff (s : State) : s.numbersDistinct ↔ s.NumbersApart := by
  have open_ : (allArms.filterMap fun a => (s.arm a).openNumber).Nodup ↔
      ∀ (a b : ArmId) (n : Nat), (s.arm a).openNumber = some n → (s.arm b).openNumber = some n → a = b := by
    constructor
    · intro h a b n ha hb
      by_contra hne
      have := pairwise_forall
        (R := fun a b => ∀ x, (s.arm a).openNumber = some x → ∀ y, (s.arm b).openNumber = some y → x ≠ y)
        (fun _ _ h x hx y hy => (h y hy x hx).symm) (List.pairwise_filterMap.mp h) (mem_allArms a)
        (mem_allArms b) hne
      exact this n ha n hb rfl
    · intro h
      refine List.pairwise_filterMap.mpr ((show allArms.Nodup by decide).imp fun {a b} hne x hx y hy e => ?_)
      subst e
      exact hne (h a b x hx hy)
  rw [State.numbersDistinct, State.heldNumbers_eq, List.nodup_append, nodup_flatMap_laneNumbers, open_]
  constructor
  · rintro ⟨⟨⟨h1, h2⟩, h3, h4⟩, h5⟩
    refine ⟨h1, h2, h3, fun a l n ha hn => ?_, h5⟩
    exact h4 n (List.mem_flatMap.mpr ⟨l, mem_allLanes l, hn⟩) n
      (List.mem_filterMap.mpr ⟨a, mem_allArms a, ha⟩) rfl
  · rintro ⟨h1, h2, h3, h4, h5⟩
    refine ⟨⟨⟨h1, h2⟩, h3, fun n hn m hm e => ?_⟩, h5⟩
    subst e
    obtain ⟨l, -, hn⟩ := List.mem_flatMap.mp hn
    obtain ⟨a, -, ha⟩ := List.mem_filterMap.mp hm
    exact h4 a l n ha hn

/-! A candidate number is free, since no more than 31 are held. -/

theorem State.numberHeld_iff (s : State) (a : ArmId) (n : Nat) :
    s.numberHeld a n = true ↔ (∃ l, n ∈ s.laneNumbers l) ∨ ∃ b, b ≠ a ∧ (s.arm b).openNumber = some n := by
  have open_ : ∀ b : ArmId, ((s.arm b).opened && (s.arm b).batch.any (·.number == some n)) = true ↔
      (s.arm b).openNumber = some n := by
    intro b
    cases ho : (s.arm b).opened <;> cases hb : (s.arm b).batch <;>
      simp [Arm.openNumber, ho, hb]
  simp only [State.numberHeld, State.lanes_toList, Bool.or_eq_true, List.any_eq_true, List.mem_map]
  refine or_congr ⟨?_, ?_⟩ ⟨?_, ?_⟩
  · rintro ⟨_, ⟨l, -, rfl⟩, q, hq, e⟩
    exact ⟨l, List.mem_map.mpr ⟨q, hq, by simpa using e⟩⟩
  · rintro ⟨l, hn⟩
    obtain ⟨q, hq, rfl⟩ := List.mem_map.mp hn
    exact ⟨_, ⟨l, mem_allLanes l, rfl⟩, q, hq, by simp⟩
  · rintro ⟨b, -, h⟩
    rw [Bool.and_assoc, Bool.and_eq_true, open_] at h
    exact ⟨b, by simpa using h.1, h.2⟩
  · rintro ⟨b, hne, h⟩
    exact ⟨b, mem_allArms b, by rw [Bool.and_assoc, Bool.and_eq_true, open_]; exact ⟨by simpa using hne, h⟩⟩

theorem State.freeNumber_cases (s : State) (a : ArmId) (fuel n : Nat) :
    s.numberHeld a (s.freeNumber a fuel n) = false ∨
      ∀ k < fuel, s.numberHeld a (succNumber^[k] n) = true := by
  induction fuel generalizing n with
  | zero => exact .inr fun k hk => absurd hk (by omega)
  | succ fuel ih =>
    unfold State.freeNumber
    by_cases h : s.numberHeld a n = true
    · rw [if_pos h]
      refine (ih (succNumber n)).imp id fun h' k hk => ?_
      cases k with
      | zero => exact h
      | succ k => exact h' k (by omega)
    · rw [if_neg h]; exact .inl (by simpa using h)

/-- Candidates follow one another round the circle of 1 to 999,999. -/
theorem iterate_succNumber (n k : Nat) (h1 : 1 ≤ n) (h2 : n ≤ 999999) :
    succNumber^[k] n = (n - 1 + k) % 999999 + 1 := by
  induction k with
  | zero => rw [Function.iterate_zero, id, Nat.mod_eq_of_lt (by omega)]; omega
  | succ k ih =>
    rw [Function.iterate_succ_apply', ih]
    unfold succNumber
    split <;> omega

theorem succNumber_range (n : Nat) : 1 ≤ succNumber n ∧ succNumber n ≤ 999999 := by
  unfold succNumber; split <;> omega

/-- The numbers held against an admission of arm `a`. -/
def State.heldAgainst (s : State) (a : ArmId) : List Nat :=
  allLanes.flatMap s.laneNumbers ++ (allArms.filter (· ≠ a)).filterMap fun b => (s.arm b).openNumber

theorem State.mem_heldAgainst (s : State) (a : ArmId) (n : Nat) :
    n ∈ s.heldAgainst a ↔ s.numberHeld a n = true := by
  rw [State.numberHeld_iff, State.heldAgainst, List.mem_append, List.mem_flatMap, List.mem_filterMap]
  simp [mem_allLanes, mem_allArms]

theorem State.length_heldAgainst (s : State) (a : ArmId) (h : s.placesBounded) :
    (s.heldAgainst a).length ≤ 31 := by
  have lane : ∀ l, (s.laneNumbers l).length ≤ 6 := fun l => by
    have := h l
    rw [State.laneNumbers, List.length_map]; omega
  have arms : ((allArms.filter (· ≠ a)).filterMap fun b => (s.arm b).openNumber).length ≤ 7 := by
    refine le_trans (List.length_filterMap_le _ _) ?_
    revert a; decide
  have := lane 0; have := lane 1; have := lane 2; have := lane 3
  simp only [State.heldAgainst, allLanes, List.length_append, List.flatMap_cons, List.flatMap_nil,
    List.length_nil]
  omega

/-- The number of an admission is held by nothing else (R153). -/
theorem State.nextNumber_free (s : State) (a : ArmId) (h : s.placesBounded) :
    s.numberHeld a (s.nextNumber a) = false := by
  rcases s.freeNumber_cases a 32 (succNumber s.batchCounter) with free | held
  · exact free
  · obtain ⟨lo, hi⟩ := succNumber_range s.batchCounter
    have nodup : ((List.range 32).map fun k => succNumber^[k] (succNumber s.batchCounter)).Nodup := by
      refine List.Nodup.map_on (fun i hi' j hj' e => ?_) List.nodup_range
      simp only [List.mem_range] at hi' hj'
      rw [iterate_succNumber _ _ lo hi, iterate_succNumber _ _ lo hi] at e
      omega
    have sub : ((List.range 32).map fun k => succNumber^[k] (succNumber s.batchCounter)) ⊆ s.heldAgainst a := by
      intro n hn
      obtain ⟨k, hk, rfl⟩ := List.mem_map.mp hn
      exact (s.mem_heldAgainst a _).mpr (held k (List.mem_range.mp hk))
    have := (nodup.subperm sub).length_le
    have := s.length_heldAgainst a h
    simp at *
    omega

end Sys2Proof.Machine
end

section
/-! PROOFS. The laws that every act keeps: batch numbers. -/

namespace Sys2Proof.Machine
open Sys2Proof

theorem Arm.Act.openNumber {arm x : Arm} (h : arm.Act x) :
    x.opened = arm.opened ∧ x.openNumber = arm.openNumber := by
  have opened : x.opened = arm.opened := by
    cases h with
    | holds c now => cases st : arm.state <;> simp [Arm.takesCause, st]
    | computes limit r k h => unfold Arm.enter; split <;> rfl
    | _ => rfl
  have number : x.batch.bind (·.number) = arm.batch.bind (·.number) := by
    rcases h.keepsBatch with ⟨g, hg, k⟩ | ⟨limit, r, k, hk, rfl⟩
    · rw [hg]
      cases arm.batch with
      | none => rfl
      | some b => exact (k b).number
    · obtain ⟨b, c, snap, fx, hb, hcf, hsn, -, -, -⟩ := Arm.compute_eq_some hk
      rw [Arm.enter_eq _ hb hsn hcf, hb]; rfl
  exact ⟨opened, by rw [Arm.openNumber, opened, number]; rfl⟩

/-- What becomes of an arm's open batch number: it stands, it goes, or an admission gives one. -/
theorem Arm.Change.openNumber {C B : Prop} {arm x : Arm} (h : arm.Change C B x) (hC : C)
    (hc : arm.coherent) :
    (x.opened = arm.opened ∧ x.openNumber = arm.openNumber) ∨ x.opened = false ∨
      arm.opened = false ∧ x.opened = true := by
  have shut : arm.state.admitted = false → arm.opened = false := fun h => by
    by_contra ho
    exact absurd (h.symm.trans (hc.opened.mp (by simpa using ho))) Bool.false_ne_true
  cases h with
  | same => exact .inl ⟨rfl, rfl⟩
  | acts x h => exact .inl h.openNumber
  | loads t => exact .inl ⟨rfl, rfl⟩
  | joins fx reduced ha => exact .inr (.inl (shut (by rw [ha]; rfl)))
  | admits y number limit now ha hx =>
    exact .inr (.inr ⟨shut (by rcases ha hC with h | h <;> rw [h] <;> rfl), rfl⟩)
  | requeues deadline ha => exact .inr (.inl (shut (by rw [ha hC]; rfl)))
  | resolves release snap page deadline ha => exact .inr (.inl (shut (by rw [ha hC]; rfl)))
  | begins key preset snap page release deadline hb hi => exact .inr (.inl (shut (by rw [hi]; rfl)))
  | waits key preset hb hi => exact .inr (.inl (shut (by rw [hi]; rfl)))
  | resets | idles | closes => exact .inr (.inl rfl)

theorem Arm.openNumber_of_shut {arm : Arm} (h : arm.opened = false) : arm.openNumber = none := by
  simp [Arm.openNumber, h]

/-- Numbers stay apart where lanes keep theirs and arms keep theirs or lose them. -/
theorem State.NumbersApart.of_fewer {s t : State} (hs : s.NumbersApart)
    (lanes : ∀ l, (t.laneNumbers l).Sublist (s.laneNumbers l))
    (arms : ∀ b, ((t.arm b).opened = (s.arm b).opened ∧ (t.arm b).openNumber = (s.arm b).openNumber) ∨
      (t.arm b).opened = false) : t.NumbersApart := by
  have open_ : ∀ b n, (t.arm b).openNumber = some n → (s.arm b).openNumber = some n := by
    intro b n h
    rcases arms b with ⟨-, e⟩ | e
    · rw [← e, h]
    · rw [Arm.openNumber_of_shut e] at h; simp at h
  refine ⟨fun l => (hs.within l).sublist (lanes l), fun l m n hl hm =>
    hs.between l m n ((lanes l).subset hl) ((lanes m).subset hm),
    fun a b n ha hb => hs.batches a b n (open_ a n ha) (open_ b n hb),
    fun a l n ha hn => hs.apart a l n (open_ a n ha) ((lanes l).subset hn), fun a ha => ?_⟩
  rcases arms a with ⟨e, e'⟩ | e
  · rw [e']; exact hs.numbered a (e ▸ ha)
  · rw [e] at ha; exact absurd ha Bool.false_ne_true

theorem State.laneNumbers_post (s : State) (l m : LaneId) (r : BatchRecord) :
    (s.setLane l (·.post r)).laneNumbers m =
      if m = l then s.laneNumbers m ++ [r.number] else s.laneNumbers m := by
  unfold State.laneNumbers
  by_cases h : m = l
  · subst h; simp [State.setLane, Lane.post, Lane.posting]
  · have : l.val ≠ m.val := fun e => h (Fin.ext e.symm)
    simp [State.setLane, h, this]

/-- The close of an open batch moves its number from the arm to the lane (R47, R153). -/
theorem State.NumbersApart.close {s : State} (hs : s.NumbersApart) (a : ArmId) (r : BatchRecord)
    (hr : (s.arm a).openNumber = some r.number) :
    ((s.setLane (laneOf a) (·.post r)).toIdle a).NumbersApart := by
  let t := (s.setLane (laneOf a) (·.post r)).toIdle a
  have fresh : ∀ l, r.number ∉ s.laneNumbers l := fun l => hs.apart a l _ hr
  have lanes : ∀ l, t.laneNumbers l =
      if l = laneOf a then s.laneNumbers l ++ [r.number] else s.laneNumbers l :=
    fun l => s.laneNumbers_post (laneOf a) l r
  have mem : ∀ l n, n ∈ t.laneNumbers l → n ∈ s.laneNumbers l ∨ l = laneOf a ∧ n = r.number := by
    intro l n hn
    rw [lanes] at hn
    split at hn
    · next e => exact (List.mem_append.mp hn).imp id fun h => ⟨e, by simpa using h⟩
    · exact .inl hn
  have arms : ∀ b n, (t.arm b).openNumber = some n → b ≠ a ∧ (s.arm b).openNumber = some n := by
    intro b n h
    by_cases hb : b = a
    · subst hb
      have : t.arm b = (s.arm b).toIdle := State.arm_setArm_self _ b Arm.toIdle
      rw [this] at h; exact absurd h (by simp [Arm.openNumber, Arm.toIdle])
    · have : t.arm b = s.arm b := State.arm_setArm_of_ne _ Arm.toIdle hb
      exact ⟨hb, this ▸ h⟩
  show t.NumbersApart
  refine ⟨fun l => ?_, fun l m n hl hm => ?_, fun b c n hb hc => ?_, fun b l n hb hn => ?_, fun b hb => ?_⟩
  · rw [lanes]
    split
    · refine List.nodup_append.mpr ⟨hs.within l, by simp, fun n hn m hm e => ?_⟩
      rw [List.mem_singleton.mp hm] at e
      exact fresh l (e ▸ hn)
    · exact hs.within l
  · rcases mem l n hl with hl | ⟨rfl, e⟩ <;> rcases mem m n hm with hm | ⟨rfl, e'⟩
    · exact hs.between l m n hl hm
    · exact absurd (e' ▸ hl) (fresh l)
    · exact absurd (e ▸ hm) (fresh m)
    · rfl
  · exact hs.batches b c n (arms b n hb).2 (arms c n hc).2
  · obtain ⟨hne, hb⟩ := arms b n hb
    rcases mem l n hn with hn | ⟨-, e⟩
    · exact hs.apart b l n hb hn
    · exact hne (hs.batches b a n hb (e ▸ hr))
  · by_cases e : b = a
    · subst e
      have : t.arm b = (s.arm b).toIdle := State.arm_setArm_self _ b Arm.toIdle
      rw [this] at hb; exact absurd hb Bool.false_ne_true
    · have : t.arm b = s.arm b := State.arm_setArm_of_ne _ Arm.toIdle e
      rw [this] at hb ⊢; exact hs.numbered b hb

/-- An admission gives a batch a number that nothing else holds. -/
theorem State.NumbersApart.of_admission {s t : State} (hs : s.NumbersApart) (a : ArmId) (number : Nat)
    (free : s.numberHeld a number = false) (lanes : t.lanes = s.lanes)
    (others : ∀ b, b ≠ a → t.arm b = s.arm b) (own : (t.arm a).openNumber = some number) :
    t.NumbersApart := by
  have free : (∀ l, number ∉ s.laneNumbers l) ∧ ∀ b, b ≠ a → (s.arm b).openNumber ≠ some number := by
    rw [← Bool.not_eq_true, State.numberHeld_iff, not_or] at free
    exact ⟨fun l h => free.1 ⟨l, h⟩, fun b hb h => free.2 ⟨b, hb, h⟩⟩
  have numbers : ∀ l, t.laneNumbers l = s.laneNumbers l := fun l => by
    unfold State.laneNumbers; rw [lanes]
  have arms : ∀ b n, (t.arm b).openNumber = some n →
      b = a ∧ n = number ∨ b ≠ a ∧ (s.arm b).openNumber = some n := by
    intro b n h
    by_cases hb : b = a
    · subst hb; rw [own] at h; exact .inl ⟨rfl, (Option.some.inj h).symm⟩
    · rw [others b hb] at h; exact .inr ⟨hb, h⟩
  refine ⟨fun l => numbers l ▸ hs.within l, fun l m n hl hm => ?_, fun b c n hb hc => ?_,
    fun b l n hb hn => ?_, fun b hb => ?_⟩
  · rw [numbers] at hl hm; exact hs.between l m n hl hm
  · rcases arms b n hb with ⟨rfl, rfl⟩ | ⟨hba, hb⟩ <;> rcases arms c _ hc with ⟨rfl, e⟩ | ⟨hca, hc⟩
    · rfl
    · exact absurd hc (free.2 c hca)
    · exact absurd (e ▸ hb) (free.2 b hba)
    · exact hs.batches b c n hb hc
  · rw [numbers] at hn
    rcases arms b n hb with ⟨rfl, rfl⟩ | ⟨-, hb⟩
    · exact free.1 l hn
    · exact hs.apart b l n hb hn
  · by_cases e : b = a
    · subst e; rw [own]; rfl
    · rw [others b e] at hb ⊢; exact hs.numbered b hb

theorem State.Act.keeps_numbersApart {sc : Scope} {s t : State} (h : s.Act sc t) (hc : sc.coherent)
    (hl : ¬ sc.loads) (hw : s.Settled) (hp : s.placesBounded) (hs : s.NumbersApart) :
    t.NumbersApart := by
  have change := h.change
  -- arms that take no number, in lanes that stand
  have plain : (∀ l, (t.laneNumbers l).Sublist (s.laneNumbers l)) →
      (∀ b, (t.arm b).opened = true → (s.arm b).opened = true) → t.NumbersApart := by
    intro lanes arms
    refine hs.of_fewer lanes fun b => ?_
    rcases (change b).openNumber hc (hw.arms b) with h | h | ⟨e, h⟩
    · exact .inl h
    · exact .inr h
    · exact absurd (e.symm.trans (arms b h)) Bool.false_ne_true
  have setArm : ∀ (a : ArmId) (f : Arm → Arm), t = s.setArm a f →
      ((f (s.arm a)).opened = true → (s.arm a).opened = true) → t.NumbersApart := by
    rintro a f rfl hf
    refine plain (fun _ => List.Sublist.refl _) fun b hb => ?_
    rw [State.arm_setArm] at hb
    split at hb
    · next e => subst e; exact hf hb
    · exact hb
  cases h with
  | lanes ls h => exact plain h fun b hb => hb
  | resets ps st =>
    refine plain (fun l => ?_) fun b hb => ?_
    · simp [State.laneNumbers, State.resetBlocks, Lane.reset]
    · rw [State.arm_resetBlocks] at hb; exact absurd hb Bool.false_ne_true
  | arm a x h => exact setArm a _ rfl fun hx => h.openNumber.1 ▸ hx
  | joins a fx reduced request minimum ha =>
    refine plain (fun _ => List.Sublist.refl _) fun b hb => ?_
    rw [State.arm_joins] at hb
    split at hb
    · next e => subst e; exact hb
    · exact hb
  | admits a x g ha hx hg =>
    have hb : (s.arm a).batch.isSome = true :=
      (hw.arms a).batch.mpr (by rcases ha hc with h | h <;> simp [h])
    obtain ⟨b, hb⟩ := Option.isSome_iff_exists.mp hb
    refine hs.of_admission a (s.nextNumber a) (s.nextNumber_free a hp) rfl
      (fun b hb => State.arm_setArm_of_ne _ (fun _ => x.admission (s.nextNumber a) g.limit s.now) hb) ?_
    rw [State.arm_setArm_self]
    rcases hx with rfl | ⟨fx, reduced, rfl⟩ <;>
      simp [Arm.openNumber, Arm.admission, Arm.fix, hb, Batch.admission]
  | requeues a deadline ha => exact setArm a _ rfl id
  | resolves a release snap page deadline ha => exact setArm a _ rfl id
  | idles a ha => exact setArm a Arm.toIdle rfl fun h => absurd h Bool.false_ne_true
  | begins a key preset snap page release deadline h => exact setArm a _ rfl id
  | waits a key preset h hk =>
    refine plain (fun _ => List.Sublist.refl _) fun b hb => ?_
    have hb : ((s.setArm a (·.authorizing key preset)).arm b).opened = true := hb
    rw [State.arm_setArm] at hb
    split at hb
    · next e => subst e; exact hb
    · exact hb
  | walks a key preset h hk hcache =>
    refine plain (fun _ => List.Sublist.refl _) fun b hb => ?_
    have hb : ((s.setArm a (·.authorizing key preset)).arm b).opened = true := hb
    rw [State.arm_setArm] at hb
    split at hb
    · next e => subst e; exact hb
    · exact hb
  | closes a r ha ready hr =>
    have hb : (s.arm a).batch.isSome = true := (hw.arms a).batch.mpr (by simp [ha])
    have ho : (s.arm a).opened = true := (hw.arms a).opened.mpr (by rw [ha]; rfl)
    obtain ⟨b, hb⟩ := Option.isSome_iff_exists.mp hb
    have number := hs.numbered a ho
    refine hs.close a r ?_
    rw [hr b hb]
    cases hn : b.number <;> simp_all [Arm.openNumber]
  | posts l r h => exact absurd (h hc) hl
  | custody n f ls q h => exact absurd h hl
  | _ => exact plain (fun _ => List.Sublist.refl _) fun b hb => hb

end Sys2Proof.Machine
end

section
/-! PROOFS. The laws that every act keeps: the keys of cache and walk list. -/

namespace Sys2Proof.Machine
open Sys2Proof

/-! ### The keys of the cache and the walk list (R111, R119, R120) -/

/-- The keys apart, place by place. -/
structure State.KeysApart (s : State) : Prop where
  cache : ∀ (i j : Fin 32) (e f : CacheEntry), s.cache[i] = some e → s.cache[j] = some f →
    e.key = f.key → i = j
  walks : s.walkKeys.Nodup
  apart : ∀ (i : Fin 32) (e : CacheEntry), s.cache[i] = some e → e.key ∉ s.walkKeys
  ops : s.walkOps.Nodup
  walked : ∀ k ∈ s.walkOps, k ∈ s.walkKeys
  inSet : ∀ i : Fin 32, ∀ e ∈ s.cache[i], i.val / 4 = (e.key.product + e.key.package) % 8
  current : ∀ k ∈ s.current.bind (·.op.walkKey), ∃ w ∈ s.walks, w.key = k ∧ w.current = true

theorem State.mem_cachedKeys (s : State) (k : Key) :
    k ∈ s.cachedKeys ↔ ∃ (i : Fin 32) (e : CacheEntry), s.cache[i] = some e ∧ e.key = k := by
  simp only [State.cachedKeys, List.mem_filterMap, Vector.mem_toList_iff, Vector.mem_iff_getElem]
  constructor
  · rintro ⟨_, ⟨i, hi, rfl⟩, h⟩
    obtain ⟨e, he, rfl⟩ := Option.map_eq_some_iff.mp h
    exact ⟨⟨i, hi⟩, e, he, rfl⟩
  · rintro ⟨i, e, he, rfl⟩
    exact ⟨_, ⟨i.val, i.isLt, rfl⟩, by rw [Fin.getElem_fin] at he; rw [he]; rfl⟩

theorem State.nodup_cachedKeys (s : State) :
    s.cachedKeys.Nodup ↔ ∀ (i j : Fin 32) (e f : CacheEntry), s.cache[i] = some e → s.cache[j] = some f →
      e.key = f.key → i = j := by
  rw [State.cachedKeys, List.Nodup, List.pairwise_filterMap, List.pairwise_iff_getElem]
  simp only [Vector.length_toList, Vector.getElem_toList, Option.map_eq_some_iff]
  constructor
  · intro h i j e f he hf hk
    by_contra hne
    have hne : i.val ≠ j.val := fun h => hne (Fin.ext h)
    rcases Nat.lt_or_gt_of_ne hne with hlt | hlt
    · exact h i j i.isLt j.isLt hlt _ ⟨e, he, rfl⟩ _ ⟨f, hf, rfl⟩ hk
    · exact h j i j.isLt i.isLt hlt _ ⟨f, hf, rfl⟩ _ ⟨e, he, rfl⟩ hk.symm
  · rintro h i j hi hj hlt _ ⟨e, he, rfl⟩ _ ⟨f, hf, rfl⟩ hk
    have := h ⟨i, hi⟩ ⟨j, hj⟩ e f he hf hk
    simp only [Fin.mk.injEq] at this
    omega

theorem State.keysDistinct_iff (s : State) : s.keysDistinct ↔ s.KeysApart := by
  rw [State.keysDistinct, List.nodup_append, State.nodup_cachedKeys]
  constructor
  · rintro ⟨⟨h1, h2, h3⟩, h4, h5, h6, h7⟩
    exact ⟨h1, h2, fun i e he hk => h3 _ ((s.mem_cachedKeys _).mpr ⟨i, e, he, rfl⟩) _ hk rfl, h4, h5, h6, h7⟩
  · rintro ⟨h1, h2, h3, h4, h5, h6, h7⟩
    refine ⟨⟨h1, h2, fun k hk m hm e => ?_⟩, h4, h5, h6, h7⟩
    obtain ⟨i, x, hx, rfl⟩ := (s.mem_cachedKeys k).mp hk
    exact h3 i x hx (e ▸ hm)

/-- The places of a key's set are those at four times the set number and on (R111). -/
theorem mem_waysOf (key : Key) (i : Fin 32) :
    i ∈ waysOf key ↔ i.val / 4 = (key.product + key.package) % 8 := by
  simp only [waysOf, wayOf, List.mem_cons, List.not_mem_nil, or_false, Fin.ext_iff]
  omega

theorem State.cached_eq_none {s : State} {key : Key} (h : s.cached key = none) (i : Fin 32)
    (hi : i ∈ waysOf key) (e : CacheEntry) (he : s.cache[i] = some e) : e.key ≠ key := by
  intro hk
  unfold State.cached at h
  split at h
  · next j hj =>
    have := List.find?_some hj
    rw [h] at this
    exact absurd this Bool.false_ne_true
  · next hj =>
    have := List.find?_eq_none.mp hj i hi
    rw [he] at this
    exact this (by simp [holdsKey, hk])

theorem State.fillPlace_mem (s : State) (key : Key) : s.fillPlace key ∈ waysOf key := by
  unfold State.fillPlace
  cases h : (waysOf key).find? fun i => s.cache[i].isNone with
  | some i => exact List.mem_of_find?_eq_some h
  | none =>
    rw [Option.getD_none, mem_waysOf]
    simp only [wayOf]
    omega

theorem State.walkKeys_startOp (s : State) (op : StoreOp) (rest : List QueuedOp) :
    (s.startOp op rest).walkKeys = s.walkKeys := by
  simp only [State.walkKeys, State.startOp, markCurrent]
  split
  · rw [List.map_map]
    refine List.map_congr_left fun w _ => ?_
    simp only [Function.comp_apply]; split <;> rfl
  · rfl

/-- Keys stay apart where the cache keeps its keys or loses them and walks and operations stand. -/
theorem State.KeysApart.of_cache {s t : State} (hs : s.KeysApart)
    (cache : ∀ (i : Fin 32) (e : CacheEntry), t.cache[i] = some e → ∃ f, s.cache[i] = some f ∧ f.key = e.key)
    (keys : t.walkKeys = s.walkKeys) (ops : t.walkOps = s.walkOps)
    (current : ∀ k ∈ t.current.bind (·.op.walkKey), ∃ w ∈ t.walks, w.key = k ∧ w.current = true) :
    t.KeysApart := by
  refine ⟨fun i j e f he hf hk => ?_, keys ▸ hs.walks, fun i e he => ?_, ops ▸ hs.ops,
    by rw [ops, keys]; exact hs.walked, fun i e he => ?_, current⟩
  · obtain ⟨e', he', hke⟩ := cache i e he
    obtain ⟨f', hf', hkf⟩ := cache j f hf
    exact hs.cache i j e' f' he' hf' (by rw [hke, hkf, hk])
  · obtain ⟨e', he', hke⟩ := cache i e he
    rw [keys, ← hke]; exact hs.apart i e' he'
  · obtain ⟨e', he', hke⟩ := cache i e he
    rw [← hke]; exact hs.inSet i e' he'

theorem List.nodup_concat_of {α : Type} {l : List α} {x : α} (h : l.Nodup) (hx : x ∉ l) :
    (l ++ [x]).Nodup := by
  rw [List.nodup_append]
  refine ⟨h, by simp, fun y hy z hz e => ?_⟩
  rw [List.mem_singleton.mp hz] at e
  exact hx (e ▸ hy)

/-- A walk's end takes its key from the walk list, and may bring it into the cache (R114, R122). -/
theorem State.KeysApart.walkEnd {s : State} (hs : s.KeysApart) (key : Key) (st : Store)
    (places : Vector (Option CacheEntry) 32) (hk : s.current.bind (·.op.walkKey) = some key)
    (hc : places = s.cache ∨ ∃ e : CacheEntry, e.key = key ∧
      places = s.cache.set (s.fillPlace key) (some e)) :
    State.KeysApart { s with
      store := st, current := none, cache := places
      walks := s.walks.filter fun w => decide (w.key ≠ key) } := by
  obtain ⟨k, hcur, hk⟩ := Option.bind_eq_some_iff.mp hk
  have opsEq : s.walkOps = key :: (s.storeQueue.map (·.op)).filterMap StoreOp.walkKey := by
    simp [State.walkOps, hcur, hk]
  have walked : key ∈ s.walkKeys := hs.walked key (by rw [opsEq]; exact List.mem_cons_self)
  obtain ⟨notIn, opsNodup⟩ := List.nodup_cons.mp (opsEq ▸ hs.ops)
  have keys : ∀ k, k ∈ (s.walks.filter fun w => decide (w.key ≠ key)).map (·.key) ↔
      k ∈ s.walkKeys ∧ k ≠ key := by
    intro k
    simp only [List.mem_map, List.mem_filter, decide_eq_true_eq, State.walkKeys]
    constructor
    · rintro ⟨w, ⟨hw, hne⟩, rfl⟩; exact ⟨⟨w, hw, rfl⟩, hne⟩
    · rintro ⟨⟨w, hw, rfl⟩, hne⟩; exact ⟨w, ⟨hw, hne⟩, rfl⟩
  -- an entry afterwards is one from before, or the filled one of the key
  have entry : ∀ (i : Fin 32) (e : CacheEntry), places[i] = some e →
      s.cache[i] = some e ∨ i = s.fillPlace key ∧ e.key = key := by
    intro i e he
    rcases hc with rfl | ⟨x, hx, rfl⟩
    · exact .inl he
    · by_cases hi : i = s.fillPlace key
      · subst hi
        simp only [Fin.getElem_fin, Vector.getElem_set_self, Option.some.injEq] at he
        exact .inr ⟨rfl, he ▸ hx⟩
      · have : (s.fillPlace key).val ≠ i.val := fun h => hi (Fin.ext h.symm)
        simp only [Fin.getElem_fin, Vector.getElem_set_ne _ _ this] at he
        exact .inl he
  have unheld : ∀ (i : Fin 32) (e : CacheEntry), s.cache[i] = some e → e.key ≠ key :=
    fun i e he hk => hs.apart i e he (hk ▸ walked)
  refine ⟨fun i j e f he hf hef => ?_, hs.walks.sublist (List.filter_sublist.map _), fun i e he hw => ?_,
    ?_, fun k hk => ?_, fun i e he => ?_, fun k hk => by simp at hk⟩
  · rcases entry i e he with he | ⟨hi, he⟩ <;> rcases entry j f hf with hf | ⟨hj, hf⟩
    · exact hs.cache i j e f he hf hef
    · exact absurd (hef.trans hf) (unheld i e he)
    · exact absurd (hef.symm.trans he) (unheld j f hf)
    · rw [hi, hj]
  · obtain ⟨hw, hne⟩ := (keys e.key).mp hw
    rcases entry i e he with he | ⟨-, he⟩
    · exact hs.apart i e he hw
    · exact hne he
  · simpa [State.walkOps] using opsNodup
  · have hk : k ∈ (s.storeQueue.map (·.op)).filterMap StoreOp.walkKey := by
      simpa [State.walkOps] using hk
    exact (keys k).mpr ⟨hs.walked k (by rw [opsEq]; exact List.mem_cons_of_mem _ hk),
      fun e => notIn (e ▸ hk)⟩
  · rcases entry i e he with he | ⟨rfl, rfl⟩
    · exact hs.inSet i e he
    · exact (mem_waysOf e.key _).mp (s.fillPlace_mem e.key)

/-- An arm's leaving the walks takes WAITING walks and their operations together (R121). -/
theorem State.KeysApart.leaveWalks {s : State} (hs : s.KeysApart) (a : ArmId) :
    (s.leaveWalks a).KeysApart := by
  have keysSub : (s.leaveWalks a).walkKeys.Sublist s.walkKeys := by
    have : s.walkKeys = (s.walks.map fun w =>
        { w with waiters := w.waiters.filter (· ≠ a) }).map (·.key) := by
      simp [State.walkKeys]
    rw [this]
    exact List.filter_sublist.map _
  have opsSub : (s.leaveWalks a).walkOps.Sublist s.walkOps := by
    refine List.Sublist.filterMap _ (List.Sublist.append_left ?_ _)
    exact List.filter_sublist.map _
  have current : ∀ k ∈ s.current.bind (·.op.walkKey),
      ∃ w ∈ (s.leaveWalks a).walks, w.key = k ∧ w.current = true := by
    intro k hk
    obtain ⟨w, hw, e, cur⟩ := hs.current k hk
    exact ⟨{ w with waiters := w.waiters.filter (· ≠ a) },
      List.mem_filter.mpr ⟨List.mem_map.mpr ⟨w, hw, rfl⟩, by simp [cur]⟩, e, cur⟩
  refine ⟨hs.cache, hs.walks.sublist keysSub, fun i e he hk => hs.apart i e he (keysSub.subset hk),
    hs.ops.sublist opsSub, fun k hk => ?_, hs.inSet, current⟩
  obtain ⟨op, hop, hkey⟩ := List.mem_filterMap.mp hk
  rcases List.mem_append.mp hop with hop | hop
  · obtain ⟨c, hc, rfl⟩ := List.mem_map.mp hop
    have hc : s.current = some c := Option.mem_toList.mp hc
    obtain ⟨w, hw, e, -⟩ := current k (Option.bind_eq_some_iff.mpr ⟨c, hc, hkey⟩)
    exact List.mem_map.mpr ⟨w, hw, e⟩
  · obtain ⟨q, hq, rfl⟩ := List.mem_map.mp hop
    obtain ⟨hq, stays⟩ := List.mem_filter.mp hq
    have : k ∈ s.walkKeys := hs.walked k (List.mem_filterMap.mpr
      ⟨q.op, List.mem_append_right _ (List.mem_map.mpr ⟨q, hq, rfl⟩), hkey⟩)
    obtain ⟨w, hw, rfl⟩ := List.mem_map.mp this
    refine List.mem_map.mpr ⟨{ w with waiters := w.waiters.filter (· ≠ a) },
      List.mem_filter.mpr ⟨List.mem_map.mpr ⟨w, hw, rfl⟩, ?_⟩, rfl⟩
    by_contra gone
    have hq : q.op = .walk w.key := by
      cases hop : q.op <;> simp_all [StoreOp.walkKey]
    simp only [Bool.not_eq_true', List.any_eq_false] at stays
    refine stays { w with waiters := w.waiters.filter (· ≠ a) }
      (List.mem_filter.mpr ⟨List.mem_map.mpr ⟨w, hw, rfl⟩, ?_⟩) (by simp [hq])
    simpa using gone

theorem State.Act.keeps_keysApart {sc : Scope} {s t : State} (h : s.Act sc t) (hs : s.KeysApart) :
    t.KeysApart := by
  have same : ∀ (i : Fin 32) (e : CacheEntry), s.cache[i] = some e → ∃ f, s.cache[i] = some f ∧ f.key = e.key :=
    fun i e he => ⟨e, he, rfl⟩
  cases h with
  | cache places h => exact hs.of_cache (fun i e he => h i e he) rfl rfl hs.current
  | ops q k hw hk hc => exact hs.of_cache same rfl hw (fun key h => hs.current key (hk ▸ h))
  | starts w rest hc hq =>
    refine hs.of_cache same (s.walkKeys_startOp w.op rest) ?_ fun k hk => ?_
    · simp [State.walkOps, State.startOp, hc, hq]
    · have hk : w.op.walkKey = some k := by simpa [State.startOp] using hk
      obtain ⟨op, carried⟩ := w
      cases op <;> simp only [StoreOp.walkKey, reduceCtorEq, Option.some.injEq] at hk
      subst hk
      rename_i key
      have : key ∈ s.walkKeys := hs.walked key (by simp [State.walkOps, hq, StoreOp.walkKey])
      obtain ⟨v, hv, rfl⟩ := List.mem_map.mp this
      exact ⟨{ v with current := true }, List.mem_map.mpr ⟨v, hv, by simp⟩, rfl, rfl⟩
  | resets ps st =>
    constructor <;> simp [State.resetBlocks, State.walkKeys, State.walkOps]
  | finishes st h =>
    have sub : (State.walkOps { s with store := st, current := none }).Sublist s.walkOps := by
      refine List.Sublist.filterMap _ ?_
      simp
    exact ⟨hs.cache, hs.walks, hs.apart, hs.ops.sublist sub, fun k hk => hs.walked k (sub.subset hk),
      hs.inSet, fun k hk => by simp at hk⟩
  | walkEnds key st places hk h hc => exact hs.walkEnd key st places hk hc
  | waits a key preset h hw => 
    refine hs.of_cache same ?_ rfl fun k hk => ?_
    · simp only [State.walkKeys, List.map_map]
      refine List.map_congr_left fun w _ => ?_
      simp only [Function.comp_apply]; split <;> rfl
    · obtain ⟨w, hw, e, cur⟩ := hs.current k hk
      refine ⟨_, List.mem_map.mpr ⟨w, hw, rfl⟩, ?_, ?_⟩ <;> split <;> assumption
  | walks a key preset h hw hc =>
    have notWalked : key ∉ s.walkKeys := fun hk => by
      obtain ⟨w, hm, e⟩ := List.mem_map.mp hk
      exact hw w hm e
    have keys : State.walkKeys { s.setArm a (·.authorizing key preset) with
        walks := s.walks ++ [⟨key, false, [a]⟩]
        storeQueue := s.storeQueue ++ [⟨.walk key, false⟩] } = s.walkKeys ++ [key] := by
      simp [State.walkKeys]
    have ops : State.walkOps { s.setArm a (·.authorizing key preset) with
        walks := s.walks ++ [⟨key, false, [a]⟩]
        storeQueue := s.storeQueue ++ [⟨.walk key, false⟩] } = s.walkOps ++ [key] := by
      simp [State.walkOps, StoreOp.walkKey, State.setArm]
    refine ⟨hs.cache, ?_, fun i e he => ?_, ?_, fun k hk => ?_, hs.inSet, fun k hk => ?_⟩
    · rw [keys]; exact List.nodup_concat_of hs.walks notWalked
    · rw [keys, List.mem_append, List.mem_singleton, not_or]
      refine ⟨hs.apart i e he, fun hk => ?_⟩
      exact State.cached_eq_none hc i ((mem_waysOf key i).mpr (hk ▸ hs.inSet i e he)) e he hk
    · rw [ops]; exact List.nodup_concat_of hs.ops fun hk => notWalked (hs.walked key hk)
    · rw [keys]; rw [ops] at hk
      exact (List.mem_append.mp hk).elim (fun h => List.mem_append_left _ (hs.walked k h))
        fun h => List.mem_append_right _ h
    · obtain ⟨w, hw, h⟩ := hs.current k hk
      exact ⟨w, List.mem_append_left _ hw, h⟩
  | leavesWalks a => exact hs.leaveWalks a
  | admits a x g ha hx hg =>
    refine hs.of_cache same rfl ?_ fun k hk => hs.current k ?_
    · cases hcur : s.current <;> simp [State.walkOps, State.takeNumber, State.setArm, hcur]
    · cases hcur : s.current <;> simp [State.takeNumber, State.setArm, hcur] at hk ⊢; exact hk
  | custody n f ls q h hw hc => exact hs.of_cache same rfl hw hs.current
  | _ => exact hs.of_cache same rfl rfl hs.current

end Sys2Proof.Machine
end

section
/-! PROOFS. The laws that every act keeps: the header queue and the waiters of the walks. -/

namespace Sys2Proof.Machine
open Sys2Proof

/-! ### The header queue and the walks of the arms (R119, R146) -/

/-- Every WAITING_HEADER arm is in the header queue, but the one that the step takes out of it. -/
def State.waitersQueued (sc : Scope) (s : State) : Prop :=
  ∀ b, sc.leaves ≠ some b → (s.arm b).state = .waitingHeader → b ∈ s.header.queue.map (·.arm)

theorem State.Act.keeps_waitersQueued {sc : Scope} {s t : State} (h : s.Act sc t)
    (hs : s.waitersQueued sc) : t.waitersQueued sc := by
  have setArm : ∀ (a : ArmId) (f : Arm → Arm), (f (s.arm a)).state ≠ .waitingHeader →
      ∀ b, ((s.setArm a f).arm b).state = .waitingHeader → b ≠ a ∧ (s.arm b).state = .waitingHeader := by
    intro a f hf b hb
    rw [State.arm_setArm] at hb
    split at hb
    · exact absurd hb hf
    · next ne => exact ⟨ne, hb⟩
  intro b hl hb
  cases h with
  | resets ps st => rw [State.arm_resetBlocks] at hb; cases hb
  | arm a x h =>
    rw [State.arm_setArm] at hb
    split at hb
    · next e =>
      subst e
      rcases h.state with e | ⟨-, e⟩
      · exact hs b hl (e ▸ hb)
      · rw [hb] at e; exact absurd e Bool.false_ne_true
    · exact hs b hl hb
  | unqueues a h =>
    obtain ⟨p, hp, e⟩ := List.mem_map.mp (hs b hl hb)
    refine List.mem_map.mpr ⟨p, List.mem_filter.mpr ⟨hp, ?_⟩, e⟩
    simp only [decide_eq_true_eq]
    rintro rfl
    exact hl (e ▸ h)
  | joins a fx reduced request minimum ha =>
    show b ∈ (s.header.queue ++ [(⟨a, request, minimum⟩ : HeaderPlace)]).map (·.arm)
    rw [State.arm_joins] at hb
    rw [List.map_append, List.mem_append]
    split at hb
    · next e => right; simp [e]
    · exact .inl (hs b hl hb)
  | admits a x g ha hx hg =>
    obtain ⟨ne, hb⟩ := setArm a (fun _ => x.admission (s.nextNumber a) g.limit s.now)
      (by simp [Arm.admission]) b hb
    obtain ⟨p, hp, e⟩ := List.mem_map.mp (hs b hl hb)
    exact List.mem_map.mpr ⟨p, List.mem_filter.mpr ⟨hp, by simpa [e] using ne⟩, e⟩
  | requeues a deadline ha => exact hs b hl (setArm a _ ArmState.noConfusion b hb).2
  | resolves a release snap page deadline ha => exact hs b hl (setArm a _ ArmState.noConfusion b hb).2
  | idles a ha => exact hs b hl (setArm a Arm.toIdle ArmState.noConfusion b hb).2
  | begins a key preset snap page release deadline h =>
    exact hs b hl (setArm a _ ArmState.noConfusion b hb).2
  | waits a key preset h hw =>
    exact hs b hl (setArm a (·.authorizing key preset) ArmState.noConfusion b hb).2
  | walks a key preset h hw hc =>
    exact hs b hl (setArm a (·.authorizing key preset) ArmState.noConfusion b hb).2
  | closes a r ha ready hr => exact hs b hl (setArm a Arm.toIdle ArmState.noConfusion b hb).2
  | custody n f ls q h hw hc =>
    refine hs b hl ?_
    simpa [State.arm, Arm.load] using hb
  | _ => exact hs b hl hb

/-- One more waiter of the walk of a key that stands once in the list. -/
theorem flatMap_waiters_join {ws : List WalkEntry} (once : (ws.map (·.key)).Nodup) {key : Key}
    (h : ∃ w ∈ ws, w.key = key) (a : ArmId) :
    ((ws.map fun w => if w.key = key then { w with waiters := w.waiters ++ [a] } else w).flatMap
      (·.waiters)).Perm (ws.flatMap (·.waiters) ++ [a]) := by
  induction ws with
  | nil => obtain ⟨w, hw, -⟩ := h; simp at hw
  | cons w ws ih =>
    rw [List.map_cons, List.nodup_cons] at once
    rw [List.map_cons, List.flatMap_cons, List.flatMap_cons]
    by_cases hk : w.key = key
    · have rest : (ws.map fun w => if w.key = key then { w with waiters := w.waiters ++ [a] } else w) = ws :=
        (List.map_congr_left fun v hv => if_neg fun e =>
          once.1 (List.mem_map.mpr ⟨v, hv, e.trans hk.symm⟩)).trans (List.map_id' ws)
      rw [if_pos hk, rest, List.append_assoc, List.append_assoc]
      exact List.perm_append_comm.append_left _
    · rw [if_neg hk, List.append_assoc]
      refine (ih once.2 ?_).append_left _
      obtain ⟨v, hv, e⟩ := h
      rcases List.mem_cons.mp hv with rfl | hv
      · exact absurd e hk
      · exact ⟨v, hv, e⟩

theorem State.Act.keeps_waitersOnce {sc : Scope} {s t : State} (h : s.Act sc t) (hw : s.Settled)
    (hk : s.KeysApart) (hs : s.waiters.Nodup) : t.waiters.Nodup := by
  have fresh : ∀ a, s.MayBegin sc a → a ∉ s.waiters := fun a h hm => by
    have := hw.waiting a hm; rw [h.idle] at this; cases this
  cases h with
  | starts w rest hc hq =>
    have : (s.startOp w.op rest).waiters = s.waiters := State.waiters_markCurrent w.op s.walks
    exact this ▸ hs
  | resets => exact List.nodup_nil
  | walkEnds key st places hk h hc => exact hs.sublist (List.filter_sublist.flatMap _)
  | waits a key preset h hw =>
    refine (flatMap_waiters_join hk.walks hw a).nodup_iff.mpr ?_
    exact List.nodup_concat_of hs (fresh a h)
  | walks a key preset h hw hc =>
    have : State.waiters { s.setArm a (·.authorizing key preset) with
        walks := s.walks ++ [⟨key, false, [a]⟩]
        storeQueue := s.storeQueue ++ [⟨.walk key, false⟩] } = s.waiters ++ [a] := by
      simp [State.waiters]
    rw [this]; exact List.nodup_concat_of hs (fresh a h)
  | leavesWalks a =>
    have sub : (s.leaveWalks a).waiters.Sublist ((s.walks.map fun w =>
        { w with waiters := w.waiters.filter (· ≠ a) }).flatMap (·.waiters)) :=
      List.filter_sublist.flatMap _
    refine hs.sublist (sub.trans ?_)
    rw [List.flatMap_map]
    exact List.Sublist.flatMap_right _ fun w _ => List.filter_sublist
  | _ => exact hs

end Sys2Proof.Machine
end

section
/-! PROOFS. The shared operations on arms, ports and the store queue as runs of acts. -/

namespace Sys2Proof.Machine
open Sys2Proof

/-! ## The shared operations as runs of acts -/

variable {sc : Scope} {s t u : State}

theorem State.Act.run (h : s.Act sc t) : s.Run sc t := Relation.ReflTransGen.single h

theorem State.Run.refl (sc : Scope) (s : State) : s.Run sc s := Relation.ReflTransGen.refl

theorem State.Run.trans (h : s.Run sc t) (k : t.Run sc u) : s.Run sc u :=
  Relation.ReflTransGen.trans h k

theorem State.Run.settled (h : s.Run sc t) (hs : sc.coherent → s.Settled) : sc.coherent → t.Settled := by
  intro hc
  induction h with
  | refl => exact hs hc
  | tail _ h ih => exact h.settled hc ih

/-- An act on one arm. -/
theorem State.Run.arm (a : ArmId) (f : Arm → Arm) (h : (s.arm a).Act (f (s.arm a))) :
    s.Run sc (s.setArm a f) := State.Act.run (State.Act.arm a (f (s.arm a)) h)

/-! ### Clock, ports and responses -/

theorem State.Run.reach (s : State) (deadline : Nat) : s.Run sc (s.reach deadline) :=
  State.Act.run (State.Act.clock _ (le_max_left _ _))

/-- A change of one port that gives it no further entry. -/
theorem State.Run.setPort (p : Port) (f : LinkPort → LinkPort)
    (h : (f (s.port p)).entries ≤ (s.port p).entries) : s.Run sc (s.setPort p f) := by
  refine State.Act.run (State.Act.ports _ fun q => ?_)
  by_cases e : portIndex p = q
  · subst e; simpa [State.port] using h
  · have : (portIndex p).val ≠ q.val := fun h => e (Fin.ext h)
    simp [this]

/-- A response adds at most one entry to its port. -/
theorem LinkPort.entries_form (lp : LinkPort) (r : Response) :
    (lp.form r).entries ≤ lp.entries + 1 := by
  unfold LinkPort.entries
  rw [LinkPort.form_outstanding]
  rcases LinkPort.form_cases lp r with ⟨-, -, h⟩ | h <;> rw [h]
  · simp
  · simp only [List.length_append, List.length_singleton]; omega

/-- A deferred response takes the place of its outstanding request. -/
theorem LinkPort.entries_settle (lp : LinkPort) (w : Work) (r : Result) (b : Body) :
    (lp.settle w r b).entries ≤ lp.entries := by
  rcases LinkPort.settle_cases lp w r b with ⟨code, tag, h, e⟩ | ⟨-, e⟩ <;> rw [e]
  have := LinkPort.entries_form { lp with outstanding := none } ⟨code, tag, r, b⟩
  simp only [LinkPort.entries, h, Option.isSome_some, Option.isSome_none] at *
  simp at *
  omega

theorem State.Run.settle (s : State) (p : Port) (w : Work) (r : Result) (b : Body) :
    s.Run sc (s.settle p w r b) := State.Run.setPort p _ (LinkPort.entries_settle _ w r b)

/-! ### Flags and hold causes -/

theorem State.Run.setFlag (s : State) (a : ArmId) (f : Flag) : s.Run sc (s.setFlag a f) := by
  refine (State.Run.arm a (fun arm => { arm with flags := FlagSet.add arm.flags f })
    (.noted _ _ _ _ _ _ (.inr rfl))).trans (State.Act.run (State.Act.ports _ fun p => ?_))
  rw [Fin.getElem_fin, Vector.getElem_ofFn]; exact le_refl _

theorem State.Run.setFlagIf (s : State) (b : Bool) (a : ArmId) (f : Flag) :
    s.Run sc (s.setFlagIf b a f) := by
  unfold State.setFlagIf; split
  · exact State.Run.setFlag s a f
  · exact .refl sc s

theorem State.addCause_eq (s : State) (a : ArmId) (c : HoldCause) :
    s.addCause a c = s.setArm a (·.takesCause c s.now) := by
  have stays : s.setArm a id = s := State.setArm_id s a id rfl
  unfold State.addCause
  split
  · next h => exact State.setArm_congr s a _ _ (by simp [Arm.takesCause, h, Arm.closeValveForHold, Arm.setFigures, Arm.holdLimit, State.timerMs])
  · next h => exact State.setArm_congr s a _ _ (by simp [Arm.takesCause, h, Arm.holdLimit, State.timerMs])
  · next o h => exact State.setArm_congr s a _ _ (by simp [Arm.takesCause, h])
  · next h1 h2 h3 =>
    refine (stays.symm.trans (State.setArm_congr s a _ _ ?_))
    cases h : (s.arm a).state <;> simp_all [Arm.takesCause]

theorem State.Run.addCause (s : State) (a : ArmId) (c : HoldCause) : s.Run sc (s.addCause a c) := by
  rw [State.addCause_eq]; exact State.Run.arm a _ (.holds c s.now)

theorem State.Run.addCauseIf (s : State) (b : Bool) (a : ArmId) (c : HoldCause) :
    s.Run sc (s.addCauseIf b a c) := by
  unfold State.addCauseIf; split
  · exact State.Run.addCause s a c
  · exact .refl sc s

/-! ### Strokes -/

/-- Slots that each stand or strike where their start conditions hold are an act (R127, R128). -/
theorem Arm.Act.of_strikes {arm : Arm} (inService : Vector Bool 6) (now : Nat) (v : Vector Slot 3)
    (h : ∀ i : SlotId, v[i] = arm.slots[i] ∨
      ∃ c snap, arm.strokeDue inService c snap i ∧ v[i] = arm.slots[i].struck c.slots[i] now) :
    arm.Act { arm with slots := v } := by
  refine .strokes v (fun i => ?_) (fun i hs => ?_) fun ha i hr => ?_
  · rcases h i with h | ⟨c, snap, -, h⟩ <;> rw [h]; rfl
  · rcases h i with h | ⟨c, snap, ⟨ready, issued, -⟩, h⟩ <;> rw [h]
    · exact hs
    · obtain ⟨-, counts⟩ := hs
      rw [ready] at counts
      exact ⟨issued, by simp [Slot.struck] at counts ⊢; omega⟩
  · rcases h i with h | ⟨c, snap, ⟨-, -, state, -⟩, -⟩
    · rw [h, hr]
    · rcases state with e | e | ⟨e, -⟩ <;> rw [e] at ha <;> exact absurd ha.symm Bool.false_ne_true

theorem State.Run.tryStrokes (s : State) (a : ArmId) : s.Run sc (s.tryStrokes a) := by
  obtain ⟨slots, e, starts, none⟩ := s.tryStrokes_spec a
  rw [e]
  refine State.Run.arm a _ (.of_strikes s.inService s.now slots fun i => ?_)
  cases hc : (s.arm a).config with
  | none => exact .inl (by rw [none (.inl hc)])
  | some c =>
    cases hs : (s.arm a).snapshot with
    | none => exact .inl (by rw [none (.inr hs)])
    | some snap =>
      obtain ⟨due, stands⟩ := starts c hc snap hs i
      by_cases h : (s.arm a).strokeDue s.inService c snap i
      · exact .inr ⟨c, snap, h, due h⟩
      · exact .inl (stands h)

theorem State.Run.tryStroke (s : State) (a : ArmId) (i : SlotId) : s.Run sc (s.tryStroke a i) := by
  rw [State.tryStroke_eq]
  refine State.Run.arm a _ (.of_strikes s.inService s.now _ fun j => ?_)
  by_cases hj : i = j
  · subst hj
    simp only [Fin.getElem_fin, Vector.getElem_set_self]
    cases hc : (s.arm a).config with
    | none => exact .inl (State.strokeTried_of_none i (.inl hc))
    | some c =>
      cases hs : (s.arm a).snapshot with
      | none => exact .inl (State.strokeTried_of_none i (.inr hs))
      | some snap =>
        obtain ⟨due, stands⟩ := State.strokeTried_spec i hc hs
        by_cases h : (s.arm a).strokeDue s.inService c snap i
        · exact .inr ⟨c, snap, h, due h⟩
        · exact .inl (stands h)
  · have : i.val ≠ j.val := fun h => hj (Fin.ext h)
    exact .inl (by simp [this])

/-! ### The store queue -/

theorem LinkPort.entries_acrossRestart (lp : LinkPort) : lp.acrossRestart.entries ≤ lp.entries := by
  unfold LinkPort.acrossRestart; split
  · exact le_refl _
  · simp [LinkPort.entries]

theorem State.Run.restartReset (s : State) : s.Run sc s.restartReset :=
  State.Act.run (State.Act.resets _ _ (fun p => by simpa using LinkPort.entries_acrossRestart _) id)

theorem State.Run.advanceStore (s : State) : s.Run sc s.advanceStore := by
  rcases s.advanceStore_cases with h | ⟨-, -, -, h⟩ | ⟨w, rest, hc, -, hq, -, h⟩ <;> rw [h]
  · exact .refl sc s
  · exact State.Run.restartReset s
  · exact State.Act.run (State.Act.starts w rest hc hq)

/-- The store queue takes another form with the same WALK operations in order. -/
theorem State.Run.queue (q : List QueuedOp)
    (hw : (q.map (·.op)).filterMap StoreOp.walkKey = (s.storeQueue.map (·.op)).filterMap StoreOp.walkKey)
    (hc : s.oneCheckpointPerArm → State.oneCheckpointPerArm { s with storeQueue := q }) :
    s.Run sc { s with storeQueue := q } :=
  State.Act.run (State.Act.ops q s.current (by simp [State.walkOps, hw]) rfl hc)

/-- An operation that is neither a WALK nor a CHECKPOINT joins the store queue. -/
theorem State.Run.askOp (s : State) (op : StoreOp) (hw : op.walkKey = none)
    (hc : ∀ a, op.isCheckpoint a = false) : s.Run sc (s.askOp op) := by
  refine State.Run.trans (t := { s with storeQueue := s.storeQueue ++ [⟨op, false⟩] })
    (State.Run.queue _ (by simp [hw]) fun hs a => ?_) (State.Run.advanceStore _)
  have : (s.storeQueue ++ [(⟨op, false⟩ : QueuedOp)]).filter (·.op.isCheckpoint a) =
      s.storeQueue.filter (·.op.isCheckpoint a) := by simp [hc]
  exact this ▸ hs a

theorem StoreOp.walkKey_of_isCheckpoint {op : StoreOp} {a : ArmId} (h : op.isCheckpoint a = true) :
    op.walkKey = none := by
  cases op <;> simp_all [StoreOp.isCheckpoint, StoreOp.walkKey]

/-- A CHECKPOINT's joining leaves the WALK operations in order. -/
theorem walkKeys_joinCheckpoint (a : ArmId) {op : StoreOp} (hop : op.walkKey = none) (q : List QueuedOp) :
    ((joinCheckpoint a op q).map (·.op)).filterMap StoreOp.walkKey =
      (q.map (·.op)).filterMap StoreOp.walkKey := by
  induction q with
  | nil => simp [joinCheckpoint, hop]
  | cons w rest ih =>
    unfold joinCheckpoint
    split
    · next h =>
      have := StoreOp.walkKey_of_isCheckpoint h
      split <;> simp [hop, this]
    · simp only [List.map_cons, List.filterMap_cons, ih]

theorem StoreOp.isCheckpoint_unique {op : StoreOp} {a b : ArmId} (ha : op.isCheckpoint a = true)
    (hne : b ≠ a) : op.isCheckpoint b = false := by
  cases op <;> simp_all [StoreOp.isCheckpoint]

/-- A CHECKPOINT's joining leaves the CHECKPOINTs of other arms. -/
theorem filter_joinCheckpoint_of_ne {a b : ArmId} (hne : b ≠ a) {op : StoreOp}
    (hop : op.isCheckpoint a = true) (q : List QueuedOp) :
    (joinCheckpoint a op q).filter (·.op.isCheckpoint b) = q.filter (·.op.isCheckpoint b) := by
  have hopb := StoreOp.isCheckpoint_unique hop hne
  induction q with
  | nil => simp [joinCheckpoint, hopb]
  | cons w rest ih =>
    unfold joinCheckpoint
    split
    · next h =>
      have hw := StoreOp.isCheckpoint_unique h hne
      split <;> simp [hw, hopb]
    · simp only [List.filter_cons, ih]

/-- A CHECKPOINT that joins stands beside no other of its arm, if no two stood before. -/
theorem filter_joinCheckpoint_self (a : ArmId) (op : StoreOp) (q : List QueuedOp)
    (hq : (q.filter (·.op.isCheckpoint a)).length ≤ 1) :
    ((joinCheckpoint a op q).filter (·.op.isCheckpoint a)).length ≤ 1 := by
  induction q with
  | nil => exact le_trans (List.length_filter_le _ _) (by simp [joinCheckpoint])
  | cons w rest ih =>
    unfold joinCheckpoint
    split
    · next h =>
      have : rest.filter (·.op.isCheckpoint a) = [] := by
        rw [List.filter_cons_of_pos (by simpa using h)] at hq
        exact List.eq_nil_of_length_eq_zero (by simpa using hq)
      split
      · rw [List.filter_append, this]; exact le_trans (List.length_filter_le _ _) (by simp)
      · rw [List.filter_cons, this]; split <;> simp
    · next h =>
      rw [List.filter_cons_of_neg (by simpa using h)] at hq ⊢
      exact ih hq

theorem State.isCheckpoint_checkpoint (s : State) (a : ArmId) : (s.checkpoint a).isCheckpoint a = true := by
  unfold State.checkpoint; split <;> simp [StoreOp.isCheckpoint]

theorem State.Run.askCheckpoint (s : State) (a : ArmId) : s.Run sc (s.askCheckpoint a) := by
  have hop := s.isCheckpoint_checkpoint a
  refine State.Run.trans (t := { s with storeQueue := joinCheckpoint a (s.checkpoint a) s.storeQueue })
    (State.Run.queue _ (walkKeys_joinCheckpoint a (StoreOp.walkKey_of_isCheckpoint hop) _) fun hs b => ?_)
    (State.Run.advanceStore _)
  by_cases hb : b = a
  · subst hb; exact filter_joinCheckpoint_self b _ _ (hs b)
  · have := filter_joinCheckpoint_of_ne hb hop s.storeQueue
    exact this.symm ▸ hs b

@[simp] theorem StoreOp.walkKey_absorb (p k : Nat) (key : Key) (op : StoreOp) :
    (op.absorb p k key).walkKey = op.walkKey := by
  cases op <;> simp only [StoreOp.absorb]
  split <;> rfl

@[simp] theorem StoreOp.isCheckpoint_absorb (p k : Nat) (key : Key) (op : StoreOp) (a : ArmId) :
    (op.absorb p k key).isCheckpoint a = op.isCheckpoint a := by
  cases op <;> simp only [StoreOp.absorb]
  split <;> rfl

theorem State.Run.askDispensed (s : State) (page package : Nat) (key : Key) :
    s.Run sc (s.askDispensed page package key) := by
  unfold State.askDispensed
  split
  · refine State.Act.run (State.Act.ops _ _ ?_ ?_ fun hs a => ?_)
    · cases h : s.current <;>
        simp [State.walkOps, h, List.filterMap_map, Function.comp_def, List.filterMap_cons]
    · cases s.current <;> simp
    · have := hs a
      simpa [List.filter_map, Function.comp_def] using this
  · exact State.Run.askOp s _ rfl fun _ => rfl

/-- Settings that no law speaks of. -/
theorem State.Run.countLookup (s : State) : s.Run sc s.countLookup :=
  State.Act.run (State.Act.settings _ _ _ _)

theorem State.cache_setDispensedCopy (s : State) (key : Key) (b : Bool) :
    ∃ places : Vector (Option CacheEntry) 32, s.setDispensedCopy key b = { s with cache := places } ∧
      ∀ i : Fin 32, ∀ e ∈ places[i], ∃ x ∈ s.cache[i], x.key = e.key := by
  unfold State.setDispensedCopy
  split
  · next i hi =>
    refine ⟨_, rfl, fun j e he => ?_⟩
    by_cases hj : i = j
    · subst hj
      simp only [Fin.getElem_fin, Vector.getElem_set_self] at he
      obtain ⟨x, hx, rfl⟩ := Option.map_eq_some_iff.mp he
      exact ⟨x, hx, rfl⟩
    · have : i.val ≠ j.val := fun h => hj (Fin.ext h)
      simp only [Fin.getElem_fin, Vector.getElem_set_ne _ _ this] at he
      exact ⟨e, he, rfl⟩
  · exact ⟨s.cache, rfl, fun i e he => ⟨e, he, rfl⟩⟩

theorem State.Run.setDispensedCopy (s : State) (key : Key) (b : Bool) :
    s.Run sc (s.setDispensedCopy key b) := by
  obtain ⟨places, e, h⟩ := s.cache_setDispensedCopy key b
  rw [e]; exact State.Act.run (State.Act.cache places h)

theorem State.Run.invalidate (s : State) (f : CacheEntry → Bool) : s.Run sc (s.invalidate f) := by
  refine State.Act.run (State.Act.cache _ fun i e he => ?_)
  simp only [Fin.getElem_fin, Vector.getElem_ofFn] at he
  cases hx : s.cache[i] with
  | none => rw [Fin.getElem_fin] at hx; simp [hx] at he
  | some x =>
    rw [Fin.getElem_fin] at hx
    simp only [hx] at he
    split at he
    · simp at he
    · exact ⟨x, rfl, congrArg CacheEntry.key (Option.some.inj he)⟩

end Sys2Proof.Machine
end

section
/-! PROOFS. Header, closing, computation and trim windows as runs of acts. -/

namespace Sys2Proof.Machine
open Sys2Proof

variable {sc : Scope} {s t u : State}

/-! ### The header -/

theorem Header.offer_fits {h : Header} {request minimum fraction : Nat} {g : Grant}
    (ho : h.offer request minimum fraction = some g) : g.flow ≤ h.free := by
  unfold Header.offer at ho
  split at ho
  · next hr => obtain rfl := Option.some.inj ho; exact hr
  · split at ho
    · obtain rfl := Option.some.inj ho; exact le_refl _
    · simp at ho

/-- The fixing of an arm's quantities leaves the next batch number. -/
theorem State.nextNumber_setArm (s : State) (a : ArmId) (f : Arm → Arm) :
    (s.setArm a f).nextNumber a = s.nextNumber a := by
  have held : ∀ n, (s.setArm a f).numberHeld a n = s.numberHeld a n := fun n => by
    simp only [State.numberHeld, State.setArm_lanes]
    congr 1
    refine congrArg (allArms.any ·) (funext fun b => ?_)
    by_cases hb : b = a
    · simp [hb]
    · rw [State.arm_setArm_of_ne s f hb]
  have free : ∀ fuel n, (s.setArm a f).freeNumber a fuel n = s.freeNumber a fuel n := fun fuel => by
    induction fuel with
    | zero => intro n; rfl
    | succ fuel ih => intro n; simp only [State.freeNumber, held, ih]
  exact free 32 _

/-- Admission of an arm, whose quantities may be fixed in the same event (R34). -/
theorem State.Run.admission (a : ArmId) (f : Arm → Arm) (g : Grant)
    (hs : sc.coherent → (s.arm a).state = .authorized ∨ (s.arm a).state = .waitingHeader)
    (hf : f = id ∨ ∃ fx reduced, f = (·.fix fx reduced))
    (hg : g.flow = 0 ∨ g.flow ≤ s.header.free) : s.Run sc ((s.setArm a f).admission a g) := by
  have act : s.Run sc _ := (State.Act.admits (sc := sc) a (f (s.arm a)) g hs (by
    rcases hf with rfl | ⟨fx, reduced, rfl⟩
    · exact .inl rfl
    · exact .inr ⟨fx, reduced, rfl⟩) hg).run
  have e : (State.takeNumber { s with header := s.header.seat a g } (s.nextNumber a)).setArm a
        (fun _ => (f (s.arm a)).admission (s.nextNumber a) g.limit s.now) =
      (State.takeNumber { s.setArm a f with header := s.header.seat a g } (s.nextNumber a)).setArm a
        (fun x => x.admission (s.nextNumber a) g.limit s.now) := by
    have := s.arm_setArm_self a f
    simp only [State.takeNumber, State.setArm, State.arm] at this ⊢
    simp [this]
  rw [e] at act
  unfold State.admission
  rw [State.nextNumber_setArm]
  exact (act.trans (.askCheckpoint _ a)).trans (.addCauseIf _ _ a .additive)

theorem State.Run.admission_of_waiting (a : ArmId) (g : Grant)
    (hs : sc.coherent → (s.arm a).state = .waitingHeader) (hg : g.flow ≤ s.header.free) :
    s.Run sc (s.admission a g) := by
  have := State.Run.admission a id g (fun hc => .inr (hs hc)) (.inl rfl) (.inr hg)
  rwa [State.setArm_id s a id rfl] at this

theorem State.Run.examineFrom (fuel : Nat) : ∀ s : State, (sc.coherent → s.Settled) →
    s.Run sc (s.examineFrom fuel) := by
  induction fuel with
  | zero => exact fun s _ => .refl sc s
  | succ fuel ih =>
    intro s hs
    unfold State.examineFrom
    split
    · exact .refl sc s
    · next p rest hq =>
      split
      · exact .refl sc s
      · next g hg =>
        have seated := State.Run.admission_of_waiting (sc := sc) p.arm g
          (fun hc => (hs hc).queued _ (by simp [hq])) (Header.offer_fits hg)
        exact seated.trans (ih _ (seated.settled hs))

theorem State.Run.examine (hs : sc.coherent → s.Settled) : s.Run sc s.examine :=
  State.Run.examineFrom _ s hs

theorem State.Run.release (a : ArmId) (hs : sc.coherent → s.Settled) : s.Run sc (s.release a) :=
  have act : s.Run sc _ := (State.Act.releases (sc := sc) a).run
  act.trans (State.Run.examine (act.settled hs))

/-- The arm named leaves the header queue, and a new head is examined. -/
theorem State.Run.leaveQueue (a : ArmId) (ha : sc.leaves = some a) (hs : sc.coherent → s.Settled) :
    s.Run sc (s.leaveQueue a) := by
  have act : s.Run sc _ := (State.Act.unqueues (sc := sc) a ha).run
  unfold State.leaveQueue
  split
  · split
    · exact act.trans (State.Run.examine (act.settled hs))
    · exact act
  · exact act

/-! ### The ends of a batch -/

theorem State.Run.enterClosing (a : ArmId) (e : Ending) (h : (s.arm a).state.underway = true)
    (hs : sc.coherent → s.Settled) : s.Run sc (s.enterClosing a e) := by
  have closing : s.Run sc ((s.setArm a (·.toClosing e s.now)).tryStrokes a) :=
    (State.Run.arm a (·.toClosing e s.now) (.closes e s.now h)).trans (.tryStrokes _ a)
  unfold State.enterClosing
  split
  · exact closing.trans (.release a (closing.settled hs))
  · exact closing

theorem State.Run.enterFlushing (a : ArmId) (h : (s.arm a).state = .delivering)
    (hs : sc.coherent → s.Settled) : s.Run sc (s.enterFlushing a) :=
  have shut : s.Run sc (s.setArm a fun arm => { arm.shutValve with state := .flushing }) :=
    State.Run.arm a _ (.flushes h)
  shut.trans (.release a (shut.settled hs))

/-- An advance of the store commutes with a change of an arm, while no RESTART is pending. -/
theorem State.advanceStore_setArm (s : State) (a : ArmId) (f : Arm → Arm) (h : s.restartPending = false) :
    (s.setArm a f).advanceStore = s.advanceStore.setArm a f := by
  unfold State.advanceStore
  simp only [State.setArm_current, State.setArm_load, State.setArm_storeQueue, State.setArm_restartPending, h]
  cases s.current with
  | some k => rfl
  | none =>
    cases s.load <;> cases s.storeQueue <;> rfl

theorem State.Run.close (a : ArmId) (r : BatchRecord) (hs : (s.arm a).state = .closing)
    (ready : (s.arm a).slotsReady = true) (hr : ∀ b ∈ (s.arm a).batch, r.number = b.number.getD 0)
    (hw : sc.coherent → s.Settled) : s.Run sc (s.close a r) := by
  unfold State.close
  cases hp : s.restartPending with
  | false =>
    have act : s.Run sc _ := (State.Act.closes (sc := sc) a r hs ready hr).run
    refine act.trans ?_
    have commutes := State.advanceStore_setArm { s.setLane (laneOf a) (·.post r) with storeQueue :=
      s.storeQueue ++ [⟨.close a (s.lanes[laneOf a].posting r).slot (s.lanes[laneOf a].posting r).record
        (s.arm a).figures, false⟩] } a Arm.toIdle hp
    have asked : State.Run sc ((s.setLane (laneOf a) (·.post r)).toIdle a) _ := State.Run.askOp _
      (.close a (s.lanes[laneOf a].posting r).slot (s.lanes[laneOf a].posting r).record (s.arm a).figures)
      rfl fun _ => rfl
    exact (congrArg (State.Run sc _) commutes).mp asked
  | true =>
    have quiet : ¬ sc.coherent := fun hC => by
      have idle := (s.allIdle_iff.mp ((hw hC).restarting hp)) a
      rw [hs] at idle; exact ArmState.noConfusion idle
    have act : s.Run sc _ := (State.Act.posts (sc := sc) (laneOf a) r fun hC => absurd hC quiet).run
    exact act.trans ((State.Run.askOp _ _ rfl fun _ => rfl).trans
      (State.Act.idles a fun hC => absurd hC quiet).run)

theorem State.Run.tryClose (a : ArmId) (hw : sc.coherent → s.Settled) : s.Run sc (s.tryClose a) := by
  unfold State.tryClose
  dsimp only
  split
  · next h =>
    split
    · next b snap c hb _ _ =>
      exact State.Run.close a _ h.1 h.2.2 (fun b' hb' => by
        rw [hb] at hb'; rw [← Option.some.inj hb']; rfl) hw
    · exact .refl sc s
  · exact .refl sc s

/-! ### The arithmetic unit -/

theorem State.Run.bauTake (s : State) : s.Run sc s.bauTake := by
  unfold State.bauTake
  split
  · next r rest _ hq =>
    exact (State.Act.bau _ _ fun h => by
      rw [State.oneRequestPerArm, hq] at h; exact (List.nodup_cons.mp h).2).run
  · exact .refl sc s

theorem State.Run.raiseChecks (s : State) (a : ArmId) (k : Computed) : s.Run sc (s.raiseChecks a k) :=
  ((((((State.Run.setFlagIf s _ a _).trans (.setFlagIf _ _ a _)).trans (.setFlagIf _ _ a _)).trans
    (.addCauseIf _ _ a _)).trans (.addCauseIf _ _ a _)).trans (.addCauseIf _ _ a _))

theorem State.Run.checkpointIfCrossed (s : State) (a : ArmId) (before after : Nat) :
    s.Run sc (s.checkpointIfCrossed a before after) := by
  unfold State.checkpointIfCrossed; split
  · exact State.Run.askCheckpoint s a
  · exact .refl sc s

theorem State.Run.firstLitre (s : State) (key : Key) (page : Option Nat) :
    s.Run sc (s.firstLitre key page) := by
  unfold State.firstLitre
  split
  · exact .refl sc s
  · split
    · split
      · exact .refl sc s
      · exact (State.Run.setDispensedCopy s key true).trans (.askDispensed _ _ _ _)
    · exact State.Run.askDispensed s _ _ _

theorem State.Run.triggers (a : ArmId) (hs : sc.coherent → s.Settled) : s.Run sc (s.triggers a) := by
  unfold State.triggers
  split
  · dsimp only
    split
    · next h => exact State.Run.enterClosing a _ h.2 hs
    · split
      · split
        · next h => exact State.Run.enterFlushing a h.2.1 hs
        · exact .refl sc s
      · exact .refl sc s
  · exact .refl sc s

theorem Monitor.length_form {m : Monitor} (p : Packet) (now : Nat) (h : m.queue.length ≤ 8) :
    (m.form p now).queue.length ≤ 8 := by
  unfold Monitor.form
  split
  · exact h
  · split
    · next hq => simp only [List.length_append, List.length_singleton]; omega
    · simp

theorem State.Run.monitorTrim (s : State) (a : ArmId) (final : Bool) (rate : Option Nat) :
    s.Run sc (s.monitorTrim a final rate) := by
  unfold State.monitorTrim
  split
  · exact (State.Act.monitor _ fun h =>
      Monitor.length_form (m := { s.monitor with parameter := (s.monitor.parameter + 1) % 24 }) _ _ h).run
  · exact .refl sc s

theorem State.Run.monitorProbe (s : State) (p : ProbePacket) : s.Run sc (s.monitorProbe p) := by
  unfold State.monitorProbe
  split
  · exact (State.Act.monitor _ fun h => Monitor.length_form _ _ h).run
  · exact .refl sc s

theorem State.Run.reportFinal (s : State) (a : ArmId) (final : Bool) : s.Run sc (s.reportFinal a final) := by
  unfold State.reportFinal; split
  · exact State.Run.arm a _ (.noted _ _ _ _ _ _ (.inr rfl))
  · exact .refl sc s

/-- A run continues from a state known to hold together. -/
theorem State.Run.bind (h : s.Run sc t) (hs : sc.coherent → s.Settled)
    (k : (sc.coherent → t.Settled) → t.Run sc u) : s.Run sc u := h.trans (k (h.settled hs))

theorem State.Run.ite (p : Prop) [Decidable p] (h : s.Run sc t) : s.Run sc (if p then t else s) := by
  split
  · exact h
  · exact .refl sc s

theorem State.Run.finishComputation (r : TrimRequest) (hs : sc.coherent → s.Settled) :
    s.Run sc (s.finishComputation r) := by
  unfold State.finishComputation
  split
  · next b k _ hk =>
    have enter : s.Run sc (s.setArm r.arm (·.enter k)) := State.Run.arm r.arm _ (.computes _ r k hk)
    have litre := ((enter.trans (.raiseChecks _ r.arm k)).trans (.checkpointIfCrossed _ r.arm
      (b.figures.vg + b.figures.ve) (k.figures.vg + k.figures.ve))).trans
        (.ite (b.figures.firstLitre = false ∧ 1000 ≤ k.figures.vg + k.figures.ve) (.firstLitre _ b.key b.page))
    have reported := litre.bind hs fun hs => (((State.Run.triggers r.arm hs).trans
      (.monitorTrim _ r.arm r.final k.rate)).trans (.reportFinal _ r.arm r.final)).trans (.tryStrokes _ r.arm)
    exact reported.bind hs fun hs => .tryClose r.arm hs
  · exact .refl sc s

/-! ### Windows -/

theorem Meter.inRange_handOver {m : Meter} (h : m.inRange) : m.handOver.inRange := by
  obtain ⟨-, -, -, hi, hu⟩ := h
  refine ⟨Nat.zero_le _, Nat.zero_le _, ?_, hi, hu⟩
  simp only [Meter.handOver]
  split
  · split <;> omega
  · omega

theorem State.Run.handOver (s : State) (a : ArmId) : s.Run sc (s.handOver a) :=
  (((State.Run.arm a (·.setMeters Meter.handOver) (.meters _ _ rfl rfl Meter.inRange_handOver
    Meter.inRange_handOver)).trans (.setFlagIf _ _ a _)).trans (.setFlagIf _ _ a _)).trans (.addCauseIf _ _ a _)

theorem State.Run.place (s : State) (r : TrimRequest) : s.Run sc (s.place r) := by
  unfold State.place
  split
  · next w _ =>
    have merged : s.Run sc { s with
        arithmeticQueue := s.arithmeticQueue.map fun q => if q.arm = r.arm then q.merge r else q } :=
      (State.Act.bau _ s.bau fun h => by
        have e : (s.arithmeticQueue.map (fun (q : TrimRequest) => if q.arm = r.arm then q.merge r else q)).map
            (·.arm) = s.arithmeticQueue.map (·.arm) := by
          rw [List.map_map]; congr 1; funext q; simp only [Function.comp]; split <;> rfl
        rw [e]; exact h).run
    have counted := merged.trans (State.Run.arm r.arm (fun arm => { arm with overrun := hold16 (arm.overrun + 1) })
      (.noted _ _ _ _ _ _ (.inl (by simp only [hold16]; omega))))
    refine (counted.trans ?_).trans (.setFlag _ r.arm .trimOverrun)
    split
    · exact State.Run.arm r.arm _ .saturates
    · exact .refl _ _
  · next h =>
    refine (State.Act.bau _ s.bau fun hq => ?_).run
    rw [List.map_append]
    refine List.nodup_concat_of hq fun hm => ?_
    obtain ⟨q, hq, e⟩ := List.mem_map.mp hm
    simpa [e] using List.find?_eq_none.mp h q hq

theorem State.Run.closeWindow (s : State) (a : ArmId) (duration : Nat) (final : Bool) :
    s.Run sc (s.closeWindow a duration final) :=
  ((State.Run.handOver s a).trans (.place _ _)).trans (.bauTake _)

end Sys2Proof.Machine
end

section
/-! PROOFS. The lane requests as events. -/

namespace Sys2Proof.Machine
open Sys2Proof

variable {sc : Scope} {s t u : State}

/-! ### Events -/

/-- No act adds to a port. -/
theorem State.Act.entries (h : s.Act sc t) (p : Port) : (t.port p).entries ≤ (s.port p).entries := by
  cases h with
  | ports ps h => exact h (portIndex p)
  | resets ps st hp => exact hp (portIndex p)
  | _ => exact le_refl _

theorem State.Run.entries (h : s.Run sc t) (p : Port) : (t.port p).entries ≤ (s.port p).entries := by
  induction h with
  | refl => exact le_refl _
  | tail _ h ih => exact le_trans (h.entries p) ih

/-- A run that is broken once by a further entry on a port with room. -/
theorem State.Event.asks (p : Port) (f : LinkPort → LinkPort) (hr : (s.port p).entries ≤ 4)
    (h : s.Run sc u) (hf : (f (u.port p)).entries ≤ (u.port p).entries + 1)
    (k : (u.setPort p f).Run sc t) : s.Event sc t :=
  .inr ⟨p, u, u.setPort p f, h, ⟨le_trans (h.entries p) hr, f (u.port p), hf,
    State.setPort_congr u p f _ rfl⟩, k⟩

theorem State.Event.reply (c : Caller) (r : Result) (b : Body) (hr : (s.port c.port).entries ≤ 4)
    (h : s.Run sc u) : s.Event sc (u.reply c r b) :=
  State.Event.asks c.port _ hr h (LinkPort.entries_form _ _) (.refl sc _)

/-- A port below its transmit limit has room. -/
theorem LinkPort.entries_le_of_lt {lp : LinkPort} (h : lp.transmit.length < 4) : lp.entries ≤ 4 := by
  unfold LinkPort.entries; split <;> omega

theorem State.takes.room {c : Caller} {names : Names} (h : s.takes c names) :
    (s.port c.port).entries ≤ 4 := by
  obtain ⟨queue, -, -⟩ := State.takes_spec h
  exact LinkPort.entries_le_of_lt queue

theorem State.entries_of_flooded {p : Port} (h : s.flooded p = false) : (s.port p).entries ≤ 4 :=
  LinkPort.entries_le_of_lt (by simpa [State.flooded] using h)

theorem State.takes.replies {c : Caller} {names : Names} (h : s.takes c names) (r : Result) (b : Body)
    (k : s.Run sc u) : s.Event sc (u.reply c r b) := State.Event.reply c r b h.room k

theorem State.takes.refuses {c : Caller} {names : Names} (h : s.takes c names) (r : Result) :
    s.Event sc (s.refuse c r) := h.replies r .nothing (.refl sc s)

/-- A request becomes outstanding on its port, and the event goes on. -/
theorem State.takes.defers {c : Caller} {names : Names} (h : s.takes c names) (w : Work)
    (k : s.Run sc u) (l : (u.holdOutstanding c w).Run sc t) : s.Event sc t := by
  refine State.Event.asks c.port _ h.room k ?_ l
  simp only [LinkPort.entries, Option.isSome_some, if_true]
  exact Nat.add_le_add_right (Nat.le_add_right _ _) 1

/-- A request that its port does not take is dropped or answered (R166, R168). -/
theorem State.Event.takeRequest (c : Caller) (names : Names) (serve : State → State)
    (h : s.takes c names → s.Event sc (serve s)) : s.Event sc (s.takeRequest c names serve) := by
  unfold State.takeRequest
  cases hf : s.flooded c.port with
  | true => exact .inl (.refl sc s)
  | false =>
    simp only [Bool.false_eq_true, if_false]
    cases hp : s.portCheck c names with
    | some r => exact State.Event.reply c r .nothing (State.entries_of_flooded hf) (.refl sc s)
    | none => exact h ⟨hf, hp⟩

/-! ### Requests on a batch -/

theorem Event.askStop (c : Caller) (n : Nat) : s.Event sc (askStop c n s) := by
  refine State.Event.takeRequest _ _ _ fun h => ?_
  unfold serveStop
  split
  · exact h.replies _ _ (.addCause s _ _)
  · exact h.refuses _

theorem State.Run.leaveCauses (a : ArmId) (rest : HoldSet) (h : (s.arm a).state.isHeld = true) :
    s.Run sc (s.leaveCauses a rest) := by
  obtain ⟨o, ho⟩ : ∃ o, (s.arm a).state = .held o := by
    cases e : (s.arm a).state with
    | held o => exact ⟨o, rfl⟩
    | _ => rw [e] at h; exact absurd h Bool.false_ne_true
  by_cases hr : rest = 0
  · subst hr
    have resumed : (s.setArm a fun arm => { arm with causes := 0 }).setArm a Arm.endHold =
        s.setArm a (·.resumed o) := by
      rw [State.setArm_setArm]
      exact State.setArm_congr s a _ _ (Arm.endHold_eq_resumed ho)
    change s.Run sc (((s.setArm a fun arm => { arm with causes := 0 }).setArm a Arm.endHold).tryStrokes a)
    rw [resumed]
    exact (State.Run.arm a (·.resumed o) (.resumes o ho)).trans (.tryStrokes _ a)
  · rw [State.leaveCauses_of_ne_zero s a hr]
    exact State.Run.arm a _ (.keepsHeld rest h hr)

theorem Event.askResume (c : Caller) (n : Nat) : s.Event sc (askResume c n s) := by
  refine State.Event.takeRequest _ _ _ fun h => ?_
  unfold serveResume
  split
  · next held =>
    split
    · unfold laneResume
      split
      · exact h.refuses _
      · exact h.replies _ _ (.leaveCauses _ _ held)
    · unfold supervisorResume
      split
      · exact h.replies _ _ (.leaveCauses _ _ held)
      · exact h.replies _ _ (.refl sc s)
  · exact h.refuses _

theorem Event.askEnd (c : Caller) (n : Nat) (hs : sc.coherent → s.Settled) :
    s.Event sc (askEnd c n s) := by
  refine State.Event.takeRequest _ _ _ fun h => ?_
  unfold serveEnd
  split
  · next underway => exact h.replies _ _ (.enterClosing _ _ underway hs)
  · exact h.refuses _

/-! ### Leaving the header queue -/

/-- The state in which an arm has been admitted and its CHECKPOINT not yet asked for (R34, R144, R153). -/
def State.seated (s : State) (a : ArmId) (g : Grant) : State :=
  (State.takeNumber { s with header := s.header.seat a g } (s.nextNumber a)).setArm a
    (·.admission (s.nextNumber a) g.limit s.now)

theorem State.admission_eq (s : State) (a : ArmId) (g : Grant) :
    s.admission a g = ((s.seated a g).askCheckpoint a).addCauseIf
      (((((s.seated a g).askCheckpoint a).arm a).snapshot.map fun snap =>
        !((s.seated a g).askCheckpoint a).additivesInService snap).getD false) a .additive := rfl

/-- What an admission changes, while no RESTART is pending. -/
theorem State.admission_frame (s : State) (a : ArmId) (g : Grant) (h : s.restartPending = false) :
    ∃ x q c w, s.admission a g = { s.setArm a fun _ => x with
      header := s.header.seat a g, batchCounter := s.nextNumber a
      storeQueue := q, current := c, walks := w } := by
  obtain ⟨q, c, w, e⟩ := State.askCheckpoint_frame (s.seated a g) a h
  rw [State.admission_eq, e]
  unfold State.addCauseIf
  split
  · refine ⟨((s.arm a).admission (s.nextNumber a) g.limit s.now).takesCause .additive s.now, q, c, w, ?_⟩
    rw [State.addCause_eq]
    simp [State.seated, State.takeNumber, State.setArm, Vector.set_set, State.arm]
  · exact ⟨(s.arm a).admission (s.nextNumber a) g.limit s.now, q, c, w, rfl⟩

/-- An examination does not reach an arm that is not in the queue, while no RESTART is pending. -/
theorem State.examineFrom_apart (fuel : Nat) (a : ArmId) : ∀ s : State, s.restartPending = false →
    a ∉ s.header.queue.map (·.arm) →
      (s.examineFrom fuel).arm a = s.arm a ∧ a ∉ (s.examineFrom fuel).header.queue.map (·.arm) := by
  induction fuel with
  | zero => exact fun s _ h => ⟨rfl, h⟩
  | succ fuel ih =>
    intro s hr ha
    unfold State.examineFrom
    split
    · exact ⟨rfl, ha⟩
    · next p rest hq =>
      split
      · exact ⟨rfl, ha⟩
      · next g _ =>
        obtain ⟨x, q, c, w, e⟩ := s.admission_frame p.arm g hr
        have queue : (s.admission p.arm g).header.queue = s.header.queue.filter (·.arm ≠ p.arm) := by
          rw [e]; rfl
        have ne : a ≠ p.arm := fun h => ha (by simp [hq, h])
        have arm : (s.admission p.arm g).arm a = s.arm a := by
          rw [e]; exact State.arm_setArm_of_ne s (fun _ => x) ne
        have out : a ∉ (s.admission p.arm g).header.queue.map (·.arm) := by
          rw [queue]
          exact fun h => ha ((List.filter_sublist.map _).subset h)
        obtain ⟨stands, still⟩ := ih (s.admission p.arm g) (by rw [e]; exact hr) out
        exact ⟨stands.trans arm, still⟩

/-- An arm that leaves the queue stands as it was, and is out of it. -/
theorem State.leaveQueue_apart (s : State) (a : ArmId) (hr : s.restartPending = false) :
    (s.leaveQueue a).arm a = s.arm a ∧ a ∉ (s.leaveQueue a).header.queue.map (·.arm) := by
  have out : a ∉ (s.header.queue.filter (·.arm ≠ a)).map (·.arm) := by simp
  by_cases h : s.header.queue.head?.map (·.arm) = some a
  · rw [State.leaveQueue_of_head s a h]
    exact State.examineFrom_apart _ a _ hr out
  · rw [State.leaveQueue_of_not_head s a h]
    exact ⟨rfl, out⟩

theorem State.Settled.not_restarting (hs : s.Settled) {a : ArmId} (h : (s.arm a).state ≠ .idle) :
    s.restartPending = false := by
  cases hp : s.restartPending with
  | false => rfl
  | true => exact absurd (s.allIdle_iff.mp (hs.restarting hp) a) h

/-- In a step that began in a coherent state, an arm that has left the queue still waits and is out of it. -/
theorem State.leaveQueue_waits {a : ArmId} (hs : sc.coherent → s.Settled)
    (h : (s.arm a).state = .waitingHeader) (hc : sc.coherent) :
    ((s.leaveQueue a).arm a).state = .waitingHeader ∧ a ∉ (s.leaveQueue a).header.queue.map (·.arm) := by
  obtain ⟨arm, out⟩ := s.leaveQueue_apart a ((hs hc).not_restarting (by rw [h]; exact fun e => ArmState.noConfusion e))
  exact ⟨by rw [arm, h], out⟩

theorem Event.serveAbort {c : Caller} {names : Names} (h : s.takes c names) (a : ArmId)
    (hs : sc.coherent → s.Settled) (hl : (s.arm a).state = .waitingHeader → sc.leaves = some a) :
    s.Event sc (serveAbort c a s) := by
  unfold Machine.serveAbort
  split
  · exact h.refuses _
  · next state =>
    have left : (s.leaveWalks a).Run sc ((s.leaveWalks a).toIdle a) := by
      refine State.Act.run (State.Act.idles (s := s.leaveWalks a) a fun _ =>
        .inr (.inr (.inr ⟨state, fun hm => ?_⟩)))
      obtain ⟨w, hw, ha⟩ := State.mem_waiters.mp hm
      simp only [State.leaveWalks, List.mem_filter, List.mem_map] at hw
      obtain ⟨⟨v, -, rfl⟩, -⟩ := hw
      simp at ha
    exact h.replies _ _ (((State.Act.leavesWalks _).run.trans left).trans (.settle _ _ _ _ _))
  · next state => exact h.replies _ _ (State.Act.idles _ fun _ => .inr (.inl state)).run
  · next state =>
    exact h.replies _ _ ((State.Run.leaveQueue _ (hl state) hs).trans
      (State.Act.idles _ fun hc => .inr (.inr (.inl (State.leaveQueue_waits hs state hc)))).run)
  · exact h.replies _ _ (.refl sc s)
  · next state => exact h.replies _ _ (.enterClosing _ _ (by rw [state]; rfl) hs)
  · next state => exact h.replies _ _ (.enterClosing _ _ (by rw [state]; rfl) hs)
  · next state => exact h.replies _ _ (.enterClosing _ _ (by rw [state]; rfl) hs)

/-! ### START and AUTHORIZE -/

theorem Event.askStart (c : Caller) (n : Nat) (hs : sc.coherent → s.Settled) :
    s.Event sc (askStart c n s) := by
  refine State.Event.takeRequest _ _ _ fun h => ?_
  unfold serveStart
  split
  · exact h.refuses _
  · next state =>
    have state : (s.arm (armOf n)).state = .authorized := not_not.mp state
    split
    · exact h.refuses _
    · split
      · next b snap _ _ =>
        refine h.replies _ _ ?_
        unfold State.askGrant
        dsimp only
        split
        · next g hg =>
          refine State.Run.admission _ _ g (fun _ => .inl state) (.inr ⟨_, _, rfl⟩) ?_
          unfold Header.answer at hg
          split at hg
          · exact .inl (by rw [← Option.some.inj hg])
          · split at hg
            · exact .inr (Header.offer_fits hg)
            · exact absurd hg (by simp)
        · exact (State.Act.joins _ _ _ _ _ state).run
      · exact h.refuses _

theorem State.authorizes_of_not_refused {a : ArmId} {package preset : Nat}
    (h : s.authorizeRefusal a package preset = none) : s.authorizes a package preset := by
  unfold State.authorizeRefusal at h
  have idle : (s.arm a).state = .idle := by by_contra e; simp [e] at h
  simp only [idle, ne_eq, not_true_eq_false, if_false] at h
  have running : s.restartPending = false := by
    cases e : s.restartPending with
    | false => rfl
    | true => rw [e] at h; simp at h
  simp only [running, Bool.false_eq_true, if_false] at h
  have loaded : s.load ≠ .loadFailed := fun e => by simp [e] at h
  simp only [loaded, if_false] at h
  have configured : (s.arm a).config.isNone = false := by
    cases e : (s.arm a).config.isNone with
    | false => rfl
    | true => rw [e] at h; simp at h
  simp only [configured, Bool.false_eq_true, if_false] at h
  have clear : (s.arm a).authorizable = true := by
    cases e : (s.arm a).authorizable with
    | true => rfl
    | false => rw [e] at h; simp at h
  simp only [clear, Bool.not_true, Bool.false_eq_true, if_false] at h
  have place : s.placeFree (laneOf a) = true := by
    cases e : s.placeFree (laneOf a) with
    | true => rfl
    | false => rw [e] at h; simp at h
  simp only [place, Bool.not_true, Bool.false_eq_true, if_false] at h
  have fields : within 50000 60000000 preset = true ∧ within 0 15 package = true := by
    cases e : (within 50000 60000000 preset && within 0 15 package) with
    | true => exact Bool.and_eq_true_iff.mp e
    | false => rw [e] at h; simp at h
  refine ⟨idle, running, loaded, ?_, Arm.authorizable_iff.mp clear, of_decide_eq_true place, ?_, ?_, ?_⟩
  · cases e : (s.arm a).config <;> simp_all
  · exact (within_iff.mp fields.1).1
  · exact (within_iff.mp fields.1).2
  · exact (within_iff.mp fields.2).2

/-- The step's scope for an AUTHORIZE that is not refused. -/
theorem State.MayBegin.of_authorizes {a : ArmId} {package preset : Nat} (h : s.authorizes a package preset)
    (hl : ∀ d, s.load ≠ .loading d) (hb : (s.arm a).state = .idle → sc.begins = some a) : s.MayBegin sc a := by
  obtain ⟨idle, running, -, configured, -, place, -⟩ := h
  exact ⟨hb idle, idle, configured, running, hl, decide_eq_true place⟩

/-! ### Resolution in the event of the AUTHORIZE -/

/-- A failure in the event of the AUTHORIZE: the arm is as if it had only entered IDLE. -/
theorem Event.failArm_beginAuthorize {c : Caller} {names : Names} (h : s.takes c names) (k : s.Run sc u)
    {a : ArmId} (key : Key) (preset : Nat) (r : Result) (idle : (u.arm a).state = .idle) :
    s.Event sc ((u.beginAuthorize c a key preset).failArm a r) := by
  have e : (u.beginAuthorize c a key preset).failArm a r =
      ((u.toIdle a).holdOutstanding c (.authorize a)).settle (.lane (laneOf a)) (.authorize a) r .nothing := by
    change State.settle (((u.setArm a (·.authorizing key preset)).setArm a Arm.toIdle).holdOutstanding c
      (.authorize a)) _ _ _ _ = _
    rw [State.setArm_setArm]
    rfl
  rw [e]
  exact h.defers (.authorize a) (k.trans (State.Act.idles a fun _ => .inl idle).run) (.settle _ _ _ _ _)

/-- An arm that takes its outcome, in one change (R28, R29). -/
theorem State.authorizeArm_eq (s : State) (a : ArmId) (snap : Snapshot) (page : Option Nat) :
    s.authorizeArm a snap page = (s.setArm a fun arm => (arm.resolve arm.release snap page).toAuthorized
      (s.now + s.authorizeTimeout * 1000 * 1000)).settle (.lane (laneOf a)) (.authorize a) .ok (.recipe snap) := by
  simp only [State.authorizeArm, State.toAuthorized, State.setArm_setArm]
  rfl

/-- The same, where the arm's restricted release changes first. -/
theorem State.authorizeArm_released (s : State) (a : ArmId) (release : Timer) (snap : Snapshot)
    (page : Option Nat) :
    (s.setArm a fun arm => { arm with release := release }).authorizeArm a snap page =
      (s.setArm a fun arm => (arm.resolve release snap page).toAuthorized
        (s.now + s.authorizeTimeout * 1000 * 1000)).settle (.lane (laneOf a)) (.authorize a) .ok
          (.recipe snap) := by
  rw [State.authorizeArm_eq, State.setArm_setArm]
  rfl

theorem Event.authorizeArm_beginAuthorize {c : Caller} {names : Names} (h : s.takes c names) (k : s.Run sc u)
    {a : ArmId} (key : Key) (preset : Nat) (release : Timer) (snap : Snapshot) (page : Option Nat)
    (hb : u.MayBegin sc a) :
    s.Event sc (((u.beginAuthorize c a key preset).setArm a fun arm =>
      { arm with release := release }).authorizeArm a snap page) := by
  have act : u.Run sc _ := (State.Act.begins a key preset snap page release
    (u.now + u.authorizeTimeout * 1000 * 1000) hb).run
  have e : (u.beginAuthorize c a key preset).setArm a (fun arm => (arm.resolve release snap page).toAuthorized
        (u.now + u.authorizeTimeout * 1000 * 1000)) =
      (u.setArm a fun arm => ((arm.authorizing key preset).resolve release snap page).toAuthorized
        (u.now + u.authorizeTimeout * 1000 * 1000)).holdOutstanding c (.authorize a) :=
    congrArg (·.holdOutstanding c (.authorize a)) (State.setArm_setArm u a (·.authorizing key preset)
      fun arm => (arm.resolve release snap page).toAuthorized (u.now + u.authorizeTimeout * 1000 * 1000))
  rw [State.authorizeArm_released]
  refine h.defers (.authorize a) (k.trans act) ?_
  rw [← e]
  exact .settle _ _ _ _ _

theorem State.MayBegin.countLookup {a : ArmId} (h : s.MayBegin sc a) : s.countLookup.MayBegin sc a :=
  ⟨h.begins, h.idle, h.configured, h.running, h.loaded, h.place⟩

theorem Event.stepFour_beginAuthorize {c : Caller} {names : Names} (h : s.takes c names) (k : s.Run sc u)
    {a : ArmId} (key : Key) (preset : Nat) (snap : Snapshot) (page : Nat) (restricted : Bool)
    (hb : u.MayBegin sc a) :
    s.Event sc ((u.beginAuthorize c a key preset).stepFour a snap page restricted) := by
  unfold State.stepFour
  split
  · exact Event.failArm_beginAuthorize h k key preset _ hb.idle
  · dsimp only
    split
    · exact Event.authorizeArm_beginAuthorize h k key preset none snap _ hb
    · have stays : (u.beginAuthorize c a key preset).setArm a (fun arm =>
          { arm with release := ((u.beginAuthorize c a key preset).arm a).release }) =
          u.beginAuthorize c a key preset := State.setArm_id _ a _ rfl
      have := Event.authorizeArm_beginAuthorize h k key preset
        (((u.beginAuthorize c a key preset).arm a).release) snap (some page) hb
      rwa [stays] at this

theorem Event.joinWalk_beginAuthorize {c : Caller} {names : Names} (h : s.takes c names) (k : s.Run sc u)
    {a : ArmId} (key : Key) (preset : Nat) (hb : u.MayBegin sc a) (hc : u.cached key = none) :
    s.Event sc ((u.beginAuthorize c a key preset).joinWalk a key) := by
  unfold State.joinWalk
  split
  · next hw =>
    have walk : ∃ w ∈ u.walks, w.key = key := by
      obtain ⟨w, hw, e⟩ := List.any_eq_true.mp hw
      exact ⟨w, hw, of_decide_eq_true e⟩
    exact h.defers (.authorize a) (k.trans (State.Act.waits a key preset hb walk).run) (.refl sc _)
  · next hw =>
    have fresh : ∀ w ∈ u.walks, w.key ≠ key := fun w hm e =>
      hw (List.any_eq_true.mpr ⟨w, hm, decide_eq_true e⟩)
    exact h.defers (.authorize a) (k.trans (State.Act.walks a key preset hb fresh hc).run) (.advanceStore _)

theorem Event.askAuthorize (c : Caller) (n : Nat) (product : Fin 256) (package preset : Nat)
    (hb : (s.arm (armOf n)).state = .idle → sc.begins = some (armOf n)) :
    s.Event sc (askAuthorize c n product package preset s) := by
  refine State.Event.takeRequest _ _ _ fun h => ?_
  cases hr : s.authorizeRefusal (armOf n) package preset with
  | some r => simp only [serveAuthorize, hr]; exact h.refuses r
  | none =>
    have passes := State.authorizes_of_not_refused hr
    obtain ⟨-, loaded, -⟩ := State.takes_spec h
    have begins := State.MayBegin.of_authorizes passes loaded hb
    rw [serveAuthorize_of_authorizes passes]
    unfold State.resolve
    split
    · split
      · exact Event.failArm_beginAuthorize h (.refl sc s) _ preset _ begins.idle
      · have stays : (s.beginAuthorize c (armOf n) ⟨product.val, package⟩ preset).setArm (armOf n) (fun arm =>
            { arm with release := ((s.beginAuthorize c (armOf n) ⟨product.val, package⟩ preset).arm
              (armOf n)).release }) = s.beginAuthorize c (armOf n) ⟨product.val, package⟩ preset :=
          State.setArm_id _ _ _ rfl
        have := Event.authorizeArm_beginAuthorize h (.refl sc s) ⟨product.val, package⟩ preset
          ((s.beginAuthorize c (armOf n) ⟨product.val, package⟩ preset).arm (armOf n)).release
          (StraightWindow.snapshot ‹_›) none begins
        rwa [stays] at this
    · dsimp only
      split
      · exact Event.stepFour_beginAuthorize h (State.Run.countLookup s) _ preset _ _ _ begins.countLookup
      · next hc => exact Event.joinWalk_beginAuthorize h (State.Run.countLookup s) _ preset begins.countLookup hc

end Sys2Proof.Machine
end

section
/-! PROOFS. The status requests and the supervisor's requests as events. -/

namespace Sys2Proof.Machine
open Sys2Proof

variable {sc : Scope} {s t u : State}

/-! ### Status requests -/

theorem Event.askArmStatus (c : Caller) (n : Nat) : s.Event sc (askArmStatus c n s) :=
  State.Event.takeRequest _ _ _ fun h => h.replies _ _ (.refl sc s)

/-- A port's seen set is no entry. -/
theorem State.Run.setSeen (s : State) (p : Port) (a : ArmId) (fs : FlagSet) : s.Run sc (s.setSeen p a fs) :=
  State.Run.setPort p _ (le_refl _)

theorem Event.askReadFlags (c : Caller) (n : Nat) : s.Event sc (askReadFlags c n s) :=
  State.Event.takeRequest _ _ _ fun h => h.replies _ _ (.setSeen s _ _ _)

theorem Event.askClearFlags (c : Caller) (n : Nat) (mask : BitVec 16) : s.Event sc (askClearFlags c n mask s) := by
  refine State.Event.takeRequest _ _ _ fun h => ?_
  unfold serveClearFlags
  split
  · exact h.refuses _
  · refine h.replies _ _ (.trans (.arm (armOf n) _ (.noted _ _ _ _ _ _ ?_)) (.setSeen _ _ _ _))
    split
    · exact .inl (Nat.zero_le _)
    · exact .inr rfl

theorem Event.askReadRecord (c : Caller) (n : Nat) : s.Event sc (askReadRecord c n s) := by
  refine State.Event.takeRequest _ _ _ fun h => ?_
  unfold serveReadRecord
  split
  · exact h.replies _ _ (.refl sc s)
  · exact h.refuses _

/-- A change of a lane that brings no record in. -/
theorem State.Run.setLane (l : LaneId) (f : Lane → Lane)
    (h : ((f s.lanes[l]).records.map (·.record.number)).Sublist (s.lanes[l].records.map (·.record.number))) :
    s.Run sc (s.setLane l f) := by
  refine (State.Act.lanes _ fun m => ?_).run
  by_cases e : m = l
  · subst e; simpa using h
  · have : l.val ≠ m.val := fun h => e (Fin.ext h.symm)
    simp [this]

theorem Event.askReleaseRecord (c : Caller) (number n : Nat) : s.Event sc (askReleaseRecord c number n s) := by
  refine State.Event.takeRequest _ _ _ fun h => ?_
  unfold serveReleaseRecord
  split
  · exact h.refuses _
  · split
    · exact h.refuses _
    · dsimp only
      split
      · exact h.defers _ (.refl sc s) (.refl sc _)
      · exact h.defers _ (.refl sc s) (.trans (.setLane _ _ (List.Sublist.refl _))
          (.askOp _ _ rfl fun _ => rfl))

theorem Event.askReadTotals (c : Caller) (n : Nat) : s.Event sc (askReadTotals c n s) :=
  State.Event.takeRequest _ _ _ fun h => h.replies _ _ (.refl sc s)

/-! ### Settings -/

/-- A probe record replaced by one that holds together. -/
theorem State.Run.setProbe (ch : Channel) (f : ProbeRecord → ProbeRecord)
    (h : s.scanner.records[ch].sound → (f s.scanner.records[ch]).sound) : s.Run sc (s.setProbe ch f) := by
  refine (State.Act.scanner _ fun hs d => ?_).run
  by_cases e : d = ch
  · subst e; simpa using h (hs d)
  · have : ch.val ≠ d.val := fun h => e (Fin.ext h.symm)
    simpa [this] using hs d

theorem Event.askSetArmConfig (c : Caller) (n : Nat) (config : ArmConfig) :
    s.Event sc (askSetArmConfig c n config s) := by
  refine State.Event.takeRequest _ _ _ fun h => ?_
  unfold serveSetArmConfig
  split
  · exact h.refuses _
  · next idle =>
    split
    · exact h.refuses _
    · next ok =>
      exact h.replies _ _ (.trans (.trans (.arm (armOf n) (·.configure config s.now)
        (.configures _ _ (not_not.mp idle) (by simpa using ok) rfl))
          (.setProbe _ _ fun _ => ProbeRecord.sound_reset)) (.setProbe _ _ fun _ => ProbeRecord.sound_reset))

theorem State.Run.setCapacity (capacity : Nat) (h : s.header.granted ≤ capacity) (hs : sc.coherent → s.Settled) :
    s.Run sc (s.setCapacity capacity) := by
  have act : s.Run sc _ := (State.Act.capacity (sc := sc) capacity h).run
  unfold State.setCapacity
  dsimp only
  split
  · exact act.bind hs fun hs => .examine hs
  · exact act

theorem Event.askSetHeaderCapacity (c : Caller) (capacity : Nat) (hs : sc.coherent → s.Settled) :
    s.Event sc (askSetHeaderCapacity c capacity s) := by
  refine State.Event.takeRequest _ _ _ fun h => ?_
  unfold serveSetHeaderCapacity
  split
  · exact h.refuses _
  · split
    · exact h.refuses _
    · next fits => exact h.replies _ _ (.setCapacity capacity (not_lt.mp fits) hs)

theorem Event.askReadHeader (c : Caller) : s.Event sc (askReadHeader c s) :=
  State.Event.takeRequest _ _ _ fun h => h.replies _ _ (.refl sc s)

theorem Event.askSetAuthorizeTimeout (c : Caller) (seconds : Nat) :
    s.Event sc (askSetAuthorizeTimeout c seconds s) := by
  refine State.Event.takeRequest _ _ _ fun h => ?_
  unfold serveSetAuthorizeTimeout
  split
  · exact h.replies _ _ (State.Act.settings _ _ _ _).run
  · exact h.refuses _

theorem Event.askSetWindow (c : Caller) (window : Nat) (fields : WindowFields) :
    s.Event sc (askSetWindow c window fields s) := by
  refine State.Event.takeRequest _ _ _ fun h => ?_
  unfold serveSetWindow
  split
  · exact h.replies _ _ (State.Act.settings _ _ _ _).run
  · exact h.refuses _

/-- What is done to one arm after another. -/
theorem State.Run.foldl {α : Type} (f : State → α → State) (h : ∀ (s : State) (x : α), s.Run sc (f s x)) (xs : List α) :
    ∀ s : State, s.Run sc (xs.foldl f s) := by
  induction xs with
  | nil => exact fun s => .refl sc s
  | cons x xs ih => exact fun s => (h s x).trans (ih _)

theorem Event.askSetAdditiveService (c : Caller) (code setting : Nat) :
    s.Event sc (askSetAdditiveService c code setting s) := by
  refine State.Event.takeRequest _ _ _ fun h => ?_
  unfold serveSetAdditiveService
  split
  · exact h.refuses _
  · split
    · exact h.replies _ _ (.refl sc s)
    · split
      · exact h.replies _ _ (.trans (State.Act.settings _ _ _ _).run
          (.foldl _ (fun s a => State.Run.tryStrokes s a) _ _))
      · exact h.replies _ _ (.trans (State.Act.settings _ _ _ _).run
          (.foldl _ (fun s a => State.Run.addCauseIf s _ a _) _ _))

theorem Event.askReleaseRestricted (c : Caller) (n : Nat) : s.Event sc (askReleaseRestricted c n s) :=
  State.Event.takeRequest _ _ _ fun h =>
    h.replies _ _ (.arm (armOf n) _ (.noted _ _ _ _ _ _ (.inr rfl)))

theorem Event.askSetMonitor (c : Caller) (mode n : Nat) : s.Event sc (askSetMonitor c mode n s) := by
  refine State.Event.takeRequest _ _ _ fun h => ?_
  unfold serveSetMonitor
  split
  · exact h.refuses _
  · exact h.replies _ _ (State.Act.monitor _ fun _ => Nat.zero_le _).run

theorem Event.askSetAlertModes (c : Caller) (n : Nat) (selection : Byte) :
    s.Event sc (askSetAlertModes c n selection s) := by
  refine State.Event.takeRequest _ _ _ fun h => ?_
  unfold serveSetAlertModes
  split
  · exact h.refuses _
  · exact h.replies _ _ (.setLane _ _ (List.Sublist.refl _))

/-- Settings and conversions of the scanner leave its records. -/
theorem State.Run.scanner (k : Scanner) (h : k.records = s.scanner.records) : s.Run sc { s with scanner := k } :=
  (State.Act.scanner k fun hs ch => by rw [h]; exact hs ch).run

theorem Event.askRestart (c : Caller) : s.Event sc (askRestart c s) := by
  refine State.Event.takeRequest _ _ _ fun h => ?_
  unfold serveRestart
  split
  · next idle =>
    have abandoned : s.Run sc (s.setConversion none) := State.Run.scanner _ rfl
    have pending := abandoned.trans (State.Act.restarts (s := s.setConversion none) idle).run
    refine h.defers .restart (pending.trans (.queue (s.storeQueue.map fun q => { q with carried := true })
      ?_ fun hc a => ?_)) (.advanceStore _)
    · simp [List.map_map, Function.comp_def]
    · have := hc a
      simpa [List.filter_map, Function.comp_def] using this
  · exact h.refuses _

/-! ### Recipe and scanner requests -/

theorem Event.serveStore {c : Caller} {names : Names} (h : s.takes c names) (ok : Bool) (op : StoreOp)
    (hw : op.walkKey = none) (hc : ∀ a, op.isCheckpoint a = false) : s.Event sc (serveStore c ok op s) := by
  unfold Machine.serveStore
  split
  · exact h.defers .store (.refl sc s) (.askOp _ _ hw hc)
  · exact h.refuses _

theorem Event.askReadDirectoryEntry (c : Caller) (product : Nat) :
    s.Event sc (askReadDirectoryEntry c product s) :=
  State.Event.takeRequest _ _ _ fun h => Event.serveStore h _ _ rfl fun _ => rfl

theorem Event.askWriteDirectoryEntry (c : Caller) (product : Nat) (fields : EntryFields) :
    s.Event sc (askWriteDirectoryEntry c product fields s) :=
  State.Event.takeRequest _ _ _ fun h => Event.serveStore h _ _ rfl fun _ => rfl

theorem Event.askReadRecipe (c : Caller) (page package : Nat) : s.Event sc (askReadRecipe c page package s) :=
  State.Event.takeRequest _ _ _ fun h => Event.serveStore h _ _ rfl fun _ => rfl

theorem Event.askWriteRecipe (c : Caller) (page package : Nat) (fields : RecipeFields) :
    s.Event sc (askWriteRecipe c page package fields s) :=
  State.Event.takeRequest _ _ _ fun h => Event.serveStore h _ _ rfl fun _ => rfl

theorem Event.askFlushAll (c : Caller) : s.Event sc (askFlushAll c s) :=
  State.Event.takeRequest _ _ _ fun h => h.replies _ _ (.invalidate s _)

theorem Event.askFlushProduct (c : Caller) (product : Nat) : s.Event sc (askFlushProduct c product s) := by
  refine State.Event.takeRequest _ _ _ fun h => ?_
  split
  · exact h.replies _ _ (.invalidate s _)
  · exact h.refuses _

theorem Event.askClearUsage (c : Caller) (product : Nat) : s.Event sc (askClearUsage c product s) :=
  State.Event.takeRequest _ _ _ fun h => Event.serveStore h _ _ rfl fun _ => rfl

theorem Event.askSetScan (c : Caller) (k : ScanSettings) : s.Event sc (askSetScan c k s) := by
  refine State.Event.takeRequest _ _ _ fun h => ?_
  unfold serveSetScan
  split
  · exact h.refuses _
  · split
    · exact h.refuses _
    · exact h.replies _ _ (.scanner _ rfl)

theorem Event.askStartScan (c : Caller) : s.Event sc (askStartScan c s) := by
  refine State.Event.takeRequest _ _ _ fun h => ?_
  unfold serveStartScan
  split
  · exact h.replies _ _ (.refl sc s)
  · exact h.replies _ _ (.scanner _ rfl)

theorem Event.askStopScan (c : Caller) : s.Event sc (askStopScan c s) :=
  State.Event.takeRequest _ _ _ fun h => h.replies _ _ (.scanner _ rfl)

theorem Event.askReadProbes (c : Caller) : s.Event sc (askReadProbes c s) :=
  State.Event.takeRequest _ _ _ fun h => h.replies _ _ (.refl sc s)

end Sys2Proof.Machine
end

section
/-! PROOFS. The field and injector events as runs of acts. -/

namespace Sys2Proof.Machine
open Sys2Proof

variable {sc : Scope} {s t u : State}

/-! ### Meters and timers -/

theorem Arm.mode_meter (arm : Arm) (x : Component) (f : Meter → Meter) (h : ∀ m, (f m).mode = m.mode) :
    (arm.setMeter x f).meterG.mode = arm.meterG.mode ∧ (arm.setMeter x f).meterE.mode = arm.meterE.mode := by
  cases x <;> simp [Arm.setMeter, h]

/-- One meter changed, in range and in its mode. -/
theorem Arm.Act.setMeter (arm : Arm) (x : Component) (f : Meter → Meter) (mode : (f (arm.meter x)).mode = (arm.meter x).mode)
    (range : (arm.meter x).inRange → (f (arm.meter x)).inRange) : arm.Act (arm.setMeter x f) := by
  cases x
  · exact .meters _ arm.meterE mode rfl range id
  · exact .meters arm.meterG _ rfl mode id range

theorem Meter.inRange_countA {m : Meter} (h : m.inRange) (hc : m.countA < 65535) :
    Meter.inRange { m with countA := m.countA + 1 } := by
  obtain ⟨-, b, rest⟩ := h
  exact ⟨hc, b, rest⟩

theorem Meter.inRange_countIdle {m : Meter} (h : m.inRange) : m.countIdle.inRange := by
  obtain ⟨ha, hb, hm, hi, -⟩ := h
  refine ⟨ha, hb, hm, ?_, ?_⟩
  · simp only [Meter.countIdle]; split <;> omega
  · simp only [Meter.countIdle, wrapPulses]; omega

theorem Meter.inRange_pulseB {m : Meter} (h : m.inRange) : m.pulseB.inRange := by
  obtain ⟨ha, hb, rest⟩ := h
  unfold Meter.pulseB
  split
  · exact ⟨ha, by simp only [hold16]; omega, rest⟩
  · exact ⟨ha, hb, rest⟩

theorem Meter.mode_pulseB (m : Meter) : m.pulseB.mode = m.mode := by
  unfold Meter.pulseB; split <;> rfl

theorem Arm.state_countWindowA (arm : Arm) (x : Component) : (arm.countWindowA x).state = arm.state := by
  unfold Arm.countWindowA; split
  · rfl
  · cases x <;> rfl

theorem State.Run.pulseA (s : State) (a : ArmId) (x : Component) : s.Run sc (s.pulseA a x) := by
  unfold State.pulseA
  split
  · have counted : s.Run sc (s.setArm a (·.countWindowA x)) := by
      refine State.Run.arm a _ ?_
      unfold Arm.countWindowA
      split
      · exact .saturates
      · next h => exact .setMeter _ x _ rfl fun hr => Meter.inRange_countA hr (not_le.mp h)
    have e : (s.setArm a fun arm => (arm.countWindowA x).restartDrain s.now) =
        (s.setArm a (·.countWindowA x)).setArm a (·.restartDrain s.now) :=
      (State.setArm_setArm s a (·.countWindowA x) (·.restartDrain s.now)).symm
    rw [e]
    by_cases h : ((s.setArm a (·.countWindowA x)).arm a).state = .closing ∧
        ((s.setArm a (·.countWindowA x)).arm a).drainTimer.isSome = true
    · refine counted.trans (State.Run.arm a _ ?_)
      unfold Arm.restartDrain
      rw [if_pos h]
      exact .drains _ h.1
    · rw [State.setArm_id _ a _ (by unfold Arm.restartDrain; rw [if_neg h])]
      exact counted
  · unfold State.idlePulse
    have counted : s.Run sc (s.setArm a (·.setMeter x Meter.countIdle)) :=
      State.Run.arm a _ (.setMeter _ x _ rfl Meter.inRange_countIdle)
    dsimp only
    split
    · exact (counted.trans (.setFlag _ a _)).trans (.askCheckpoint _ a)
    · exact counted

theorem State.Run.pulseB (s : State) (a : ArmId) (x : Component) : s.Run sc (s.setArm a (·.setMeter x Meter.pulseB)) :=
  State.Run.arm a _ (.setMeter _ x _ (Meter.mode_pulseB _) Meter.inRange_pulseB)

theorem State.Run.permissiveLost (a : ArmId) (hs : sc.coherent → s.Settled)
    (hl : (s.arm a).state = .waitingHeader → sc.leaves = some a) :
    s.Run sc (if (s.arm a).permissive then
      (s.setArm a fun x => { x with permissive := false }).losePermissive a else s) := by
  split
  · have lost : s.Run sc (s.setArm a fun x => { x with permissive := false }) :=
      State.Run.arm a _ (.noted _ _ _ _ _ _ (.inr rfl))
    refine lost.bind hs fun hs => ?_
    unfold State.losePermissive
    split
    · next state =>
      refine (State.Run.leaveQueue a (hl ?_) hs).trans
        (State.Act.requeues a _ fun hc => State.leaveQueue_waits hs state hc).run
      rwa [State.arm_setArm_self] at state
    · exact State.Run.addCause _ a _
  · exact .refl sc s

theorem State.Run.authorizeExpiry (s : State) (a : ArmId) : s.Run sc (s.authorizeExpiry a) := by
  unfold State.authorizeExpiry
  split
  · next d state _ =>
    exact (State.Run.reach s d).trans (State.Act.idles (s := s.reach d) a fun _ => .inr (.inl state)).run
  · exact .refl sc s

theorem State.Run.holdExpiry (a : ArmId) (hs : sc.coherent → s.Settled) : s.Run sc (s.holdExpiry a) := by
  unfold State.holdExpiry
  split
  · next o d state _ =>
    exact (State.Run.reach s d).bind hs fun hs => .enterClosing (s := s.reach d) a _ (by
      rw [State.arm_reach, state]; rfl) hs
  · exact .refl sc s

/-! ### Windows -/

theorem State.state_setFlagIf (s : State) (b : Bool) (a x : ArmId) (f : Flag) :
    ((s.setFlagIf b a f).arm x).state = (s.arm x).state := by
  unfold State.setFlagIf; split
  · rw [State.arm_setFlag]
    split
    · next e => rw [e]
    · rfl
  · rfl

theorem Arm.takesCause_of_closing {arm : Arm} (h : arm.state = .closing) (c : HoldCause) (now : Nat) :
    arm.takesCause c now = arm := Arm.takesCause_of_not_underway (by rw [h]; rfl) c now

/-- The placing of a request changes no arm's state. -/
theorem State.state_place (s : State) (r : TrimRequest) (x : ArmId) :
    ((s.place r).arm x).state = (s.arm x).state := by
  have kept : ∀ (v : State) (f : Arm → Arm), (∀ arm, (f arm).state = arm.state) →
      ((v.setArm r.arm f).arm x).state = (v.arm x).state := fun v f h => by
    rw [State.arm_setArm]
    split
    · next e => rw [h, e]
    · rfl
  unfold State.place
  split
  · have flagged := fun v => State.state_setFlagIf v true r.arm x .trimOverrun
    refine (flagged _).trans ?_
    split
    · exact (kept _ Arm.markSaturated fun _ => rfl).trans
        (kept _ (fun arm => { arm with overrun := hold16 (arm.overrun + 1) }) fun _ => rfl)
    · exact kept _ (fun arm => { arm with overrun := hold16 (arm.overrun + 1) }) fun _ => rfl
  · rfl

/-- The closing of a window leaves a CLOSING arm in its state. -/
theorem State.closing_closeWindow {a : ArmId} (h : (s.arm a).state = .closing) (duration : Nat) (final : Bool) :
    ((s.closeWindow a duration final).arm a).state = .closing := by
  have handed : ((s.handOver a).arm a).state = .closing := by
    unfold State.handOver
    dsimp only
    have flagged : ((((s.setArm a (·.setMeters Meter.handOver)).setFlagIf (s.arm a).meterG.faults a
        .meterG).setFlagIf (s.arm a).meterE.faults a .meterE).arm a).state = .closing := by
      rw [State.state_setFlagIf, State.state_setFlagIf, State.arm_setArm_self]; exact h
    unfold State.addCauseIf
    split
    · rw [State.addCause_eq, State.arm_setArm_self, Arm.takesCause_of_closing flagged]; exact flagged
    · exact flagged
  have placed := (State.state_place (s.handOver a) (s.closingRequest a duration final) a).trans handed
  unfold State.closeWindow State.bauTake
  split
  · exact placed
  · exact placed

theorem State.Run.drainExpires (s : State) (a : ArmId) : s.Run sc (s.drainExpires a) := by
  unfold State.drainExpires
  split
  · next d state _ =>
    dsimp only
    have closed : s.Run sc _ := (State.Run.reach s d).trans (.closeWindow (s.reach d) a ((s.reach d).finalDuration a) true)
    exact closed.trans (.arm a _ (.drained (State.closing_closeWindow (s := s.reach d) state _ _)))
  · exact .refl sc s

theorem State.Run.windowExpires (s : State) (a : ArmId) : s.Run sc (s.windowExpires a) := by
  unfold State.windowExpires
  split
  · next d p _ _ =>
    exact ((State.Run.reach s d).trans (.closeWindow (s.reach d) a p false)).trans
      (.arm a (·.startWindow (s.reach d).now p) (.windows _ _))
  · exact .refl sc s

theorem State.Run.releaseLapses (s : State) (a : ArmId) : s.Run sc (s.releaseLapses a) := by
  unfold State.releaseLapses
  split
  · exact (State.Run.reach s _).trans (.arm a _ (.noted _ _ _ _ _ _ (.inr rfl)))
  · exact .refl sc s

theorem State.Run.computationCompletes (hs : sc.coherent → s.Settled) : s.Run sc s.computationCompletes := by
  unfold State.computationCompletes
  split
  · next k _ =>
    have free : s.Run sc { s.reach (k.started + 200) with bau := none } :=
      (State.Run.reach s _).trans (State.Act.bau (s := s.reach (k.started + 200)) s.arithmeticQueue none id).run
    exact (free.bind hs fun hs => .finishComputation k.request hs).trans (.bauTake _)
  · exact .refl sc s

/-! ### Injector events -/

/-- One slot in a stroke cycle changes. -/
theorem Arm.Act.setSlot (arm : Arm) (i : SlotId) (f : Slot → Slot) (due : (f arm.slots[i]).due = arm.slots[i].due)
    (sound : arm.slots[i].sound → (f arm.slots[i]).sound) (busy : arm.slots[i].phase ≠ .ready) :
    arm.Act (arm.setSlot i f) := by
  refine .strokes _ (fun j => ?_) (fun j hj => ?_) fun _ j hj => ?_
  all_goals
    by_cases e : i = j
    · subst e; simp_all
    · have : i.val ≠ j.val := fun h => e (Fin.ext h)
      simp_all

/-! A slot in a cycle, through the cycle's steps. -/

theorem Slot.sound_awaiting {slot : Slot} (phase : slot.phase = .stroking .unresolved) (h : slot.sound) :
    Slot.sound { slot with phase := .awaitVerify, pulseTimer := none } := by
  simpa [Slot.sound, phase] using h

theorem Slot.sound_toReady {slot : Slot} (h : slot.sound) : slot.toReady.sound := by
  obtain ⟨issued, counts⟩ := h
  exact ⟨issued, by simp [Slot.toReady] at counts ⊢; omega⟩

/-- A stroke that is still unresolved. -/
def Slot.pending (slot : Slot) : Prop := slot.phase = .stroking .unresolved ∨ slot.phase = .awaitVerify

theorem Slot.sound.room {slot : Slot} (h : slot.sound) (pending : slot.pending) :
    slot.issued ≤ slot.due ∧ slot.verified + slot.missed + 1 ≤ slot.issued := by
  obtain ⟨issued, counts⟩ := h
  rw [if_pos (show _ ∨ _ from pending)] at counts
  exact ⟨issued, counts⟩

theorem Slot.sound_verified {slot : Slot} (pending : slot.pending) (h : slot.sound) :
    Slot.sound { slot.verify with phase := .stroking .verified } := by
  obtain ⟨issued, room⟩ := h.room pending
  exact ⟨issued, by simp [Slot.verify]; omega⟩

theorem Slot.sound_verify_toReady {slot : Slot} (pending : slot.pending) (h : slot.sound) :
    slot.verify.toReady.sound := by
  obtain ⟨issued, room⟩ := h.room pending
  exact ⟨issued, by simp [Slot.verify, Slot.toReady]; omega⟩

theorem Slot.sound_missed {slot : Slot} (reached : Bool) (pending : slot.pending) (h : slot.sound) :
    Slot.sound { slot.miss reached with phase := .stroking .missed } := by
  obtain ⟨issued, room⟩ := h.room pending
  exact ⟨issued, by simp [Slot.miss]; omega⟩

theorem Slot.sound_miss_toReady {slot : Slot} (reached : Bool) (pending : slot.pending) (h : slot.sound) :
    (slot.miss reached).toReady.sound := by
  obtain ⟨issued, room⟩ := h.room pending
  exact ⟨issued, by simp [Slot.miss, Slot.toReady]; omega⟩

theorem State.Run.cycleEnds (a : ArmId) (i : SlotId) (hs : sc.coherent → s.Settled) :
    s.Run sc (s.cycleEnds a i) :=
  (State.Run.tryStroke s a i).bind hs fun hs => .tryClose a hs

/-- A slot in a stroke cycle changes after an expiry at `d`. -/
theorem State.Run.slot (a : ArmId) (i : SlotId) (d : Nat) (f : Slot → Slot)
    (due : (f (s.arm a).slots[i]).due = (s.arm a).slots[i].due)
    (sound : (s.arm a).slots[i].sound → (f (s.arm a).slots[i]).sound)
    (busy : (s.arm a).slots[i].phase ≠ .ready) : s.Run sc ((s.reach d).setArm a (·.setSlot i f)) :=
  (State.Run.reach s d).trans (.arm a _ (.setSlot _ i f due sound busy))

theorem State.Run.pulseEnds (a : ArmId) (i : SlotId) (hs : sc.coherent → s.Settled) :
    s.Run sc (s.pulseEnds a i) := by
  unfold State.pulseEnds
  split
  · next d phase _ => exact .slot a i d _ rfl (Slot.sound_awaiting phase) (by rw [phase]; decide)
  · next o d _ phase _ =>
    exact (State.Run.slot a i d Slot.toReady rfl Slot.sound_toReady (by rw [phase]; simp)).bind hs fun hs => .cycleEnds a i hs
  · exact .refl sc s

theorem State.Run.verifyEdge (a : ArmId) (i : SlotId) (hs : sc.coherent → s.Settled) :
    s.Run sc (s.verifyEdge a i) := by
  unfold State.verifyEdge
  split
  · next phase =>
    exact .arm a _ (.setSlot _ i _ rfl (Slot.sound_verified (.inl phase)) (by rw [phase]; decide))
  · next phase =>
    have ready : s.Run sc (s.setArm a (·.setSlot i fun x => x.verify.toReady)) :=
      .arm a _ (.setSlot _ i _ rfl (Slot.sound_verify_toReady (.inr phase)) (by rw [phase]; decide))
    exact ready.bind hs fun hs => .cycleEnds a i hs
  · exact .refl sc s

theorem State.Run.injectorFaultIf (s : State) (b : Bool) (a : ArmId) : s.Run sc (s.injectorFaultIf b a) := by
  unfold State.injectorFaultIf; split
  · exact (State.Run.setFlag s a _).trans (.addCauseIf _ _ a _)
  · exact .refl sc s

theorem State.Run.verifyExpires (a : ArmId) (i : SlotId) (hs : sc.coherent → s.Settled) :
    s.Run sc (s.verifyExpires a i) := by
  unfold State.verifyExpires
  dsimp only
  split
  · next d phase _ =>
    exact (State.Run.slot a i d _ rfl (Slot.sound_missed _ (.inl phase)) (by rw [phase]; decide)).trans
      (.injectorFaultIf _ _ a)
  · next d phase _ =>
    exact ((State.Run.slot a i d _ rfl (Slot.sound_miss_toReady _ (.inr phase)) (by rw [phase]; decide)).trans
      (.injectorFaultIf _ _ a)).bind hs fun hs => .cycleEnds a i hs
  · exact .refl sc s

theorem State.Run.periodStarts (s : State) (a : ArmId) : s.Run sc (s.periodStarts a) := by
  unfold State.periodStarts
  split
  · exact (State.Run.reach s _).trans (.arm a _ (.drives _ rfl))
  · exact .refl sc s

/-! ### Scanner events -/

theorem ProbeRecord.sound_reject {p : ProbeRecord} (h : p.sound) : p.reject.sound := by
  obtain ⟨rejects, good, timer, last⟩ := h
  unfold ProbeRecord.reject
  refine ⟨min_le_left _ _, fun hg => ?_, ?_, ?_⟩
  · dsimp only at hg ⊢
    split at hg
    · exact absurd hg (by simp)
    · next e => have := good hg; simp only [hg, true_and] at e; omega
  · dsimp only
    rw [timer]
    split
    · next e => simp [e.1]
    · rfl
  · dsimp only
    rw [last]
    split
    · next e => simp [e.1]
    · rfl

theorem State.Run.recordResult (s : State) (ch : Channel) (temperature : Option Int) :
    s.Run sc (s.recordResult ch temperature) := by
  unfold State.recordResult
  split
  · unfold State.recordTemperature
    dsimp only
    split
    · exact .setProbe _ _ fun _ => ⟨Nat.zero_le _, fun _ => Nat.zero_le _,
        by simp [ProbeRecord.accept, State.timerMs], by simp [ProbeRecord.accept]⟩
    · exact (State.Run.setProbe _ _ ProbeRecord.sound_reject).trans (.setFlagIf _ _ _ _)
  · exact .refl sc s

theorem State.Run.conversionCompletes (s : State) (code : BitVec 16) : s.Run sc (s.conversionCompletes code) := by
  unfold State.conversionCompletes
  split
  · exact (((State.Run.reach s _).trans (.recordResult _ _ _)).trans (.monitorProbe _ _)).trans (.scanner _ rfl)
  · exact .refl sc s

theorem State.Run.staleExpires (s : State) (ch : Channel) : s.Run sc (s.staleExpires ch) := by
  unfold State.staleExpires
  split
  · next d _ =>
    split
    · next hst =>
      refine ((State.Run.reach s d).trans (.setProbe ch _ fun hs => ?_)).trans (.setFlag _ _ _)
      obtain ⟨rejects, -, -, last⟩ := hs
      refine ⟨rejects, by simp [ProbeRecord.toStale], by simp [ProbeRecord.toStale], ?_⟩
      have : s.scanner.records[ch].last ≠ none := fun e => by
        have none := last.mp e
        rw [State.reach_scanner] at none
        rcases hst with e | e <;> rw [e] at none <;> exact ProbeState.noConfusion none
      simpa [ProbeRecord.toStale] using this
    · exact .refl sc s
  · exact .refl sc s

end Sys2Proof.Machine
end

section
/-! PROOFS. Store completions, the load, the resets and the links as runs of acts. -/

namespace Sys2Proof.Machine
open Sys2Proof

variable {sc : Scope} {s t u : State}

/-! ### What the store operations leave in the store -/

theorem Bus.wf_runWalk (key : Key) {b : Bus} (h : Store.wf b.store = true) :
    Store.wf (runWalk key b).2.store = true := by
  have hr := Bus.read_store b asEntry (directoryAt key.product)
  unfold runWalk
  split
  · next b' e => rw [e] at hr; rw [← hr] at h; exact h
  · next entry b' e =>
    rw [e] at hr
    rw [← hr] at h
    split
    · exact h
    · have hr' := Bus.read_store b' asRecipe (recipeAt entry.page key.package)
      split
      · next b'' e' => rw [e'] at hr'; rw [← hr'] at h; exact h
      · next r b'' e' =>
        rw [e'] at hr'
        rw [← hr'] at h
        split
        · exact h
        · split
          · exact h
          · have hw := Bus.wf_write b'' (directoryAt key.product) (.entry { entry with used := true }) h
            split
            · next e'' => rw [e''] at hw; exact hw
            · next e'' => rw [e''] at hw; exact hw

theorem Bus.wf_runDispensed (page package : Nat) {b : Bus} (h : Store.wf b.store = true) :
    Store.wf (runDispensed page package b).2.store = true := by
  have hr := Bus.read_store b asRecipe (recipeAt page package)
  unfold runDispensed
  split
  · next b' e => rw [e] at hr; rw [← hr] at h; exact h
  · next r b' e =>
    rw [e] at hr
    rw [← hr] at h
    split
    · exact Bus.wf_write _ _ _ h
    · exact h

theorem Bus.wf_runRecordFree (l : LaneId) (slot : Nat) (unsaved : Option (ArmId × Nat)) {b : Bus}
    (h : Store.wf b.store = true) : Store.wf (runRecordFree l slot unsaved b).2.store = true := by
  have hw := Bus.wf_write b (slotAt l slot) (.slot none) h
  unfold runRecordFree
  split
  · next b' e => rw [e] at hw; exact hw
  · next b' e =>
    rw [e] at hw
    split
    · exact hw
    · next a number =>
      have hr := Bus.read_store b' asMarker (markerAt a)
      split
      · next b'' e' => rw [e'] at hr; exact hr.symm ▸ hw
      · next m b'' e' =>
        rw [e'] at hr
        have hw' : Store.wf b''.store = true := hr.symm ▸ hw
        split
        · exact Bus.wf_write _ _ _ hw'
        · exact hw'

theorem Bus.wf_clearDispensed (page : Nat) (n : Nat) : ∀ (package : Nat) {b : Bus}, Store.wf b.store = true →
    Store.wf (clearDispensed page n package b).2.store = true := by
  induction n with
  | zero => exact fun _ _ h => h
  | succ n ih =>
    intro package b h
    have hr := Bus.read_store b asRecipe (recipeAt page package)
    unfold clearDispensed
    split
    · next b' e => rw [e] at hr; exact hr.symm ▸ h
    · next r b' e =>
      rw [e] at hr
      have h' : Store.wf b'.store = true := hr.symm ▸ h
      split
      · have hw := Bus.wf_write b' (recipeAt page package) (.recipe { r with dispensed := false }) h'
        split
        · next e' => rw [e'] at hw; exact ih _ hw
        · next e' => rw [e'] at hw; exact hw
      · exact ih _ h'

theorem Bus.wf_runUsageClear (product : Nat) {b : Bus} (h : Store.wf b.store = true) :
    Store.wf (runUsageClear product b).2.store = true := by
  have hr := Bus.read_store b asEntry (directoryAt product)
  unfold runUsageClear
  split
  · next b' e => rw [e] at hr; exact hr.symm ▸ h
  · next entry b' e =>
    rw [e] at hr
    have h' : Store.wf b'.store = true := hr.symm ▸ h
    split
    · exact h'
    · have hw := Bus.wf_write b' (directoryAt product) (.entry { entry with used := false }) h'
      split
      · next e' => rw [e'] at hw; exact hw
      · next b'' e' =>
        rw [e'] at hw
        have hd := Bus.wf_clearDispensed entry.page 16 0 hw
        split
        · next e'' => rw [e''] at hd; exact hd
        · next e'' => rw [e''] at hd; exact hd

/-- Every operation keeps the store canonical. -/
theorem StoreOp.wf_run (op : StoreOp) (counter : Nat) (unsaved : Option (ArmId × Nat)) {b : Bus}
    (h : Store.wf b.store = true) : Store.wf (op.run counter unsaved b).store = true := by
  cases op with
  | walk key => exact Bus.wf_runWalk key h
  | dispensed page package _ => exact Bus.wf_runDispensed page package h
  | checkpointOpen a m => exact Bus.wf_writeAll _ b h
  | checkpointIdle a t => exact Bus.wf_writeAll _ b h
  | close a slot r t => exact Bus.wf_writeAll _ b h
  | recordFree l slot => exact Bus.wf_runRecordFree l slot unsaved h
  | readEntry p => exact (Bus.read_store b asEntry _).symm ▸ h
  | readRecipe page package => exact (Bus.read_store b asRecipe _).symm ▸ h
  | writeEntry p e => exact Bus.wf_write b _ _ h
  | writeRecipe page package r => exact Bus.wf_write b _ _ h
  | usageClear p => exact Bus.wf_runUsageClear p h

/-! ### Completions -/

theorem State.Run.leaveBus (started : Nat) (b : Bus) (hb : Store.wf s.store = true → Store.wf b.store = true) :
    s.Run sc (s.leaveBus started b) :=
  (State.Run.reach s _).trans (State.Act.finishes (s := s.reach (started + b.items * 1000)) b.store hb).run

/-- An outcome handed to a waiter changes that arm and the ports alone. -/
theorem State.handOutcome_frame (o : WalkOutcome) (s : State) (a : ArmId) :
    ∃ x ps, s.handOutcome o a = { s.setArm a fun _ => x with ports := ps } := by
  have failed : ∀ r, ∃ x ps, s.failArm a r = { s.setArm a fun _ => x with ports := ps } :=
    fun r => ⟨(s.arm a).toIdle, _, rfl⟩
  unfold State.handOutcome
  split
  · next r page restricted =>
    unfold State.stepFour
    split
    · exact failed _
    · dsimp only
      split
      · rw [State.authorizeArm_released]; exact ⟨_, _, rfl⟩
      · rw [State.authorizeArm_eq]; exact ⟨_, _, rfl⟩
  · exact failed _
  · exact failed _
  · have idled : (s.setFlag a .store).toIdle a = { s.setArm a fun _ =>
        ({ s.arm a with flags := FlagSet.add (s.arm a).flags .store } : Arm).toIdle with
          ports := (s.setFlag a .store).ports } := by
      simp [State.toIdle, State.setFlag, State.setArm, State.arm, Vector.set_set]
    refine ⟨({ s.arm a with flags := FlagSet.add (s.arm a).flags .store } : Arm).toIdle, ((s.setFlag a .store).failArm a .storeFault).ports, ?_⟩
    rw [State.failArm, idled]
    rfl

theorem State.Run.failArm (a : ArmId) (r : Result)
    (hs : sc.coherent → (s.arm a).state = .authorizing ∧ a ∉ s.waiters) : s.Run sc (s.failArm a r) :=
  (State.Act.idles a fun hc => .inr (.inr (.inr (hs hc)))).run.trans (.settle _ _ _ _ _)

theorem State.Run.handOutcome (o : WalkOutcome) (a : ArmId)
    (hs : sc.coherent → (s.arm a).state = .authorizing ∧ a ∉ s.waiters) : s.Run sc (s.handOutcome o a) := by
  unfold State.handOutcome
  split
  · unfold State.stepFour
    split
    · exact .failArm a _ hs
    · dsimp only
      split
      · rw [State.authorizeArm_released]
        exact (State.Act.resolves a _ _ _ _ hs).run.trans (.settle _ _ _ _ _)
      · rw [State.authorizeArm_eq]
        exact (State.Act.resolves a (s.arm a).release _ _ _ hs).run.trans (.settle _ _ _ _ _)
  · exact .failArm a _ hs
  · exact .failArm a _ hs
  · refine (State.Run.setFlag s a .store).trans (.failArm a _ fun hc => ⟨?_, (hs hc).2⟩)
    have := State.state_setFlagIf s true a a .store
    exact this.trans (hs hc).1

/-- A walk's outcome handed to its waiters, one after another. -/
theorem State.Run.handOutcomes (o : WalkOutcome) (ws : List ArmId) : ∀ s : State,
    (sc.coherent → ws.Nodup ∧ ∀ a ∈ ws, (s.arm a).state = .authorizing ∧ a ∉ s.waiters) →
      s.Run sc (ws.foldl (State.handOutcome o) s) := by
  induction ws with
  | nil => exact fun s _ => .refl sc s
  | cons a ws ih =>
    intro s hs
    refine (State.Run.handOutcome o a fun hc => (hs hc).2 a (by simp)).trans (ih _ fun hc => ?_)
    obtain ⟨nodup, waiting⟩ := hs hc
    obtain ⟨fresh, nodup⟩ := List.nodup_cons.mp nodup
    obtain ⟨x, ps, e⟩ := State.handOutcome_frame o s a
    refine ⟨nodup, fun b hb => ?_⟩
    have ne : b ≠ a := fun h => fresh (h ▸ hb)
    obtain ⟨state, out⟩ := waiting b (List.mem_cons_of_mem a hb)
    rw [e]
    exact ⟨by rw [← state]; exact congrArg Arm.state (State.arm_setArm_of_ne s (fun _ => x) ne), out⟩

/-- The waiters of a walk stand once among them and on no other walk. -/
theorem State.waitersOf_apart (once : s.waiters.Nodup) (key : Key) :
    (s.waitersOf key).Nodup ∧ ∀ a ∈ s.waitersOf key, a ∈ s.waiters ∧
      ∀ w ∈ s.walks, w.key ≠ key → a ∉ w.waiters := by
  unfold State.waitersOf
  split
  · next v hv =>
    have mem := List.mem_of_find?_eq_some hv
    have key_v : v.key = key := by simpa using List.find?_some hv
    obtain ⟨each, apart⟩ := List.nodup_flatMap.mp once
    refine ⟨each v mem, fun a ha => ⟨State.mem_waiters.mpr ⟨v, mem, ha⟩, fun w hw hne ha' => ?_⟩⟩
    have ne : v ≠ w := fun e => hne (e ▸ key_v)
    exact pairwise_forall (R := Function.onFun List.Disjoint WalkEntry.waiters)
      (fun _ _ h => List.Disjoint.symm h) apart mem hw ne ha ha'
  · exact ⟨List.nodup_nil, fun a ha => absurd ha (by simp)⟩

theorem State.Run.finishWalk (key : Key) (started : Nat) (o : WalkOutcome) (b : Bus)
    (hk : s.current.bind (·.op.walkKey) = some key)
    (hb : Store.wf s.store = true → Store.wf b.store = true) (hs : sc.coherent → s.coherent) :
    s.Run sc ((s.leaveBus started b).finishWalk key o) := by
  have filled : ∃ places : Vector (Option CacheEntry) 32,
      (s.leaveBus started b).fillFrom key o = { s.leaveBus started b with cache := places } ∧
        (places = s.cache ∨ ∃ e : CacheEntry, e.key = key ∧ places = s.cache.set (s.fillPlace key) (some e)) := by
    unfold State.fillFrom
    split
    · exact ⟨_, rfl, .inr ⟨_, rfl, rfl⟩⟩
    · exact ⟨_, rfl, .inl rfl⟩
  obtain ⟨places, e, hp⟩ := filled
  have ends : s.Run sc { s.leaveBus started b with
      cache := places, walks := s.walks.filter fun w => decide (w.key ≠ key) } :=
    (State.Run.reach s _).trans (State.Act.walkEnds (s := s.reach (started + b.items * 1000)) key b.store places
      hk hb hp).run
  unfold State.finishWalk
  dsimp only
  rw [e]
  refine ends.trans (.handOutcomes o _ _ fun hc => ?_)
  obtain ⟨nodup, apart⟩ := State.waitersOf_apart (hs hc).waitersOnce key
  refine ⟨nodup, fun a ha => ?_⟩
  obtain ⟨waits, elsewhere⟩ := apart a ha
  refine ⟨(hs hc).waiting a waits, fun hm => ?_⟩
  obtain ⟨w, hw, haw⟩ := State.mem_waiters.mp hm
  obtain ⟨hw, hne⟩ := List.mem_filter.mp hw
  exact elsewhere w hw (of_decide_eq_true hne) haw

theorem State.Run.closeFailed (s : State) (a : ArmId) (slot : Nat) : s.Run sc (s.closeFailed a slot) := by
  refine (State.Run.setFlag s a .store).trans (.setLane _ _ ?_)
  have : ((Lane.markUnsaved (s.setFlag a .store).lanes[laneOf a] slot).records.map (·.record.number)) =
      (s.setFlag a .store).lanes[laneOf a].records.map (·.record.number) := by
    simp only [Lane.markUnsaved, List.map_map]
    congr 1
    funext q
    simp only [Function.comp]
    split <;> rfl
  rw [this]

theorem State.Run.releaseDone (s : State) (l : LaneId) (ok : Bool) : s.Run sc (s.releaseDone l ok) := by
  refine ((State.Run.setLane l _ ?_).trans (.settle _ _ _ _ _)).trans (.settle _ _ _ _ _)
  dsimp only
  split
  · exact (List.tail_sublist _).map _
  · exact List.Sublist.refl _

theorem State.Run.answerRead (s : State) (body : Option Body) : s.Run sc (s.answerRead body) := by
  unfold State.answerRead
  split
  · exact State.Run.settle s _ _ _ _
  · exact State.Run.settle s _ _ _ _

/-- What every completion does: it changes nothing, or the operation ends with its result, and the store advances. -/
theorem exec_walkCompletion_run (fault : Option StoreFault) (hs : sc.coherent → s.coherent) :
    ∃ t, exec (.walkCompletion fault) s = .next t ∧ s.Run sc t := by
  change ∃ t, execWalkCompletion fault s = .next t ∧ s.Run sc t
  unfold execWalkCompletion
  split
  · next key started n hc =>
    exact ⟨((s.leaveBus started (runWalk key (s.bus fault)).2).finishWalk key
        (runWalk key (s.bus fault)).1).advanceStore, rfl,
      (State.Run.finishWalk key started _ _ (by rw [hc]; rfl) (Bus.wf_runWalk key (b := s.bus fault)) hs).trans (.advanceStore _)⟩
  · exact ⟨s, rfl, .refl sc s⟩

theorem exec_dispensedCompletion_run (fault : Option StoreFault) :
    ∃ t, exec (.dispensedCompletion fault) s = .next t ∧ s.Run sc t := by
  change ∃ t, execDispensedCompletion fault s = .next t ∧ s.Run sc t
  unfold execDispensedCompletion
  split
  · next page package askers started n hc =>
    refine ⟨(if (runDispensed page package (s.bus fault)).1 then
        s.leaveBus started (runDispensed page package (s.bus fault)).2
      else (s.leaveBus started (runDispensed page package (s.bus fault)).2).dispensedFailed askers).advanceStore,
      rfl, ((State.Run.leaveBus started _ (Bus.wf_runDispensed page package (b := s.bus fault))).trans ?_).trans (.advanceStore _)⟩
    split
    · exact .refl sc _
    · exact .foldl _ (fun s key => State.Run.setDispensedCopy s key false) askers _
  · exact ⟨s, rfl, .refl sc s⟩

theorem exec_checkpointCompletion_run (fault : Option StoreFault) :
    ∃ t, exec (.checkpointCompletion fault) s = .next t ∧ s.Run sc t := by
  change ∃ t, execCheckpointCompletion fault s = .next t ∧ s.Run sc t
  unfold execCheckpointCompletion
  split
  · next a m started noted _ =>
    exact ⟨((s.leaveBus started (runCheckpointOpen a m (noted.getD s.batchCounter) (s.bus fault)).2).checkpointDone a
        (runCheckpointOpen a m (noted.getD s.batchCounter) (s.bus fault)).1).advanceStore, rfl,
      ((State.Run.leaveBus started _ (Bus.wf_writeAll _ (s.bus fault))).trans (.setFlagIf _ _ _ _)).trans
        (.advanceStore _)⟩
  · next a t started _ _ =>
    exact ⟨((s.leaveBus started (runCheckpointIdle a t (s.bus fault)).2).checkpointDone a
        (runCheckpointIdle a t (s.bus fault)).1).advanceStore, rfl,
      ((State.Run.leaveBus started _ (Bus.wf_writeAll _ (s.bus fault))).trans (.setFlagIf _ _ _ _)).trans
        (.advanceStore _)⟩
  · exact ⟨s, rfl, .refl sc s⟩

theorem exec_closeCompletion_run (fault : Option StoreFault) :
    ∃ t, exec (.closeCompletion fault) s = .next t ∧ s.Run sc t := by
  change ∃ t, execCloseCompletion fault s = .next t ∧ s.Run sc t
  unfold execCloseCompletion
  split
  · next a slot r figures started noted _ =>
    refine ⟨(if (runClose a slot r figures (noted.getD s.batchCounter) (s.bus fault)).1 then
        s.leaveBus started (runClose a slot r figures (noted.getD s.batchCounter) (s.bus fault)).2
      else (s.leaveBus started (runClose a slot r figures (noted.getD s.batchCounter)
        (s.bus fault)).2).closeFailed a slot).advanceStore, rfl,
      ((State.Run.leaveBus started (runClose a slot r figures (noted.getD s.batchCounter) (s.bus fault)).2
        (Bus.wf_writeAll _ (s.bus fault))).trans ?_).trans (.advanceStore _)⟩
    split
    · exact .refl sc _
    · exact .closeFailed _ _ _
  · exact ⟨s, rfl, .refl sc s⟩

theorem exec_recordFreeCompletion_run (fault : Option StoreFault) :
    ∃ t, exec (.recordFreeCompletion fault) s = .next t ∧ s.Run sc t := by
  change ∃ t, execRecordFreeCompletion fault s = .next t ∧ s.Run sc t
  unfold execRecordFreeCompletion
  split
  · next l slot started _ _ =>
    exact ⟨((s.leaveBus started (runRecordFree l slot (s.unsavedIn l slot) (s.bus fault)).2).releaseDone l
        (runRecordFree l slot (s.unsavedIn l slot) (s.bus fault)).1).advanceStore, rfl,
      ((State.Run.leaveBus started _ (Bus.wf_runRecordFree _ _ _ (b := s.bus fault))).trans
        (.releaseDone _ _ _)).trans (.advanceStore _)⟩
  · exact ⟨s, rfl, .refl sc s⟩

theorem exec_supReadCompletion_run (fault : Option StoreFault) :
    ∃ t, exec (.supReadCompletion fault) s = .next t ∧ s.Run sc t := by
  change ∃ t, execSupReadCompletion fault s = .next t ∧ s.Run sc t
  unfold execSupReadCompletion
  split
  · next product started _ _ =>
    exact ⟨((s.leaveBus started ((s.bus fault).read asEntry (directoryAt product)).2).answerRead
        (((s.bus fault).read asEntry (directoryAt product)).1.map Body.entry)).advanceStore, rfl,
      ((State.Run.leaveBus started _ fun h => (Bus.read_store (s.bus fault) _ _).symm ▸ h).trans
        (.answerRead _ _)).trans (.advanceStore _)⟩
  · next page package started _ _ =>
    exact ⟨((s.leaveBus started ((s.bus fault).read asRecipe (recipeAt page package)).2).answerRead
        (((s.bus fault).read asRecipe (recipeAt page package)).1.map Body.recipeRecord)).advanceStore, rfl,
      ((State.Run.leaveBus started _ fun h => (Bus.read_store (s.bus fault) _ _).symm ▸ h).trans
        (.answerRead _ _)).trans (.advanceStore _)⟩
  · exact ⟨s, rfl, .refl sc s⟩

theorem exec_supWriteCompletion_run (fault : Option StoreFault) :
    ∃ t, exec (.supWriteCompletion fault) s = .next t ∧ s.Run sc t := by
  change ∃ t, execSupWriteCompletion fault s = .next t ∧ s.Run sc t
  unfold execSupWriteCompletion
  split
  · next product e started _ _ =>
    exact ⟨(((s.leaveBus started ((s.bus fault).write (directoryAt product) (.entry e)).2).invalidate
        (affectedByEntry product e.page (Store.pageOf s.store product))).answerWrite
          ((s.bus fault).write (directoryAt product) (.entry e)).1).advanceStore, rfl,
      (((State.Run.leaveBus started _ (Bus.wf_write (s.bus fault) _ _)).trans (.invalidate _ _)).trans
        (.settle _ _ _ _ _)).trans (.advanceStore _)⟩
  · next page package r started _ _ =>
    exact ⟨(((s.leaveBus started ((s.bus fault).write (recipeAt page package) (.recipe r)).2).invalidate
        (affectedBy page package)).answerWrite
          ((s.bus fault).write (recipeAt page package) (.recipe r)).1).advanceStore, rfl,
      (((State.Run.leaveBus started _ (Bus.wf_write (s.bus fault) _ _)).trans (.invalidate _ _)).trans
        (.settle _ _ _ _ _)).trans (.advanceStore _)⟩
  · exact ⟨s, rfl, .refl sc s⟩

theorem exec_usageClearCompletion_run (fault : Option StoreFault) :
    ∃ t, exec (.usageClearCompletion fault) s = .next t ∧ s.Run sc t := by
  change ∃ t, execUsageClearCompletion fault s = .next t ∧ s.Run sc t
  unfold execUsageClearCompletion
  split
  · next product started _ _ =>
    exact ⟨(((s.leaveBus started (runUsageClear product (s.bus fault)).2).flushProduct product).answerStore
        (usageResult (runUsageClear product (s.bus fault)).1) .nothing).advanceStore, rfl,
      (((State.Run.leaveBus started _ (Bus.wf_runUsageClear product (b := s.bus fault))).trans
        (.invalidate _ _)).trans (.settle _ _ _ _ _)).trans (.advanceStore _)⟩
  · exact ⟨s, rfl, .refl sc s⟩

/-! ### The store load and the resets -/

theorem Loaded.walkKey_addTo (d : Loaded) (op : StoreOp) : (d.addTo op).walkKey = op.walkKey := by
  cases op <;> rfl

theorem Loaded.isCheckpoint_addTo (d : Loaded) (op : StoreOp) (a : ArmId) :
    (d.addTo op).isCheckpoint a = op.isCheckpoint a := by
  cases op <;> rfl

theorem State.Run.recoverArm (d : Loaded) (s : State) (a : ArmId) (hl : sc.loads) :
    s.Run sc (State.recoverArm d s a) := by
  unfold State.recoverArm
  split
  · exact .refl sc s
  · split
    · exact State.Run.askOp s _ rfl fun _ => rfl
    · exact (State.Act.posts _ _ fun _ => hl).run.trans (.askOp _ _ rfl fun _ => rfl)

theorem State.Run.takeLoad (s : State) (d : Loaded) (hl : sc.loads) : s.Run sc (s.takeLoad d) := by
  refine (State.Act.custody d.counter d.figuresOf (Vector.ofFn fun l => d.laneOf l s.lanes[l])
    (s.storeQueue.map fun q => { q with op := d.addTo q.op }) hl ?_ fun hc a => ?_).run.trans
      (.foldl _ (fun s a => State.Run.recoverArm d s a hl) allArms _)
  · simp [State.walkOps, List.filterMap_map, Function.comp_def, Loaded.walkKey_addTo]
  · have := hc a
    simpa [List.filter_map, Function.comp_def, Loaded.isCheckpoint_addTo] using this

theorem State.Run.endLoad (s : State) (d : Option Loaded) (hl : sc.loads) : s.Run sc (s.endLoad d) := by
  unfold State.endLoad
  split
  · next d =>
    exact (((State.Run.takeLoad s d hl).trans (State.Act.loaded .ready fun _ h => LoadState.noConfusion h).run).trans
      (.settle _ _ _ _ _)).trans (.advanceStore _)
  · exact ((State.Act.loaded .loadFailed fun _ h => LoadState.noConfusion h).run.trans
      (.settle _ _ _ _ _)).trans (.advanceStore _)

theorem exec_storeLoadEnd_run (failing : Option Nat) (hl : (∃ d, s.load = .loading d) → sc.loads) :
    ∃ t, exec (.storeLoadEnd failing) s = .next t ∧ s.Run sc t := by
  change ∃ t, execStoreLoadEnd failing s = .next t ∧ s.Run sc t
  unfold execStoreLoadEnd
  split
  · next started h =>
    exact ⟨(s.reach (started + (runLoad (s.bus (loadFault failing))).2.items * 1000)).endLoad
        (runLoad (s.bus (loadFault failing))).1, rfl,
      (State.Run.reach s _).trans (.endLoad _ _ (hl ⟨started, h⟩))⟩
  · exact ⟨s, rfl, .refl sc s⟩

theorem State.Run.powerOnReset (s : State) :
    s.Run sc (s.resetBlocks (Vector.replicate 5 LinkPort.reset) s.storeAtPowerLoss) := by
  refine (State.Act.resets _ _ (fun p => ?_) fun h => ?_).run
  · rw [Fin.getElem_fin, Vector.getElem_replicate]; exact Nat.zero_le _
  · unfold State.storeAtPowerLoss
    split
    · exact StoreOp.wf_run _ _ _ h
    · exact h

/-! ### The links -/

theorem State.Run.setReceiver (s : State) (p : Port) (r : Receiver) : s.Run sc (s.setReceiver p r) :=
  State.Run.setPort p _ (le_refl _)

theorem LinkPort.entries_sent (lp : LinkPort) : lp.sent.entries ≤ lp.entries := by
  unfold LinkPort.sent
  split
  · next h => simp [LinkPort.entries, h]
  · simp [LinkPort.entries]

theorem Monitor.length_sent {m : Monitor} (now : Nat) (h : m.queue.length ≤ 8) : (m.sent now).queue.length ≤ 8 := by
  unfold Monitor.sent
  split
  · next e => rw [e, List.length_cons] at h; exact Nat.le_of_succ_le h
  · exact h

theorem State.Run.packetSent (s : State) : s.Run sc s.packetSent := by
  unfold State.packetSent
  split
  · exact (State.Run.reach s _).trans (State.Act.monitor _ fun h => Monitor.length_sent _ h).run
  · exact .refl sc s

theorem State.Run.gapRunsOut (s : State) (p : Port) : s.Run sc (s.gapRunsOut p) := by
  unfold State.gapRunsOut
  split
  · exact (State.Run.reach s _).trans (.setReceiver _ _ _)
  · exact .refl sc s

end Sys2Proof.Machine
end

section
/-! PROOFS. Every command as one event. -/

namespace Sys2Proof.Machine
open Sys2Proof

/-! ## Every command as one event -/

/-- From `s` a command leads to `t`: by an event in a scope whose step began in a coherent state if `C` holds, that begins
a batch only on an IDLE arm, leaves no arm it took out of the header queue waiting, and brings custody in only if
`L` holds. -/
def State.Does (C L : Prop) (s t : State) : Prop :=
  ∃ sc : Scope, (sc.coherent ↔ C) ∧ (∀ a, sc.begins = some a → (s.arm a).state = .idle) ∧
    (∀ a, sc.leaves = some a → (t.arm a).state ≠ .waitingHeader) ∧ (sc.loads → L) ∧ s.Event sc t

variable {C L : Prop} {s t u : State}

/-- The scope of a command that begins no batch, takes no arm out of the queue and loads nothing. -/
def Scope.plain (C : Prop) : Scope := ⟨C, none, none, False⟩

theorem State.Does.plain (h : s.Event (.plain C) t) : s.Does C L t :=
  ⟨.plain C, Iff.rfl, nofun, nofun, False.elim, h⟩

theorem State.Does.run (h : s.Run (.plain C) t) : s.Does C L t := .plain (.inl h)

theorem State.Event.after {sc : Scope} (h : s.Run sc u) (k : u.Event sc t) : s.Event sc t := by
  rcases k with k | ⟨p, v, w, k, asks, l⟩
  · exact .inl (h.trans k)
  · exact .inr ⟨p, v, w, h.trans k, asks, l⟩

/-- A command's effect on a port's receiver comes before its event. -/
theorem State.Does.received {p : Port} {r : Receiver} (h : (s.setReceiver p r).Does C L t) : s.Does C L t := by
  obtain ⟨sc, coherent, begins, leaves, loads, event⟩ := h
  exact ⟨sc, coherent, begins, leaves, loads, .after (.setReceiver s p r) event⟩

theorem State.Does.askAuthorize (c : Caller) (n : Nat) (product : Fin 256) (package preset : Nat) :
    s.Does C L (askAuthorize c n product package preset s) :=
  ⟨⟨C, if (s.arm (armOf n)).state = .idle then some (armOf n) else none, none, False⟩, Iff.rfl,
    fun a e => by
      dsimp only at e
      split at e
      · next idle => rw [← Option.some.inj e]; exact idle
      · exact absurd e (by simp),
    nofun, False.elim,
    Event.askAuthorize c n product package preset fun idle => if_pos idle⟩

theorem State.Does.askAbort (c : Caller) (n : Nat) (hs : C → s.Settled) :
    s.Does C L (askAbort c n s) := by
  by_cases h : s.takes c (.arm n) ∧ (s.arm (armOf n)).state = .waitingHeader
  · obtain ⟨takes, waiting⟩ := h
    have served : Machine.askAbort c n s = serveAbort c (armOf n) s := State.takeRequest_of_takes _ takes
    rw [served]
    refine ⟨⟨C, none, some (armOf n), False⟩, Iff.rfl, nofun, fun a e => ?_,
      False.elim, Event.serveAbort takes _ hs fun _ => rfl⟩
    rw [← Option.some.inj e]
    have idle : (serveAbort c (armOf n) s).arm (armOf n) = ((s.leaveQueue (armOf n)).arm (armOf n)).toIdle := by
      unfold serveAbort
      rw [waiting]
      exact State.arm_setArm_self _ _ _
    rw [idle]
    exact fun e => ArmState.noConfusion e
  · refine .plain (State.Event.takeRequest _ _ _ fun takes => ?_)
    exact Event.serveAbort takes _ hs fun waiting => absurd ⟨takes, waiting⟩ h

theorem State.Does.takeFields (c : Caller) (fields : List Byte) (hs : C → s.Settled) :
    s.Does C L (takeFields c fields s) := by
  unfold Machine.takeFields
  split
  · exact .askAuthorize _ _ _ _ _
  · exact .plain (Event.askStart _ _ hs)
  · exact .plain (Event.askStop _ _)
  · exact .plain (Event.askResume _ _)
  · exact .plain (Event.askEnd _ _ hs)
  · exact .askAbort _ _ hs
  · exact .plain (Event.askArmStatus _ _)
  · exact .plain (Event.askReadFlags _ _)
  · exact .plain (Event.askClearFlags _ _ _)
  · exact .plain (Event.askReadRecord _ _)
  · exact .plain (Event.askReleaseRecord _ _ _)
  · exact .plain (Event.askReadTotals _ _)
  · exact .plain (Event.askSetArmConfig _ _ _)
  · exact .plain (Event.askSetHeaderCapacity _ _ hs)
  · exact .plain (Event.askSetAuthorizeTimeout _ _)
  · exact .plain (Event.askSetWindow _ _ _)
  · exact .plain (Event.askSetAdditiveService _ _ _)
  · exact .plain (Event.askReleaseRestricted _ _)
  · exact .plain (Event.askReadHeader _)
  · exact .plain (Event.askReadDirectoryEntry _ _)
  · exact .plain (Event.askWriteDirectoryEntry _ _ _)
  · exact .plain (Event.askReadRecipe _ _ _)
  · exact .plain (Event.askWriteRecipe _ _ _ _)
  · exact .plain (Event.askFlushAll _)
  · exact .plain (Event.askFlushProduct _ _)
  · exact .plain (Event.askClearUsage _ _)
  · exact .plain (Event.askSetScan _ _)
  · exact .plain (Event.askStartScan _)
  · exact .plain (Event.askStopScan _)
  · exact .plain (Event.askReadProbes _)
  · exact .plain (Event.askSetMonitor _ _ _)
  · exact .plain (Event.askSetAlertModes _ _ _)
  · exact .plain (Event.askRestart _)
  · exact .run (.refl _ s)

theorem State.Does.takeFrame (p : Port) (bytes : List Byte) (hs : C → s.Settled) :
    s.Does C L (s.takeFrame p bytes) := by
  unfold State.takeFrame
  dsimp only
  split
  · exact .run (.refl _ s)
  · next room =>
    have room := State.entries_of_flooded (by simpa using room)
    split
    · exact .plain (State.Event.reply _ _ _ room (.refl _ s))
    · split
      · exact .plain (State.Event.reply _ _ _ room (.refl _ s))
      · exact .takeFields _ _ hs

theorem State.Does.receive (p : Port) (b : Byte) (hs : C → s.Settled) : s.Does C L (s.receive p b) := by
  have hunt : s.Does C L (s.hunt p b) := by
    unfold State.hunt
    split
    · exact .run (.setReceiver s p _)
    · exact .run (.setReceiver s p _)
  unfold State.receive
  split
  · exact hunt
  · next bytes last _ =>
    split
    · exact hunt
    · unfold State.collect
      split
      · exact .run (.setReceiver s p _)
      · dsimp only
        split
        · have settled : C → (s.setReceiver p .hunting).Settled :=
            (State.Run.setReceiver (sc := .plain C) s p .hunting).settled hs
          split
          · exact .received (.takeFrame p _ settled)
          · exact .run (.setReceiver s p _)
        · exact .run (.setReceiver s p _)

theorem State.Does.permissiveLost (a : ArmId) (hs : C → s.Settled) :
    s.Does C L (if (s.arm a).permissive then
      (s.setArm a fun x => { x with permissive := false }).losePermissive a else s) := by
  by_cases h : (s.arm a).permissive = true ∧ (s.arm a).state = .waitingHeader
  · refine ⟨⟨C, none, some a, False⟩, Iff.rfl, nofun, fun x e => ?_,
      False.elim, .inl (.permissiveLost a hs fun _ => rfl)⟩
    rw [← Option.some.inj e, if_pos h.1]
    have state : ((s.setArm a fun x => { x with permissive := false }).arm a).state = .waitingHeader := by
      rw [State.arm_setArm_self]; exact h.2
    unfold State.losePermissive
    rw [state]
    have authorized : ((((s.setArm a fun x => { x with permissive := false }).leaveQueue a).toAuthorized
        a).arm a).state = .authorized := congrArg Arm.state (State.arm_setArm_self _ a _)
    dsimp only
    rw [authorized]
    exact fun e => ArmState.noConfusion e
  · by_cases present : (s.arm a).permissive = true
    · exact .run (.permissiveLost a hs fun waiting => absurd ⟨present, waiting⟩ h)
    · rw [if_neg present]; exact .run (.refl _ s)

theorem State.Does.storeLoadEnd (failing : Option Nat) (hl : (∃ d, s.load = .loading d) → L) :
    ∃ t, exec (.storeLoadEnd failing) s = .next t ∧ s.Does C L t := by
  obtain ⟨t, e, run⟩ := exec_storeLoadEnd_run (sc := ⟨C, none, none, L⟩) failing hl
  exact ⟨t, e, ⟨C, none, none, L⟩, Iff.rfl, nofun, nofun, id, .inl run⟩

/-- A run that a command performs in every scope is what it does. -/
theorem State.Does.of_run {i : Instr} (h : ∃ t, exec i s = .next t ∧ s.Run (.plain C) t) :
    ∃ t, exec i s = .next t ∧ s.Does C L t := by
  obtain ⟨t, e, run⟩ := h
  exact ⟨t, e, .run run⟩

/-- Every command answers a next state, and leads there by one event. -/
theorem exec_does (i : Instr) (hs : C → s.coherent)
    (hl : ∀ failing, i = .storeLoadEnd failing → (∃ d, s.load = .loading d) → L) :
    ∃ t, exec i s = .next t ∧ s.Does C L t := by
  have hw : C → s.Settled := fun hC => (hs hC).settled
  cases i with
  | authorize port tag arm product package preset => exact ⟨_, rfl, .askAuthorize _ _ _ _ _⟩
  | start port tag arm => exact ⟨_, rfl, .plain (Event.askStart _ _ hw)⟩
  | stop port tag arm => exact ⟨_, rfl, .plain (Event.askStop _ _)⟩
  | resume port tag arm => exact ⟨_, rfl, .plain (Event.askResume _ _)⟩
  | endBatch port tag arm => exact ⟨_, rfl, .plain (Event.askEnd _ _ hw)⟩
  | abort port tag arm => exact ⟨_, rfl, .askAbort _ _ hw⟩
  | armStatus port tag arm => exact ⟨_, rfl, .plain (Event.askArmStatus _ _)⟩
  | readFlags port tag arm => exact ⟨_, rfl, .plain (Event.askReadFlags _ _)⟩
  | clearFlags port tag arm mask => exact ⟨_, rfl, .plain (Event.askClearFlags _ _ _)⟩
  | readRecord port tag lane => exact ⟨_, rfl, .plain (Event.askReadRecord _ _)⟩
  | releaseRecord port tag number lane => exact ⟨_, rfl, .plain (Event.askReleaseRecord _ _ _)⟩
  | readTotals port tag arm => exact ⟨_, rfl, .plain (Event.askReadTotals _ _)⟩
  | setArmConfig port tag arm config => exact ⟨_, rfl, .plain (Event.askSetArmConfig _ _ _)⟩
  | setHeaderCapacity port tag capacity => exact ⟨_, rfl, .plain (Event.askSetHeaderCapacity _ _ hw)⟩
  | setAuthorizeTimeout port tag seconds => exact ⟨_, rfl, .plain (Event.askSetAuthorizeTimeout _ _)⟩
  | setWindow port tag window fields => exact ⟨_, rfl, .plain (Event.askSetWindow _ _ _)⟩
  | setAdditiveService port tag code setting => exact ⟨_, rfl, .plain (Event.askSetAdditiveService _ _ _)⟩
  | releaseRestricted port tag arm => exact ⟨_, rfl, .plain (Event.askReleaseRestricted _ _)⟩
  | readHeader port tag => exact ⟨_, rfl, .plain (Event.askReadHeader _)⟩
  | readDirectoryEntry port tag product => exact ⟨_, rfl, .plain (Event.askReadDirectoryEntry _ _)⟩
  | writeDirectoryEntry port tag product fields =>
    exact ⟨_, rfl, .plain (Event.askWriteDirectoryEntry _ _ _)⟩
  | readRecipe port tag page package => exact ⟨_, rfl, .plain (Event.askReadRecipe _ _ _)⟩
  | writeRecipe port tag page package fields => exact ⟨_, rfl, .plain (Event.askWriteRecipe _ _ _ _)⟩
  | flushAll port tag => exact ⟨_, rfl, .plain (Event.askFlushAll _)⟩
  | flushProduct port tag product => exact ⟨_, rfl, .plain (Event.askFlushProduct _ _)⟩
  | clearUsage port tag product => exact ⟨_, rfl, .plain (Event.askClearUsage _ _)⟩
  | setScan port tag settings => exact ⟨_, rfl, .plain (Event.askSetScan _ _)⟩
  | startScan port tag => exact ⟨_, rfl, .plain (Event.askStartScan _)⟩
  | stopScan port tag => exact ⟨_, rfl, .plain (Event.askStopScan _)⟩
  | readProbes port tag => exact ⟨_, rfl, .plain (Event.askReadProbes _)⟩
  | setMonitor port tag mode arm => exact ⟨_, rfl, .plain (Event.askSetMonitor _ _ _)⟩
  | setAlertModes port tag lane selection => exact ⟨_, rfl, .plain (Event.askSetAlertModes _ _ _)⟩
  | restart port tag => exact ⟨_, rfl, .plain (Event.askRestart _)⟩
  | frameGapTimeout port => exact ⟨_, rfl, .run (.gapRunsOut s port)⟩
  | responseSent port =>
    exact ⟨_, rfl, .run (.ite _ (.setPort port LinkPort.sent (LinkPort.entries_sent _)))⟩
  | powerOnReset => exact ⟨_, rfl, .run (.powerOnReset s)⟩
  | meterPulseA arm meter => exact ⟨_, rfl, .run (.pulseA s arm meter)⟩
  | meterPulseB arm meter => exact ⟨_, rfl, .run (.pulseB s arm meter)⟩
  | permissiveLost arm => exact ⟨_, rfl, .permissiveLost arm hw⟩
  | permissiveReturns arm => exact ⟨_, rfl, .run (.arm arm _ (.noted _ _ _ _ _ _ (.inr rfl)))⟩
  | verifyEdge arm slot => exact ⟨_, rfl, .run (.verifyEdge arm slot hw)⟩
  | authorizeTimerExpiry arm => exact ⟨_, rfl, .run (.authorizeExpiry s arm)⟩
  | holdTimerExpiry arm => exact ⟨_, rfl, .run (.holdExpiry arm hw)⟩
  | drainExpiry arm => exact ⟨_, rfl, .run (.drainExpires s arm)⟩
  | windowExpiry arm => exact ⟨_, rfl, .run (.windowExpires s arm)⟩
  | bauTakeRequest => exact ⟨_, rfl, .run (.bauTake s)⟩
  | computationComplete => exact ⟨_, rfl, .run (.computationCompletes hw)⟩
  | headExamination => exact ⟨_, rfl, .run (.examine hw)⟩
  | releaseLapse arm => exact ⟨_, rfl, .run (.releaseLapses s arm)⟩
  | conversionComplete code => exact ⟨_, rfl, .run (.conversionCompletes s code)⟩
  | staleExpiry channel => exact ⟨_, rfl, .run (.staleExpires s channel)⟩
  | pulseEnd arm slot => exact ⟨_, rfl, .run (.pulseEnds arm slot hw)⟩
  | verifyTimeout arm slot => exact ⟨_, rfl, .run (.verifyExpires arm slot hw)⟩
  | pwmPeriodStart arm => exact ⟨_, rfl, .run (.periodStarts s arm)⟩
  | storeOperationStart => exact ⟨_, rfl, .run (.advanceStore s)⟩
  | walkCompletion fault => exact State.Does.of_run (exec_walkCompletion_run fault hs)
  | dispensedCompletion fault => exact State.Does.of_run (exec_dispensedCompletion_run fault)
  | checkpointCompletion fault => exact State.Does.of_run (exec_checkpointCompletion_run fault)
  | closeCompletion fault => exact State.Does.of_run (exec_closeCompletion_run fault)
  | recordFreeCompletion fault => exact State.Does.of_run (exec_recordFreeCompletion_run fault)
  | supReadCompletion fault => exact State.Does.of_run (exec_supReadCompletion_run fault)
  | supWriteCompletion fault => exact State.Does.of_run (exec_supWriteCompletion_run fault)
  | usageClearCompletion fault => exact State.Does.of_run (exec_usageClearCompletion_run fault)
  | storeLoadEnd failing => exact State.Does.storeLoadEnd failing (hl failing rfl)
  | restartReset => exact ⟨_, rfl, .run (.ite _ (.restartReset s))⟩
  | packetSent => exact ⟨_, rfl, .run (.packetSent s)⟩
  | frameByteReceived port byte => exact ⟨_, rfl, .receive port byte hw⟩

end Sys2Proof.Machine
end

section
/-! PROOFS. The laws that every step keeps (O2 to O14). -/

namespace Sys2Proof.Machine
open Sys2Proof

/-! ## What a step keeps -/

variable {C : Prop} {s t : State}

theorem State.coherent.pending (h : s.coherent) (p : List Instr) : State.coherent { s with pending := p } :=
  ⟨h.arms, h.queue, h.queueOnce, h.waiting, h.waitersOnce, h.restarting, h.loading⟩

/-- A step leads from the state without the command at the front of its queue to the next by one event. -/
theorem step_does (hs : C → s.coherent) (h : step s = .next t) :
    ∃ p, State.Does C s.endsLoad { s with pending := p } t := by
  unfold step at h
  split at h
  · next i rest hp =>
    obtain ⟨u, hu, does⟩ := exec_does (C := C) (L := s.endsLoad) (s := { s with pending := rest }) i
      (fun hC => (hs hC).pending rest) fun failing e loading => ⟨loading, failing, rest, e ▸ hp⟩
    rw [hu] at h
    obtain rfl := Host.Outcome.next.inj h
    exact ⟨rest, does⟩
  · obtain rfl := Host.Outcome.next.inj h
    exact ⟨s.pending, .run (State.Act.clock _ (Nat.le_succ _)).run⟩

/-- A law of all the acts and of every response is kept by a step. -/
theorem step_keeps (P : State → Prop) (pending : ∀ p, P s → P { s with pending := p })
    (act : ∀ sc u v, State.Act sc u v → P u → P v) (ask : ∀ u p lp, P u → P (u.setPort p fun _ => lp))
    (hs : P s) (h : step s = .next t) : P t := by
  obtain ⟨p, sc, -, -, -, -, event⟩ := step_does (C := False) False.elim h
  exact event.keeps P (act sc) ask (pending p hs)

/-- A law of every arm by itself, in any state. -/
theorem step_keeps_arms (P : Arm → Prop)
    (change : ∀ C B arm x, Arm.Change C B arm x → P arm → P x) (hs : ∀ a, P (s.arm a))
    (h : step s = .next t) : ∀ a, P (t.arm a) :=
  step_keeps (fun u => ∀ a, P (u.arm a)) (fun _ hs => hs)
    (fun _ _ _ act hu => act.keeps_arms P (fun _ _ _ => change _ _ _ _) hu) (fun _ _ _ hu => hu) hs h

end Sys2Proof.Machine

namespace Sys2Proof.Machine
open Sys2Proof

/-- Settles O2: every command is an event of acts and responses, and none of them turns the clock back. -/
theorem everyCommandAnswersANextState : Obligations.EveryCommandAnswersANextState := by
  unfold Obligations.EveryCommandAnswersANextState
  intro c s
  obtain ⟨t, e, sc, -, -, -, -, event⟩ :=
    exec_does (C := False) (L := True) (s := s) c False.elim fun _ _ _ => trivial
  refine ⟨t, e, event.keeps (fun u => u.pending = s.pending ∧ s.now ≤ u.now) ?_ (fun _ _ _ h => h)
    ⟨rfl, le_refl _⟩⟩
  intro u v act hu
  obtain ⟨pending, now⟩ := act.keeps_pending_now
  exact ⟨pending.trans hu.1, le_trans hu.2 now⟩

/-- Settles O3, act by act: a grant is written at an admission, within the free capacity, and at a release. -/
theorem grantsStayWithinCapacity : Obligations.GrantsStayWithinCapacity := by
  unfold Obligations.GrantsStayWithinCapacity
  exact fun s t hs h => step_keeps State.grantsWithinCapacity (fun _ hs => hs)
    (fun _ _ _ act => act.keeps_grantsWithinCapacity) (fun _ _ _ hu => hu) hs h

/-- Settles O4: the store changes only by what an operation's writes leave. -/
theorem storeStaysCanonical : Obligations.StoreStaysCanonical := by
  unfold Obligations.StoreStaysCanonical
  exact fun s t hs h => step_keeps State.storeCanonical (fun _ hs => hs)
    (fun _ _ _ act => act.keeps_storeCanonical) (fun _ _ _ hu => hu) hs h

/-- Settles O5: a request merges into its arm's waiting one, and a CHECKPOINT takes its arm's place. -/
theorem queuesHoldOneEntryPerArm : Obligations.QueuesHoldOneEntryPerArm := by
  unfold Obligations.QueuesHoldOneEntryPerArm
  exact ⟨fun s t hs h => step_keeps State.oneRequestPerArm (fun _ hs => hs)
      (fun _ _ _ act => act.keeps_oneRequestPerArm) (fun _ _ _ hu => hu) hs h,
    fun s t hs h => step_keeps State.oneCheckpointPerArm (fun _ hs => hs)
      (fun _ _ _ act => act.keeps_oneCheckpointPerArm) (fun _ _ _ hu => hu) hs h⟩

/-- Settles O7, arm by arm: a computation measures its window with the residue carried over. -/
theorem meteringLawIsKept : Obligations.MeteringLawIsKept := by
  unfold Obligations.MeteringLawIsKept
  exact fun s t hs h => step_keeps_arms Arm.meteringLaw (fun _ _ _ _ c => c.keeps_meteringLaw) hs h

/-- Settles O12, arm by arm: u changes by a trim within the range, by a hold, and by the resume after it. -/
theorem valveCommandStaysInRange : Obligations.ValveCommandStaysInRange := by
  unfold Obligations.ValveCommandStaysInRange
  exact fun s t hs h => step_keeps_arms Arm.valveWithinRange (fun _ _ _ _ c => c.keeps_valveWithinRange) hs h

/-- Settles O9 by the four parts of the law, each act by act. -/
theorem cacheAndWalkKeysStayDistinct : Obligations.CacheAndWalkKeysStayDistinct := by
  unfold Obligations.CacheAndWalkKeysStayDistinct
  intro s t hs h
  exact t.keysDistinct_iff.mpr (step_keeps State.KeysApart (fun _ hs => { hs with })
    (fun _ _ _ act => act.keeps_keysApart) (fun _ _ _ hu => { hu with }) (s.keysDistinct_iff.mp hs) h)

/-- A law that a step keeps from a coherent state, in the scope of its event. -/
theorem State.coherent.keeps {L : Prop} {sc : Scope} {s t : State} {p : List Instr} (hc : s.coherent)
    (coherent : sc.coherent ↔ s.coherent) (loads : sc.loads → L) (hl : ¬ L) (P : State → Prop)
    (event : State.Event sc { s with pending := p } t) (hs : P { s with pending := p })
    (act : ∀ u v, State.Act sc u v → sc.coherent → ¬ sc.loads → u.Settled → P u → P v)
    (ask : ∀ u p lp, P u → P (u.setPort p fun _ => lp)) : P t :=
  (event.keeps (fun u => u.Settled ∧ P u)
    (fun u v h hu => ⟨h.settled (coherent.mpr hc) hu.1,
      act u v h (coherent.mpr hc) (fun h => hl (loads h)) hu.1 hu.2⟩)
    (fun u p lp hu => ⟨{ hu.1 with }, ask u p lp hu.2⟩) ⟨(hc.pending p).settled, hs⟩).2

/-- Settles O6: what an event adds to a port stands on one with room, and each count stops at its limit. -/
theorem queuesAndCountsStayInRange : Obligations.QueuesAndCountsStayInRange := by
  unfold Obligations.QueuesAndCountsStayInRange
  refine ⟨fun s t hs h => ⟨?_, ?_⟩, fun s t hs h => ?_, fun s t hs h => ?_⟩
  · obtain ⟨p, sc, -, -, -, -, event⟩ := step_does (C := False) False.elim h
    have run : ∀ u v : State, u.Run sc v → u.transmitBounded → v.transmitBounded := fun u v h hu => by
      induction h with
      | refl => exact hu
      | tail _ act ih => exact act.keeps_transmitBounded ih
    rcases event with h | ⟨q, u, v, hu, ⟨room, lp, adds, rfl⟩, hv⟩
    · exact run _ _ h hs.1
    · refine run _ _ hv fun r => ?_
      by_cases e : portIndex q = r
      · subst e
        have five : lp.bounded := le_trans adds (Nat.add_le_add_right room 1)
        simpa [State.setPort] using five
      · have ne : (portIndex q).val ≠ r.val := fun h => e (Fin.ext h)
        simpa [State.setPort, ne] using run _ _ hu hs.1 r
  · exact step_keeps State.packetsBounded (fun _ hs => hs) (fun _ _ _ act => act.keeps_packetsBounded)
      (fun _ _ _ hu => hu) hs.2 h
  · exact step_keeps_arms Arm.countsInRange (fun _ _ _ _ c => c.keeps_countsInRange) hs h
  · exact step_keeps State.probesSound (fun _ hs => hs) (fun _ _ _ act => act.keeps_probesSound)
      (fun _ _ _ hu => hu) hs h

/-- Settles O8: an arm admitted before the step holds its batch, further on, or has become IDLE, and then stays IDLE for the
rest of the step. -/
theorem demandAndVolumesFollowTheirLaw : Obligations.DemandAndVolumesFollowTheirLaw := by
  unfold Obligations.DemandAndVolumesFollowTheirLaw
  refine ⟨fun s t hs h => step_keeps_arms Arm.demandFollows (fun _ _ _ _ c => c.keeps_demandFollows) hs h, ?_⟩
  intro s t a b b' hc hd h admitted admitted' hb hb'
  obtain ⟨p, sc, coherent, begins, -, -, event⟩ := step_does (C := s.coherent) id h
  have other : ¬ sc.begins = some a := fun e => by
    have idle : (s.arm a).state = .idle := begins a e
    rw [idle] at admitted; exact absurd admitted Bool.false_ne_true
  have still : (t.arm a).stillOn b := by
    refine event.keeps (fun u => (u.arm a).stillOn b)
      (fun u v act hu => (act.change a).keeps_stillOn (coherent.mpr hc) other hu) (fun _ _ _ hu => hu) ?_
    refine ⟨hd a, .inr ⟨admitted, fun c hc => ?_⟩⟩
    obtain rfl := Option.some.inj (hb.symm.trans hc)
    exact .refl b
  rcases still.2 with idle | ⟨-, follows⟩
  · rw [idle] at admitted'; exact absurd admitted' Bool.false_ne_true
  · have f := follows b' hb'
    exact ⟨f.vg, f.ve, f.ng, f.ne, f.demand, f.key, f.preset, f.snapshot, f.fixed, f.number⟩

/-- Settles O10 by the parts of the law, act by act: the arm that a step takes out of the header queue ends the step in
another state. -/
theorem armsStayCoherent : Obligations.ArmsStayCoherent := by
  unfold Obligations.ArmsStayCoherent
  intro s t hc hk h
  obtain ⟨p, sc, coherent, -, leaves, -, event⟩ := step_does (C := s.coherent) id h
  have start : State.waitersQueued sc s := fun b _ hb => (hc.queue b).mpr hb
  obtain ⟨settled, -, queued, once⟩ := event.keeps
    (fun u => u.Settled ∧ u.KeysApart ∧ u.waitersQueued sc ∧ u.waiters.Nodup)
    (fun u v act ⟨hw, hk, hq, ho⟩ => ⟨act.settled (coherent.mpr hc) hw, act.keeps_keysApart hk,
      act.keeps_waitersQueued hq, act.keeps_waitersOnce hw hk ho⟩)
    (fun u p lp ⟨hw, hk, hq, ho⟩ => ⟨{ hw with }, { hk with }, hq, ho⟩)
    ⟨(hc.pending p).settled, { s.keysDistinct_iff.mp hk with }, start, hc.waitersOnce⟩
  exact ⟨settled.arms, fun a => ⟨settled.queued a, fun ha => queued a (fun e => leaves a e ha) ha⟩,
    settled.queueOnce, settled.waiting, once, settled.restarting, settled.loading⟩

/-- Settles O11, arm by arm: a stroke is issued where one is due, and is verified or missed once. -/
theorem strokeCountsStaySound : Obligations.StrokeCountsStaySound := by
  unfold Obligations.StrokeCountsStaySound
  intro s t hc hs h
  obtain ⟨p, sc, coherent, -, -, -, event⟩ := step_does (C := s.coherent) id h
  exact event.keeps State.strokesSound
    (fun u v act hu => act.keeps_arms Arm.strokesSound
      (fun _ _ _ c => c.keeps_strokesSound (coherent.mpr hc)) hu) (fun _ _ _ hu => hu) hs

/-- Settles O13: a reservation is taken where a place is free, and a record takes its arm's reservation's place. -/
theorem recordPlacesStayBounded : Obligations.RecordPlacesStayBounded := by
  unfold Obligations.RecordPlacesStayBounded
  intro s t hc hs hl h
  obtain ⟨p, sc, coherent, -, -, loads, event⟩ := step_does (C := s.coherent) id h
  exact hc.keeps coherent loads hl State.placesBounded event hs
    (fun _ _ act hc hl hw hu => act.keeps_placesBounded hc hl hw hu) (fun _ _ _ hu => hu)

/-- Settles O14: the number of an admission is held by none, and a record takes over its batch's number. -/
theorem batchNumbersStayDistinct : Obligations.BatchNumbersStayDistinct := by
  unfold Obligations.BatchNumbersStayDistinct
  intro s t hc hp hs hl h
  obtain ⟨p, sc, coherent, -, -, loads, event⟩ := step_does (C := s.coherent) id h
  have both : t.placesBounded ∧ t.NumbersApart :=
    hc.keeps coherent loads hl (fun u => u.placesBounded ∧ u.NumbersApart) event
      ⟨hp, { s.numbersDistinct_iff.mp hs with }⟩
      (fun _ _ act hc hl hw hu => ⟨act.keeps_placesBounded hc hl hw hu.1,
        act.keeps_numbersApart hc hl hw hu.1 hu.2⟩)
      (fun _ _ _ hu => ⟨hu.1, { hu.2 with }⟩)
  exact t.numbersDistinct_iff.mpr both.2

end Sys2Proof.Machine
end

section
/-! PROOFS. The machine's step and the laws right after a reset. -/

namespace Sys2Proof.Machine
open Sys2Proof

/-! ## The machine's step and its reset -/

/-- Settles O1. -/
theorem stepRunsFrontCommand : Obligations.StepRunsFrontCommand := by
  unfold Obligations.StepRunsFrontCommand
  refine ⟨fun c s => rfl, fun s hp => ?_⟩
  unfold step
  split
  · next h => rw [hp] at h; cases h
  · rfl

theorem State.arm_reset (a : ArmId) : State.reset.arm a = Arm.reset false := by
  simp [State.arm, State.reset]

theorem Meter.inRange_reset : Meter.reset.inRange := by simp [Meter.inRange, Meter.reset]

theorem Arm.countsInRange_reset (p : Bool) : (Arm.reset p).countsInRange := by
  have meterG : (Arm.reset p).meterG = Meter.reset := rfl
  have meterE : (Arm.reset p).meterE = Meter.reset := rfl
  have overrun : (Arm.reset p).overrun = 0 := rfl
  have batch : (Arm.reset p).batch = none := rfl
  unfold Arm.countsInRange
  rw [meterG, meterE, overrun, batch]
  refine ⟨Meter.inRange_reset, Meter.inRange_reset, by simp, fun b hb => ?_⟩
  cases hb

theorem Arm.coherent_reset (p : Bool) : (Arm.reset p).coherent := by
  constructor <;> simp [Arm.reset, Meter.reset, Arm.u, ArmState.admitted, ArmState.underway, ArmState.isHeld]

theorem Arm.strokesSound_reset (p : Bool) : (Arm.reset p).strokesSound := by
  have slot : ∀ i : SlotId, (Arm.reset p).slots[i] = Slot.reset := fun i => by simp [Arm.reset]
  refine ⟨fun i => ?_, fun _ => (Arm.slotsReady_iff _).mpr fun i => ?_, nofun⟩
  · rw [slot]; simp [Slot.sound, Slot.reset]
  · rw [slot]; rfl

theorem State.forall_arm_reset {P : Arm → Prop} (h : P (Arm.reset false)) (a : ArmId) : P (State.reset.arm a) :=
  (State.arm_reset a).symm ▸ h

theorem State.transmitBounded_reset : State.reset.transmitBounded := fun p => by
  have port : State.reset.ports[p] = LinkPort.reset := by simp [State.reset]
  show State.reset.ports[p].bounded
  rw [port]
  simp [LinkPort.bounded, LinkPort.reset]

theorem State.packetsBounded_reset : State.reset.packetsBounded := by
  simp [State.packetsBounded, State.reset, Monitor.reset]

theorem State.probesSound_reset : State.reset.probesSound := fun c => by
  have record : State.reset.scanner.records[c] = ProbeRecord.reset := by simp [State.reset, Scanner.reset]
  rw [record]
  exact ProbeRecord.sound_reset

theorem State.keysDistinct_reset : State.reset.keysDistinct :=
  ⟨by decide, List.nodup_nil, nofun, fun i e he => by simp [State.reset] at he, nofun⟩

theorem State.coherent_reset : State.reset.coherent :=
  have idle : State.reset.allIdle = true := State.reset.allIdle_iff.mpr (State.forall_arm_reset (P := (·.state = .idle)) rfl)
  ⟨State.forall_arm_reset (Arm.coherent_reset false),
    fun a => ⟨nofun, fun h => by rw [State.arm_reset] at h; cases h⟩,
    List.nodup_nil, nofun, List.nodup_nil, fun _ => idle, fun _ _ => idle⟩

theorem State.numbersDistinct_reset : State.reset.numbersDistinct := by
  have closed : (Arm.reset false).openNumber = none := rfl
  refine State.reset.numbersDistinct_iff.mpr ⟨fun l => ?_, fun l m n h => ?_, fun a b n h => ?_,
    fun a l n h => ?_, fun a h => ?_⟩
  · simp [State.laneNumbers, State.reset, Lane.reset]
  · simp [State.laneNumbers, State.reset, Lane.reset] at h
  · rw [State.arm_reset, closed] at h; cases h
  · rw [State.arm_reset, closed] at h; cases h
  · rw [State.arm_reset] at h; cases h

theorem State.grantsWithinCapacity_reset : State.reset.grantsWithinCapacity := by
  unfold State.grantsWithinCapacity
  decide

theorem State.storeCanonical_reset : State.reset.storeCanonical := rfl

theorem State.countsInRange_reset : State.reset.countsInRange :=
  State.forall_arm_reset (Arm.countsInRange_reset false)

theorem State.meteringLaw_reset : State.reset.meteringLaw :=
  State.forall_arm_reset (P := Arm.meteringLaw) ⟨fun _ => rfl, nofun⟩

theorem State.demandFollows_reset : State.reset.demandFollows :=
  State.forall_arm_reset (P := Arm.demandFollows) nofun

theorem State.strokesSound_reset : State.reset.strokesSound :=
  State.forall_arm_reset (Arm.strokesSound_reset false)

theorem State.valveWithinRange_reset : State.reset.valveWithinRange :=
  have noBatch : (Arm.reset false).batch = none := rfl
  have arm : (Arm.reset false).valveWithinRange := by
    unfold Arm.valveWithinRange
    rw [noBatch]
    trivial
  State.forall_arm_reset arm

theorem State.placesBounded_reset : State.reset.placesBounded := fun l => by revert l; decide

/-- Settles O15, block by block: after a reset every arm is IDLE and every queue empty. -/
theorem lawsHoldAtReset : Obligations.LawsHoldAtReset := by
  unfold Obligations.LawsHoldAtReset
  exact ⟨State.grantsWithinCapacity_reset, State.storeCanonical_reset, List.nodup_nil,
    fun _ => by simp [State.reset], State.transmitBounded_reset, State.packetsBounded_reset,
    State.countsInRange_reset, State.probesSound_reset, State.meteringLaw_reset, State.demandFollows_reset,
    State.keysDistinct_reset, State.coherent_reset, State.strokesSound_reset, State.valveWithinRange_reset,
    State.placesBounded_reset, State.numbersDistinct_reset⟩

end Sys2Proof.Machine
end

section
/-! PROOFS. Events without their condition (log entry 7). -/

namespace Sys2Proof.Machine
open Sys2Proof

/-! ## Events without their condition -/

/-- Settles O60, event by event: each begins by looking for its condition. -/
theorem unoccurringEventsChangeNothing : Obligations.UnoccurringEventsChangeNothing := by
  unfold Obligations.UnoccurringEventsChangeNothing
  refine ⟨fun a s => ⟨fun h => ?authorize, fun h => ?hold, fun h => ?drain, fun h => ?window, fun h => ?lapse,
      fun h => ?pwm⟩,
    fun a i s => ⟨fun h => ?pulse, fun h => ⟨?edge, ?timeout⟩, fun h => ?stopped⟩,
    fun ch code s => ⟨fun h => ?conversion, fun h => ?stale⟩,
    fun p s => ⟨fun h => ?computation, fun h => ?packet, fun h => ?response, fun h => ?gap⟩,
    fun f k s => ⟨fun h => ?walk, fun h => ?dispensed, fun h h' => ?checkpoint, fun h => ?close, fun h => ?free,
      fun h h' => ?read, fun h h' => ?write, fun h => ?usage, fun h => ?load, fun h => ?restart⟩⟩
  case authorize =>
    refine congrArg Host.Outcome.next ?_
    unfold State.authorizeExpiry
    split
    · next hs hd => rcases h with h | h <;> simp_all
    · rfl
  case hold =>
    refine congrArg Host.Outcome.next ?_
    unfold State.holdExpiry
    split
    · next hs hd => rcases h with h | h <;> simp_all [ArmState.isHeld]
    · rfl
  case drain =>
    refine congrArg Host.Outcome.next ?_
    unfold State.drainExpires
    split
    · next hs hd => rcases h with h | h <;> simp_all
    · rfl
  case window =>
    refine congrArg Host.Outcome.next ?_
    unfold State.windowExpires
    rw [h]
  case lapse =>
    refine congrArg Host.Outcome.next ?_
    unfold State.releaseLapses
    rw [h]
  case pwm =>
    refine congrArg Host.Outcome.next ?_
    unfold State.periodStarts
    split
    · next hc ht => rcases h with h | h <;> simp_all
    · rfl
  case pulse =>
    refine congrArg Host.Outcome.next ?_
    unfold State.pulseEnds
    split
    · next hp hd => rcases h with h | h <;> simp_all
    · next hp hd => rcases h with h | h <;> simp_all
    · rfl
  case edge =>
    refine congrArg Host.Outcome.next ?_
    unfold State.verifyEdge
    split
    · next hp => exact absurd hp h.1
    · next hp => exact absurd hp h.2
    · rfl
  case timeout =>
    refine congrArg Host.Outcome.next ?_
    unfold State.verifyExpires
    dsimp only
    split
    · next hp _ => exact absurd hp h.1
    · next hp _ => exact absurd hp h.2
    · rfl
  case stopped =>
    refine congrArg Host.Outcome.next ?_
    unfold State.verifyExpires
    dsimp only
    split
    · next hd => cases h.symm.trans hd
    · next hd => cases h.symm.trans hd
    · rfl
  case conversion =>
    refine congrArg Host.Outcome.next ?_
    unfold State.conversionCompletes
    rw [h]
  case stale =>
    refine congrArg Host.Outcome.next ?_
    unfold State.staleExpires
    split
    · next d hd =>
      have state : ¬ (s.scanner.records[ch].state = .good ∨ s.scanner.records[ch].state = .suspect) := by
        rcases h with h | ⟨hg, hs⟩
        · cases h.symm.trans hd
        · exact not_or.mpr ⟨hg, hs⟩
      exact if_neg state
    · rfl
  case computation =>
    refine congrArg Host.Outcome.next ?_
    unfold State.computationCompletes
    rw [h]
  case packet =>
    refine congrArg Host.Outcome.next ?_
    unfold State.packetSent
    rw [h]
  case response => exact congrArg Host.Outcome.next (if_neg (by simp [h]))
  case gap =>
    refine congrArg Host.Outcome.next ?_
    unfold State.gapRunsOut
    rw [h]
  case walk =>
    change execWalkCompletion f s = _
    unfold execWalkCompletion
    split
    · next hc => exact absurd hc (h _ _ _)
    · rfl
  case dispensed =>
    change execDispensedCompletion f s = _
    unfold execDispensedCompletion
    split
    · next hc => exact absurd hc (h _ _ _ _ _)
    · rfl
  case checkpoint =>
    change execCheckpointCompletion f s = _
    unfold execCheckpointCompletion
    split
    · next hc => exact absurd hc (h _ _ _ _)
    · next hc => exact absurd hc (h' _ _ _ _)
    · rfl
  case close =>
    change execCloseCompletion f s = _
    unfold execCloseCompletion
    split
    · next hc => exact absurd hc (h _ _ _ _ _ _)
    · rfl
  case free =>
    change execRecordFreeCompletion f s = _
    unfold execRecordFreeCompletion
    split
    · next hc => exact absurd hc (h _ _ _ _)
    · rfl
  case read =>
    change execSupReadCompletion f s = _
    unfold execSupReadCompletion
    split
    · next hc => exact absurd hc (h _ _ _)
    · next hc => exact absurd hc (h' _ _ _ _)
    · rfl
  case write =>
    change execSupWriteCompletion f s = _
    unfold execSupWriteCompletion
    split
    · next hc => exact absurd hc (h _ _ _ _)
    · next hc => exact absurd hc (h' _ _ _ _ _)
    · rfl
  case usage =>
    change execUsageClearCompletion f s = _
    unfold execUsageClearCompletion
    split
    · next hc => exact absurd hc (h _ _ _)
    · rfl
  case load =>
    change execStoreLoadEnd k s = _
    unfold execStoreLoadEnd
    split
    · next t ht => exact absurd ht (h t)
    · rfl
  case restart =>
    refine congrArg Host.Outcome.next (if_neg fun hr => ?_)
    obtain ⟨⟨hp, hc⟩, hq⟩ : (s.restartPending = true ∧ s.current = none) ∧
        ∀ q ∈ s.storeQueue, q.carried = false := by simpa using hr
    rcases h with h | h | ⟨q, hmem, hcarried⟩
    · exact Bool.false_ne_true (h.symm.trans hp)
    · rw [hc] at h; cases h
    · exact Bool.false_ne_true ((hq q hmem).symm.trans hcarried)

end Sys2Proof.Machine
end

section
/-! PROOFS. What a command changes, the requests that read, and the plain settings. -/

namespace Sys2Proof.Machine
open Sys2Proof

/-! ## What changes and what stands -/

theorem Part.same_trans {s t u : State} {q : Part} (h : q.same s t) (h' : q.same t u) : q.same s u := by
  cases q <;> exact Eq.trans h' h

theorem State.changesOnly_refl (s : State) (parts : Part → Bool) : s.changesOnly s parts :=
  ⟨rfl, fun q _ => by cases q <;> rfl⟩

theorem State.changesOnly.mono {s t : State} {few many : Part → Bool} (h : s.changesOnly t few)
    (hmany : ∀ q, few q = true → many q = true) : s.changesOnly t many := by
  refine ⟨h.1, fun q hq => h.2 q (Bool.eq_false_iff.mpr fun hfew => ?_)⟩
  rw [hmany q hfew] at hq
  exact Bool.false_ne_true hq.symm

/-- What changes in two steps changes in one of them. -/
theorem State.changesOnly.trans {s t u : State} {parts : Part → Bool} (h : s.changesOnly t parts)
    (h' : t.changesOnly u parts) : s.changesOnly u parts :=
  ⟨h'.1.trans h.1, fun q hq => Part.same_trans (h.2 q hq) (h'.2 q hq)⟩

theorem State.changesOnly_setArm (s : State) (a : ArmId) (f : Arm → Arm) {parts : Part → Bool}
    (ha : parts (.arm a) = true) : s.changesOnly (s.setArm a f) parts := by
  refine ⟨rfl, fun q hq => ?_⟩
  cases q with
  | arm b =>
    refine State.arm_setArm_of_ne s f ?_
    rintro rfl
    exact Bool.false_ne_true (hq.symm.trans ha)
  | _ => rfl

theorem State.changesOnly_setPort (s : State) (p : Port) (f : LinkPort → LinkPort) {parts : Part → Bool}
    (hp : parts (.port p) = true) : s.changesOnly (s.setPort p f) parts := by
  refine ⟨rfl, fun q hq => ?_⟩
  cases q with
  | port x =>
    refine State.port_setPort_of_ne s f ?_
    rintro rfl
    exact Bool.false_ne_true (hq.symm.trans hp)
  | _ => rfl

theorem State.changesOnly_done (s : State) (c : Caller) {parts : Part → Bool} (hp : parts (.port c.port) = true) :
    s.changesOnly (s.done c) parts :=
  s.changesOnly_setPort c.port _ hp

theorem State.changesOnly_cache (s : State) (cache : Vector (Option CacheEntry) 32) {parts : Part → Bool}
    (hc : parts .cache = true) : s.changesOnly { s with cache := cache } parts := by
  refine ⟨rfl, fun q hq => ?_⟩
  cases q with
  | cache => exact absurd (hq.symm.trans hc) Bool.false_ne_true
  | _ => rfl

theorem State.changesOnly_invalidate (s : State) (f : CacheEntry → Bool) {parts : Part → Bool}
    (hc : parts .cache = true) : s.changesOnly (s.invalidate f) parts :=
  s.changesOnly_cache _ hc

/-! ## Requests that a port takes -/

/-- A request that its port takes is served by its own rule. -/
theorem exec_of_takes {i : Instr} {c : Caller} {names : Names} {serve : State → State} {s : State}
    (h : s.takes c names) (hi : exec i s = .next (s.takeRequest c names serve)) :
    exec i s = .next (serve s) := by
  rw [hi, State.takeRequest_of_takes serve h]

/-- A request for an arm that its port takes is served for that arm. -/
theorem exec_of_takes_arm {i : Instr} {c : Caller} {a : ArmId} {serve : ArmId → State → State} {s : State}
    (h : s.takes c (.arm a.val))
    (hi : exec i s = .next (s.takeRequest c (.arm a.val) (serve (armOf a.val)))) :
    exec i s = .next (serve a s) := by
  rw [exec_of_takes h hi, armOf_val]

theorem laneAsked_of_names {p : Port} {lane : Nat} {l : LaneId} (h : p = .lane l ∨ p = .supervisor ∧ lane = l.val) :
    laneAsked p lane = l := by
  rcases h with rfl | ⟨rfl, rfl⟩
  · rfl
  · exact Fin.ofNat_val_eq_self l

/-! ## The requests that read -/

/-- Settles O29: each request that its port takes is its own answer. -/
theorem readingRequestsOnlyAnswer : Obligations.ReadingRequestsOnlyAnswer := by
  unfold Obligations.ReadingRequestsOnlyAnswer
  refine ⟨fun p tag a s h => ?status, fun p tag a s h => ?totals, fun p tag lane l s h hl => ?record,
    fun tag s h => ?header, fun tag s h => ?probes⟩
  case status => exact exec_of_takes_arm (serve := serveArmStatus ⟨p, tag, 0x07⟩) h rfl
  case totals => exact exec_of_takes_arm (serve := serveReadTotals ⟨p, tag, 0x0C⟩) h rfl
  case header =>
    exact exec_of_takes (serve := fun s => s.reply ⟨.supervisor, tag, 0x26⟩ .ok (.header s.header)) h rfl
  case probes =>
    exact exec_of_takes (serve := fun s => s.reply ⟨.supervisor, tag, 0x43⟩ .ok
      (.probes s.scanner.conversion.isSome s.scanner.settings (s.scanner.records.toList.map s.probeReport))) h rfl
  case record =>
    have served : exec (.readRecord p tag lane) s = .next (serveReadRecord ⟨p, tag, 0x0A⟩ l s) := by
      rw [← laneAsked_of_names hl]
      exact exec_of_takes h rfl
    rw [served]
    unfold serveReadRecord
    refine ⟨fun q rest hq => ?_, fun hq => ?_⟩ <;> rw [hq]

/-! ## RELEASE RECORD -/

theorem serveReleaseRecord_of_oldest {c : Caller} {l : LaneId} {number : Nat} {s : State} {q : QueuedRecord}
    {rest : List QueuedRecord} (hq : s.lanes[l].records = q :: rest) :
    serveReleaseRecord c l number s =
      if q.record.number ≠ number then s.refuse c .notOldest
      else if s.lanes[l].releasePending then s.holdOutstanding c (.release l)
      else ((s.holdOutstanding c (.release l)).setLane l fun lane => { lane with releasePending := true }).askOp
        (.recordFree l q.slot) := by
  unfold serveReleaseRecord
  rw [hq]

/-- Settles O32, by the lane's queue: empty, with another oldest record, with a release pending, and with none. -/
theorem releaseRecordQueuesOneFree : Obligations.ReleaseRecordQueuesOneFree := by
  unfold Obligations.ReleaseRecordQueuesOneFree
  intro p tag number lane l s h hl
  have served : exec (.releaseRecord p tag number lane) s =
      .next (serveReleaseRecord ⟨p, tag, 0x0B⟩ l number s) := by
    rw [← laneAsked_of_names hl]
    exact exec_of_takes h rfl
  obtain ⟨-, hload, -, -⟩ := State.takes_spec h
  dsimp only
  rw [served]
  refine ⟨fun hempty => ?_, fun q rest hq => ?_⟩
  · unfold serveReleaseRecord
    rw [hempty]
  · rw [serveReleaseRecord_of_oldest hq]
    refine ⟨fun hother => by rw [if_pos hother], fun hnumber hpending => ?_, fun hnumber hnone => ?_⟩
    · rw [if_neg (not_not.mpr hnumber), if_pos hpending]
      rfl
    · rw [if_neg (not_not.mpr hnumber), if_neg (ne_true_of_eq_false hnone)]
      refine ⟨fun hbusy => ?_, fun hcurrent hqueue hrestart => ?_⟩
      · refine congrArg Host.Outcome.next (State.askOp_of_busy _ _ ?_)
        exact hbusy
      · refine congrArg Host.Outcome.next ((State.askOp_of_idle _ _ ?_ ?_ ?_ ?_).trans rfl)
        · exact hcurrent
        · exact hqueue
        · exact hrestart
        · exact hload

/-! ## The plain settings -/

theorem forall_mem_toList {α : Type} {n : Nat} {v : Vector α n} {P : α → Prop} :
    (∀ x ∈ v.toList, P x) ↔ ∀ i : Fin n, P v[i] := by
  constructor
  · exact fun h i => h _ (Vector.mem_toList_iff.mpr (Vector.getElem_mem i.isLt))
  · intro h x hx
    obtain ⟨i, hi, rfl⟩ := Vector.mem_iff_getElem.mp (Vector.mem_toList_iff.mp hx)
    exact h ⟨i, hi⟩

theorem slotConfigOk_iff {k : SlotConfig} : slotConfigOk k = true ↔ k.acceptable := by
  simp only [slotConfigOk, SlotConfig.acceptable, Bool.and_eq_true, within_iff]
  omega

theorem calibrationOk_iff {k : Calibration} : calibrationOk k = true ↔ k.acceptable := by
  simp only [calibrationOk, Calibration.acceptable, Bool.and_eq_true, within_iff, decide_eq_true_eq]
  omega

theorem clash_eq_false_iff {x y : Nat} : (!clash x y) = true ↔ (x = y → x = 0) := by
  simp [clash, imp_iff_not_or]

/-- The pairs of three codes clash nowhere when equal codes at different places are 0. -/
theorem no_clash_iff {f : Fin 3 → Nat} :
    (!clash (f 0) (f 1)) = true ∧ (!clash (f 0) (f 2)) = true ∧ (!clash (f 1) (f 2)) = true ↔
      ∀ i j : Fin 3, i ≠ j → f i = f j → f i = 0 := by
  simp only [clash_eq_false_iff]
  constructor
  · rintro ⟨h01, h02, h12⟩ i j hij h
    fin_cases i <;> fin_cases j
    exacts [absurd rfl hij, h01 h, h02 h, h.trans (h01 h.symm), absurd rfl hij, h12 h, h.trans (h02 h.symm),
      h.trans (h12 h.symm), absurd rfl hij]
  · exact fun h => ⟨h 0 1 (by decide), h 0 2 (by decide), h 1 2 (by decide)⟩

theorem nameOk_iff {n : Name} : nameOk n = true ↔ ∀ x ∈ n.toList, 32 ≤ x.toNat ∧ x.toNat ≤ 126 := by
  simp only [nameOk, List.all_eq_true, within_iff]

theorem windowFieldsOk_iff {w : WindowFields} : windowFieldsOk w = true ↔ w.acceptable := by
  simp only [windowFieldsOk, WindowFields.acceptable, Bool.and_eq_true, within_iff, nameOk_iff, Nat.zero_le,
    true_and, and_assoc]

/-- Settles O36, request by request. -/
theorem plainSettingsReplaceWhatTheyName : Obligations.PlainSettingsReplaceWhatTheyName := by
  unfold Obligations.PlainSettingsReplaceWhatTheyName
  refine ⟨fun tag window w s h hw => ?window, fun tag window w s h hw => ?badWindow, fun tag a s h => ?release,
    fun tag l selection s h => ?alerts, fun tag mode a s h => ?monitor⟩
  case window =>
    have served : exec (.setWindow .supervisor tag window.val w) s =
        .next (serveSetWindow ⟨.supervisor, tag, 0x23⟩ window.val w s) := exec_of_takes h rfl
    have named : within 0 1 window.val = true := within_iff.mpr ⟨Nat.zero_le _, Nat.le_of_lt_succ window.isLt⟩
    rw [served]
    unfold serveSetWindow
    rw [if_pos (by rw [named, windowFieldsOk_iff.mpr hw]; rfl)]
    simp only [Fin.ofNat_val_eq_self, windowOf, beq_eq_decide]
  case badWindow =>
    have served : exec (.setWindow .supervisor tag window w) s =
        .next (serveSetWindow ⟨.supervisor, tag, 0x23⟩ window w s) := exec_of_takes h rfl
    rw [served]
    unfold serveSetWindow
    rw [if_neg]
    simp only [Bool.and_eq_true, within_iff, windowFieldsOk_iff]
    rintro ⟨⟨-, hwindow⟩, hfields⟩
    exact hw.elim (fun h => absurd hwindow (by omega)) (fun h => h hfields)
  case release => exact exec_of_takes_arm (serve := serveReleaseRestricted ⟨.supervisor, tag, 0x25⟩) h rfl
  case alerts =>
    have served : exec (.setAlertModes .supervisor tag l.val selection) s =
        .next (serveSetAlertModes ⟨.supervisor, tag, 0x49⟩ l selection s) := by
      refine (exec_of_takes h rfl).trans ?_
      rw [laneAsked_of_names (l := l) (Or.inr ⟨rfl, rfl⟩)]
    rw [served]
    unfold serveSetAlertModes
    refine ⟨fun hbad => by rw [if_pos hbad], fun hgood => ?_⟩
    rw [if_neg (by omega)]
    rfl
  case monitor =>
    rw [exec_of_takes_arm (i := .setMonitor .supervisor tag mode a.val)
      (serve := serveSetMonitor ⟨.supervisor, tag, 0x48⟩ mode) h rfl]
    unfold serveSetMonitor
    refine ⟨fun hbad => by rw [if_pos hbad], fun sel hsel => ?_⟩
    have selected : monitorSelection mode a = sel ∧ mode ≤ 2 := by
      rcases hsel with ⟨rfl, rfl⟩ | ⟨rfl, rfl⟩ | ⟨rfl, rfl⟩ <;> simp [monitorSelection]
    rw [if_neg (by omega), selected.1]

/-! ## SET AUTHORIZE TIMEOUT -/

/-- Settles O35. -/
theorem setAuthorizeTimeoutIsTaken : Obligations.SetAuthorizeTimeoutIsTaken := by
  unfold Obligations.SetAuthorizeTimeoutIsTaken
  refine ⟨fun tag seconds s h => ?_, fun a s => ?_, rfl, fun s => rfl⟩
  · have served : exec (.setAuthorizeTimeout .supervisor tag seconds) s =
        .next (serveSetAuthorizeTimeout ⟨.supervisor, tag, 0x22⟩ seconds s) := exec_of_takes h rfl
    dsimp only
    rw [served]
    unfold serveSetAuthorizeTimeout
    refine ⟨fun hbad => ?_, fun hlow hhigh => if_pos (within_iff.mpr ⟨hlow, hhigh⟩) ▸ rfl⟩
    rw [if_neg fun hin => ?_]
    have := within_iff.mp hin
    omega
  · simp [State.toAuthorized, State.timerMs]

/-! ## SET ARM CONFIG -/

theorem armConfigOk_iff {k : ArmConfig} : armConfigOk k = true ↔ k.acceptable := by
  have slots : k.slots.toList.all slotConfigOk = true ↔ ∀ i : SlotId, k.slots[i].acceptable := by
    rw [List.all_eq_true, forall_mem_toList]
    exact forall_congr' fun i => slotConfigOk_iff
  have codes := no_clash_iff (f := fun i : SlotId => k.slots[i].code)
  simp only [armConfigOk, ArmConfig.acceptable, Bool.and_eq_true, within_iff, slots, calibrationOk_iff, beq_iff_eq,
    and_assoc] at codes ⊢
  rw [← codes]
  tauto

/-- Settles O33. -/
theorem setArmConfigReplacesTheConfig : Obligations.SetArmConfigReplacesTheConfig := by
  unfold Obligations.SetArmConfigReplacesTheConfig
  intro tag a config s h
  have served : exec (.setArmConfig .supervisor tag a.val config) s =
      .next (serveSetArmConfig ⟨.supervisor, tag, 0x20⟩ a config s) :=
    exec_of_takes_arm (serve := fun a => serveSetArmConfig ⟨.supervisor, tag, 0x20⟩ a config) h rfl
  dsimp only
  rw [served]
  unfold serveSetArmConfig
  refine ⟨fun hbusy => by rw [if_pos hbusy], fun hidle hbad => ?_, fun hidle hgood => ?_⟩
  · rw [if_neg (not_not.mpr hidle), if_pos (by simp [mt armConfigOk_iff.mp hbad])]
  · rw [if_neg (not_not.mpr hidle), if_neg (by simp [armConfigOk_iff.mpr hgood])]
    rfl

/-! ## FLUSH ALL and FLUSH PRODUCT -/

theorem State.cache_invalidate (s : State) (f : CacheEntry → Bool) (i : Fin 32) :
    (s.invalidate f).cache[i] =
      match s.cache[i] with
      | some e => if f e then none else some e
      | none => none :=
  Vector.getElem_ofFn i.isLt

theorem State.cache_invalidate_eq_none {s : State} {f : CacheEntry → Bool} {i : Fin 32} :
    (s.invalidate f).cache[i] = none ↔ s.cache[i] = none ∨ ∃ e, s.cache[i] = some e ∧ f e = true := by
  rw [State.cache_invalidate]
  cases s.cache[i] <;> simp

theorem State.cache_invalidate_of_kept {s : State} {f : CacheEntry → Bool} {i : Fin 32} {e : CacheEntry}
    (he : s.cache[i] = some e) (hf : f e = false) : (s.invalidate f).cache[i] = some e := by
  rw [State.cache_invalidate, he]
  simp [hf]

theorem State.invalidate_all (s : State) :
    s.invalidate (fun _ => true) = { s with cache := Vector.replicate 32 none } := by
  refine congrArg (fun c => { s with cache := c }) (Vector.ext fun i hi => ?_)
  rw [Vector.getElem_replicate, Vector.getElem_ofFn]
  split <;> rfl

/-- Settles O39, from what stands at each place of the cache after an invalidation. -/
theorem flushesInvalidateTheCache : Obligations.FlushesInvalidateTheCache := by
  unfold Obligations.FlushesInvalidateTheCache
  refine ⟨fun tag s h => ?all, fun tag product s h => ?product⟩
  case all =>
    rw [exec_of_takes (serve := fun s => (s.invalidate fun _ => true).done ⟨.supervisor, tag, 0x34⟩) h rfl,
      State.invalidate_all]
  case product =>
    have served := exec_of_takes (i := .flushProduct .supervisor tag product)
      (serve := fun s => if within 0 255 product then (s.flushProduct product).done ⟨.supervisor, tag, 0x35⟩
        else s.refuse ⟨.supervisor, tag, 0x35⟩ .badField) h rfl
    refine ⟨fun hbad => ?_, fun hgood => ⟨(s.flushProduct product).done ⟨.supervisor, tag, 0x35⟩, ?_, fun i => ?_,
      fun i e he hother => ?_, ?_, ?_⟩⟩
    · rw [served, if_neg fun hin => absurd (within_iff.mp hin).2 (by omega)]
    · rw [served, if_pos (within_iff.mpr ⟨Nat.zero_le _, hgood⟩)]
    · rw [State.done_cache, State.flushProduct, State.cache_invalidate_eq_none]
      simp only [beq_iff_eq]
    · rw [State.done_cache, State.flushProduct]
      exact State.cache_invalidate_of_kept he (beq_false_of_ne hother)
    · have port : (s.flushProduct product).port .supervisor = s.port .supervisor := by
        simp only [State.port, State.flushProduct, State.invalidate_ports]
      exact (State.port_done_self (s.flushProduct product) ⟨.supervisor, tag, 0x35⟩).trans (by rw [port])
    · exact (s.changesOnly_invalidate (fun e => e.key.product == product) rfl).trans
        ((s.flushProduct product).changesOnly_done _ rfl)

end Sys2Proof.Machine
end

section
/-! PROOFS. Header capacity, the supervisor's store requests, the cache's fill, and flags. -/

namespace Sys2Proof.Machine
open Sys2Proof

/-! ## SET HEADER CAPACITY -/

theorem State.examine_of_empty {s : State} (h : s.header.queue = []) : s.examine = s := by
  unfold State.examine
  rw [h]
  rfl

/-- Settles O34, by the place of the new capacity: above 20,000, below the grants, not above the old one, a raise. -/
theorem setHeaderCapacityExaminesOnARaise : Obligations.SetHeaderCapacityExaminesOnARaise := by
  unfold Obligations.SetHeaderCapacityExaminesOnARaise
  intro tag capacity s h
  have served : exec (.setHeaderCapacity .supervisor tag capacity) s =
      .next (serveSetHeaderCapacity ⟨.supervisor, tag, 0x21⟩ capacity s) := exec_of_takes h rfl
  dsimp only
  rw [served]
  unfold serveSetHeaderCapacity
  refine ⟨fun habove => by rw [if_pos habove], fun hrange (hbelow : capacity < s.header.granted) => ?_,
    fun hrange (hgrants : s.header.granted ≤ capacity) hlower => ?_,
    fun hrange (hgrants : s.header.granted ≤ capacity) hraise => ⟨fun hempty => ?_, ⟨_, rfl, ?_⟩⟩⟩
  · rw [if_neg (Nat.not_lt.mpr hrange), if_pos hbelow]
  · rw [if_neg (Nat.not_lt.mpr hrange), if_neg (Nat.not_lt.mpr hgrants)]
    exact congrArg (fun t : State => Host.Outcome.next (t.done _)) (if_neg (Nat.not_lt.mpr hlower))
  · rw [if_neg (Nat.not_lt.mpr hrange), if_neg (Nat.not_lt.mpr hgrants)]
    refine congrArg (fun t : State => Host.Outcome.next (t.done _)) ((if_pos hraise).trans ?_)
    exact State.examine_of_empty hempty
  · rw [if_neg (Nat.not_lt.mpr hrange), if_neg (Nat.not_lt.mpr hgrants)]
    exact congrArg (fun t : State => Host.Outcome.next (t.done _)) (if_pos hraise)

/-! ## The supervisor's store requests -/

theorem paramsOk_iff {p : Params} : paramsOk p = true ↔ p.acceptable := by
  have additives : p.additives.toList.all (fun ad => within 0 6 ad.code && within 0 20000 ad.rate) = true ↔
      ∀ ad ∈ p.additives.toList, ad.code ≤ 6 ∧ ad.rate ≤ 20000 := by
    simp only [List.all_eq_true, Bool.and_eq_true, within_iff, Nat.zero_le, true_and]
  have codes := no_clash_iff (f := fun i : Fin 3 => p.additives[i].code)
  simp only [paramsOk, Params.acceptable, Bool.and_eq_true, within_iff, additives, decide_eq_true_eq, and_assoc,
    Nat.zero_le, true_and] at codes ⊢
  rw [← codes]
  constructor
  · intro h
    tauto
  · intro h
    have : p.uLo ≤ 9999 := by omega
    have : 1 ≤ p.uHi := by omega
    tauto

theorem straightOk_iff {p : Params} :
    straightOk p = true ↔ p.target = 0 ∧ p.flush = 0 ∧ ∀ ad ∈ p.additives.toList, ad.code = 0 := by
  simp only [straightOk, Bool.and_eq_true, beq_iff_eq, List.all_eq_true, and_assoc]

theorem entryFieldsOk_iff {f : EntryFields} :
    entryFieldsOk f = true ↔ f.valid ≤ 1 ∧ f.restricted ≤ 1 ∧ f.page ≤ 63 := by
  simp only [entryFieldsOk, Bool.and_eq_true, within_iff, Nat.zero_le, true_and, and_assoc]

theorem recipeFieldsOk_iff {f : RecipeFields} :
    recipeFieldsOk f = true ↔ f.valid ≤ 1 ∧ f.restricted ≤ 1 ∧
      (∀ x ∈ f.name.toList, 32 ≤ x.toNat ∧ x.toNat ≤ 126) ∧ f.kind ≤ 1 ∧ f.faultAction ≤ 1 ∧ f.params.acceptable ∧
      (f.kind = 1 → f.params.target = 0 ∧ f.params.flush = 0 ∧ ∀ ad ∈ f.params.additives.toList, ad.code = 0) := by
  simp only [recipeFieldsOk, Bool.and_eq_true, Bool.or_eq_true, beq_iff_eq, within_iff, nameOk_iff, paramsOk_iff,
    straightOk_iff, Nat.zero_le, true_and, and_assoc]
  refine and_congr_right fun _ => and_congr_right fun _ => and_congr_right fun _ => and_congr_right fun hkind =>
    and_congr_right fun _ => and_congr_right fun _ => ?_
  have kinds : f.kind = 0 ↔ ¬ f.kind = 1 := by omega
  rw [kinds, imp_iff_not_or]

theorem recipeSelectorOk_iff {page package : Nat} :
    recipeSelectorOk page package = true ↔ page ≤ 63 ∧ package ≤ 15 := by
  simp only [recipeSelectorOk, Bool.and_eq_true, within_iff, Nat.zero_le, true_and]

theorem productOk_iff {product : Nat} : within 0 255 product = true ↔ product ≤ 255 := by
  simp only [within_iff, Nat.zero_le, true_and]

/-- What a supervisor store request is served with: its range check and its operation. -/
theorem exec_storeRequest {tag code : Byte} {i : Instr} {op : StoreOp} {s : State}
    (hi : storeRequest tag i = some (code, op)) (h : s.takes ⟨.supervisor, tag, code⟩ .nothing) :
    ∃ inRange : Bool, (inRange = true ↔ storeFieldsOk i) ∧
      exec i s = .next (serveStore ⟨.supervisor, tag, code⟩ inRange op s) := by
  unfold storeRequest at hi
  split at hi
  · obtain ⟨rfl, hpair⟩ := Option.ite_none_right_eq_some.mp hi
    cases hpair
    exact ⟨_, productOk_iff, exec_of_takes h rfl⟩
  · obtain ⟨rfl, hpair⟩ := Option.ite_none_right_eq_some.mp hi
    cases hpair
    exact ⟨_, Bool.and_eq_true_iff.trans (and_congr productOk_iff entryFieldsOk_iff), exec_of_takes h rfl⟩
  · obtain ⟨rfl, hpair⟩ := Option.ite_none_right_eq_some.mp hi
    cases hpair
    exact ⟨_, recipeSelectorOk_iff, exec_of_takes h rfl⟩
  · obtain ⟨rfl, hpair⟩ := Option.ite_none_right_eq_some.mp hi
    cases hpair
    exact ⟨_, Bool.and_eq_true_iff.trans ((and_congr recipeSelectorOk_iff recipeFieldsOk_iff).trans and_assoc),
      exec_of_takes h rfl⟩
  · obtain ⟨rfl, hpair⟩ := Option.ite_none_right_eq_some.mp hi
    cases hpair
    exact ⟨_, productOk_iff, exec_of_takes h rfl⟩
  · cases hi

/-- A supervisor store request's operation is no walk, so that it starts with no change of the walk list. -/
theorem markCurrent_storeRequest {tag code : Byte} {i : Instr} {op : StoreOp}
    (hi : storeRequest tag i = some (code, op)) (walks : List WalkEntry) : markCurrent op walks = walks := by
  unfold storeRequest at hi
  split at hi
  case h_6 => cases hi
  all_goals
    obtain ⟨-, hpair⟩ := Option.ite_none_right_eq_some.mp hi
    cases hpair
    rfl

/-- Settles O38: out of range, behind a current operation, and on an idle store. -/
theorem storeRequestsQueueTheirOperation : Obligations.StoreRequestsQueueTheirOperation := by
  unfold Obligations.StoreRequestsQueueTheirOperation
  intro tag i code op s hi h
  obtain ⟨inRange, hrange, served⟩ := exec_storeRequest hi h
  obtain ⟨-, hload, -, -⟩ := State.takes_spec h
  dsimp only
  rw [served]
  refine ⟨fun hbad => congrArg Host.Outcome.next (if_neg (mt hrange.mp hbad)), fun hgood hbusy => ?_,
    fun hgood hcurrent hqueue hrestart => ?_⟩
  · refine congrArg Host.Outcome.next ((if_pos (hrange.mpr hgood)).trans (State.askOp_of_busy _ _ ?_))
    exact hbusy
  · refine congrArg Host.Outcome.next ((if_pos (hrange.mpr hgood)).trans ((State.askOp_of_idle _ _ ?_ ?_ ?_ ?_).trans ?_))
    · exact hcurrent
    · exact hqueue
    · exact hrestart
    · exact hload
    · rw [markCurrent_storeRequest hi]
      rfl

/-! ## The cache's fill -/

theorem waysOf_eq_map (key : Key) : waysOf key = (List.finRange 4).map (wayOf key) := rfl

theorem wayOf_injective (key : Key) : Function.Injective (wayOf key) := by
  intro v w h
  have hval := congrArg Fin.val h
  simp only [wayOf] at hval
  omega

/-- The way a fill takes (R114). -/
theorem State.fillPlace_spec (s : State) (key : Key) :
    ∃ w : Fin 4, s.fillPlace key = wayOf key w ∧
      ((∃ v : Fin 4, s.cache[wayOf key v] = none) →
        s.cache[wayOf key w] = none ∧ ∀ v : Fin 4, v < w → s.cache[wayOf key v] ≠ none) ∧
      ((∀ v : Fin 4, s.cache[wayOf key v] ≠ none) → w = s.replacement) := by
  unfold State.fillPlace
  rw [waysOf_eq_map, List.find?_map]
  cases hfind : (List.finRange 4).find? ((fun i => s.cache[i].isNone) ∘ wayOf key) with
  | none =>
    have full : ∀ v : Fin 4, s.cache[wayOf key v] ≠ none := fun v hv =>
      List.find?_eq_none.mp hfind v (List.mem_finRange v) (by rw [Function.comp_apply, hv]; rfl)
    exact ⟨s.replacement, rfl, fun ⟨v, hv⟩ => absurd hv (full v), fun _ => rfl⟩
  | some w =>
    obtain ⟨hw, n, hn, hnw, hbefore⟩ := List.find?_eq_some_iff_getElem.mp hfind
    have free : s.cache[wayOf key w] = none := Option.isNone_iff_eq_none.mp hw
    refine ⟨w, rfl, fun _ => ⟨free, fun v hv hnone => ?_⟩, fun hfull => absurd free (hfull w)⟩
    have hv : v.val < n := by
      rw [← hnw] at hv
      simpa [Fin.lt_def] using hv
    have held : s.cache[wayOf key v].isSome = true := by simpa using hbefore v.val hv
    rw [hnone] at held
    cases held

/-- Settles O40: the place that a fill takes, and the only entry of its key after it. -/
theorem cacheFillTakesItsWay : Obligations.CacheFillTakesItsWay := by
  unfold Obligations.CacheFillTakesItsWay
  intro e s
  obtain ⟨w, hplace, hfree, hfull⟩ := s.fillPlace_spec e.key
  have filled : (s.fillCache e).cache = s.cache.set (wayOf e.key w) (some e) := by
    simp only [State.fillCache, hplace]
  refine ⟨w, filled, hfree, hfull, fun hothers => ?_⟩
  have self : (s.fillCache e).cache[wayOf e.key w] = some e := by
    simp [filled]
  have others : ∀ v : Fin 4, holdsKey e.key (s.fillCache e).cache[wayOf e.key v] = true → v = w := by
    intro v hv
    by_contra hne
    have apart : (s.fillCache e).cache[wayOf e.key v] = s.cache[wayOf e.key v] := by
      simp only [filled]
      exact Vector.getElem_set_ne _ _ fun h => hne (wayOf_injective e.key (Fin.ext h.symm))
    rw [apart] at hv
    cases hx : s.cache[wayOf e.key v] with
    | none => rw [hx] at hv; cases hv
    | some x => rw [hx] at hv; exact hothers v x hx (of_decide_eq_true hv)
  unfold State.cached State.findEntry
  rw [waysOf_eq_map, List.find?_map]
  cases hfind : (List.finRange 4).find? ((fun i => holdsKey e.key (s.fillCache e).cache[i]) ∘ wayOf e.key) with
  | none =>
    refine absurd ?_ (List.find?_eq_none.mp hfind w (List.mem_finRange w))
    simp only [Function.comp_apply, self, holdsKey, decide_true]
  | some v =>
    have hv : v = w := others v (List.find?_eq_some_iff_getElem.mp hfind).1
    rw [hv]
    exact self

/-! ## CLEAR FLAGS and the setting of a flag -/

theorem Flag.index_lt (f : Flag) : f.index < 11 := by cases f <;> decide

theorem Flag.index_injective : Function.Injective Flag.index := by
  intro f g h
  cases f <;> cases g <;> first | rfl | cases h

theorem FlagSet.has_add (fs : FlagSet) (f g : Flag) :
    FlagSet.has (FlagSet.add fs f) g = true ↔ g = f ∨ FlagSet.has fs g = true := by
  simp only [FlagSet.has, FlagSet.add, FlagSet.only, BitVec.getLsbD_or, BitVec.getLsbD_twoPow, Bool.or_eq_true,
    Bool.and_eq_true, decide_eq_true_eq, Flag.index_lt, true_and]
  rw [Flag.index_injective.eq_iff, or_comm, eq_comm]

theorem FlagSet.has_without (fs gs : FlagSet) (f : Flag) :
    FlagSet.has (FlagSet.without fs gs) f = true ↔ FlagSet.has fs f = true ∧ FlagSet.has gs f = false := by
  simp [FlagSet.has, FlagSet.without, Flag.index_lt]

theorem FlagSet.has_only (f g : Flag) : FlagSet.has (FlagSet.only f) g = true ↔ g = f := by
  simp only [FlagSet.has, FlagSet.only, BitVec.getLsbD_twoPow, Bool.and_eq_true, decide_eq_true_eq,
    Flag.index_lt, true_and]
  rw [Flag.index_injective.eq_iff, eq_comm]

theorem State.has_clearable (s : State) (p : Port) (a : ArmId) (mask : BitVec 16) (f : Flag) :
    FlagSet.has (s.clearable p a (mask.truncate 11)) f = true ↔
      FlagSet.has (s.arm a).flags f = true ∧ mask.getLsbD f.index = true ∧
        FlagSet.has ((s.port p).seen[a]) f = true := by
  simp [FlagSet.has, State.clearable, Flag.index_lt, and_assoc]

/-- What a CLEAR FLAGS with a mask of the eleven flags makes of the state (R173). -/
theorem serveClearFlags_of_mask {c : Caller} {a : ArmId} {mask : BitVec 16} {s : State} (h : mask.toNat < 2048) :
    ∃ (gone left : FlagSet), gone = s.clearable c.port a (mask.truncate 11) ∧
      left = FlagSet.without (s.arm a).flags gone ∧
      serveClearFlags c a mask s =
        ((s.setArm a fun arm => { arm with
          flags := left
          overrun := if c.port = .supervisor ∧ FlagSet.has gone .trimOverrun = true then 0
            else arm.overrun }).setSeen c.port a 0).reply c .ok (.cleared gone left) :=
  ⟨_, _, rfl, rfl, if_neg (Nat.not_le.mpr h)⟩

theorem State.changesOnly_ports (s : State) (ports : Vector LinkPort 5) {parts : Part → Bool}
    (hp : ∀ p, parts (.port p) = true) : s.changesOnly { s with ports := ports } parts := by
  refine ⟨rfl, fun q hq => ?_⟩
  cases q with
  | port p => exact absurd (hq.symm.trans (hp p)) Bool.false_ne_true
  | _ => rfl

theorem State.changesOnly_setFlag (s : State) (a : ArmId) (f : Flag) {parts : Part → Bool}
    (ha : parts (.arm a) = true) (hp : ∀ p, parts (.port p) = true) : s.changesOnly (s.setFlag a f) parts :=
  (s.changesOnly_setArm a _ ha).trans (State.changesOnly_ports _ _ hp)

theorem State.arm_setFlag_self (s : State) (a : ArmId) (f : Flag) :
    (s.setFlag a f).arm a = { s.arm a with flags := FlagSet.add (s.arm a).flags f } := by
  rw [State.arm_setFlag, if_pos rfl]

theorem LinkPort.forget_seen_of_ne (lp : LinkPort) {a b : ArmId} (f : Flag) (h : b ≠ a) :
    (lp.forget a f).seen[b] = lp.seen[b] :=
  Vector.getElem_set_ne a.isLt b.isLt fun hab => h (Fin.ext hab.symm)

/-- Settles O31: what a CLEAR FLAGS clears and what stands, and what setting a flag changes. -/
theorem flagsAreSeenBeforeTheyClear : Obligations.FlagsAreSeenBeforeTheyClear := by
  unfold Obligations.FlagsAreSeenBeforeTheyClear
  refine ⟨fun p tag a mask s h => ?cleared, fun a f s => ⟨fun g => ?_, fun p b g => ?_, fun b hb => ?_, ?_, ?_⟩⟩
  case cleared =>
    have served : exec (.clearFlags p tag a.val mask) s = .next (serveClearFlags ⟨p, tag, 0x09⟩ a mask s) :=
      exec_of_takes_arm (serve := fun a => serveClearFlags ⟨p, tag, 0x09⟩ a mask) h rfl
    rw [served]
    refine ⟨fun hbad => congrArg Host.Outcome.next (if_pos hbad), fun hgood => ?_⟩
    obtain ⟨gone, left, hgone, hleft, hserve⟩ :=
      serveClearFlags_of_mask (c := ⟨p, tag, 0x09⟩) (a := a) (s := s) hgood
    refine ⟨gone, left, _, congrArg Host.Outcome.next hserve, fun f => ?_, fun f => ?_, ?_, ?_, ?_⟩
    · rw [hgone]
      exact s.has_clearable p a mask f
    · rw [hleft]
      exact FlagSet.has_without _ _ f
    · rw [State.arm_reply, State.setSeen, State.arm_setPort, State.arm_setArm_self]
    · simp [State.reply, State.setSeen]
    · have arm : (Part.arm a == Part.arm a || Part.arm a == Part.port p) = true := by simp
      have port : (Part.port p == Part.arm a || Part.port p == Part.port p) = true := by simp
      exact (s.changesOnly_setArm a _ arm).trans
        ((State.changesOnly_setPort _ p _ port).trans (State.changesOnly_setPort _ p _ port))
  · rw [State.arm_setFlag_self]
    exact FlagSet.has_add _ f g
  · rw [State.port_setFlag]
    by_cases hb : b = a
    · subst hb
      rw [LinkPort.forget_seen_self, FlagSet.has_without, Bool.eq_false_iff, Ne, FlagSet.has_only, and_comm]
      simp
    · rw [LinkPort.forget_seen_of_ne _ f hb]
      simp [hb]
  · rw [State.arm_setFlag, if_neg hb]
  · rw [State.arm_setFlag_self]
  · exact s.changesOnly_setFlag a f (by simp) fun p => rfl

end Sys2Proof.Machine
end

section
/-! PROOFS. The port's checks in order, the refusals of AUTHORIZE, and a START that waits. -/

namespace Sys2Proof.Machine
open Sys2Proof

/-! ## The checks of a port -/

/-- Every request is taken by its port in one way. -/
theorem exec_request {i : Instr} {c : Caller} {names : Names} (h : requestOf i = some (c, names)) :
    ∃ serve : State → State, ∀ s : State, exec i s = .next (s.takeRequest c names serve) := by
  cases i <;> cases h <;> exact ⟨_, fun s => rfl⟩

theorem State.takeRequest_of_flooded {s : State} {c : Caller} {names : Names} {serve : State → State}
    (h : s.flooded c.port = true) : s.takeRequest c names serve = s := if_pos h

theorem State.takeRequest_of_check {s : State} {c : Caller} {names : Names} {serve : State → State} {r : Result}
    (h : s.flooded c.port = false) (hr : s.portCheck c names = some r) :
    s.takeRequest c names serve = s.refuse c r := by
  unfold State.takeRequest
  rw [if_neg (ne_true_of_eq_false h), hr]

theorem State.portCheck_of_front {s : State} {c : Caller} {names : Names} {r : Result} (h : s.frontCheck c = some r) :
    s.portCheck c names = some r := by
  unfold State.portCheck
  rw [h]

theorem State.portCheck_of_front_passed {s : State} {c : Caller} {names : Names} (h : s.frontCheck c = none) :
    s.portCheck c names =
      if outOfRange c.port names then some .badField
      else if notItsArm c.port names then some .notYourArm else none := by
  unfold State.portCheck
  rw [h]

theorem State.frontCheck_of_loading {s : State} {c : Caller} {d : Nat} (h : s.load = .loading d) :
    s.frontCheck c = some .notReady := by
  unfold State.frontCheck
  rw [h]

theorem State.frontCheck_of_not_loading {s : State} {c : Caller} (h : ∀ d, s.load ≠ .loading d) :
    s.frontCheck c =
      if (s.port c.port).outstanding.isSome then some .linkBusy
      else if accepts c.port c.code then none else some .badRequest := by
  unfold State.frontCheck
  split
  · next d hd => exact absurd hd (h d)
  · rfl

/-- Settles O16, check by check. -/
theorem requestsMeetThePortChecksInOrder : Obligations.RequestsMeetThePortChecksInOrder := by
  unfold Obligations.RequestsMeetThePortChecksInOrder
  intro i c names s hi
  obtain ⟨serve, served⟩ := exec_request hi
  rw [served]
  refine ⟨fun hfull => ?_, fun hroom => ?_⟩
  · rw [State.takeRequest_of_flooded (decide_eq_true hfull)]
  have open' : s.flooded c.port = false := decide_eq_false (Nat.not_le.mpr hroom)
  refine ⟨fun d hd => ?_, fun hload => ?_⟩
  · rw [State.takeRequest_of_check open' (State.portCheck_of_front (State.frontCheck_of_loading hd))]
  have front := State.frontCheck_of_not_loading (c := c) hload
  refine ⟨fun hbusy => ?_, fun hfree => ?_⟩
  · rw [State.takeRequest_of_check open' (State.portCheck_of_front (front.trans (if_pos hbusy)))]
  replace front := front.trans (if_neg (by rw [hfree]; exact Bool.false_ne_true))
  refine ⟨fun hcode => ?_, fun hcode => ?_⟩
  · rw [State.takeRequest_of_check open'
      (State.portCheck_of_front (front.trans (if_neg (ne_true_of_eq_false hcode))))]
  have passed := State.portCheck_of_front_passed (names := names) (front.trans (if_pos hcode))
  refine ⟨fun hrange => ?_, fun n l hn hnames hport hlane => ?_⟩
  · have out : outOfRange c.port names = true := by
      rcases hrange with ⟨n, hn, rfl⟩ | ⟨n, hn, rfl, hport⟩
      · exact decide_eq_true hn
      · simp [outOfRange, hport, hn]
    rw [State.takeRequest_of_check open' (passed.trans (if_pos out))]
  · subst hnames
    have inside : ¬ outOfRange c.port (.arm n) = true := fun h => absurd (of_decide_eq_true h) (Nat.not_lt.mpr hn)
    have other : notItsArm c.port (.arm n) = true := by
      rw [hport]
      exact decide_eq_true hlane
    rw [State.takeRequest_of_check open' ((passed.trans (if_neg inside)).trans (if_pos other))]

/-! ## The refusals of AUTHORIZE -/

theorem serveAuthorize_of_refusal {c : Caller} {a : ArmId} {product package preset : Nat} {s : State} {r : Result}
    (h : s.authorizeRefusal a package preset = some r) :
    serveAuthorize c a product package preset s = s.refuse c r := by
  unfold serveAuthorize
  rw [h]

theorem inBatchRange_iff {package preset : Nat} :
    (within 50000 60000000 preset && within 0 15 package) = true ↔ inBatchRange package preset := by
  simp only [Bool.and_eq_true, within_iff, inBatchRange, Nat.zero_le, true_and, and_assoc]

/-- Settles O20: the first condition that applies is the first that `authorizeRefusal` finds. -/
theorem authorizeIsRefusedInOrder : Obligations.AuthorizeIsRefusedInOrder := by
  unfold Obligations.AuthorizeIsRefusedInOrder
  intro tag a product package preset r s h hr
  rw [exec_authorize_of_takes h]
  refine congrArg Host.Outcome.next (serveAuthorize_of_refusal ?_)
  unfold State.authorizeRefusal
  rcases hr with ⟨hstate, rfl⟩ | ⟨hstate, hr⟩
  · rw [if_pos hstate]
  rw [if_neg (not_not.mpr hstate)]
  rcases hr with ⟨hrestart, rfl⟩ | ⟨hrestart, hr⟩
  · rw [if_pos hrestart]
  rw [if_neg (ne_true_of_eq_false hrestart)]
  rcases hr with ⟨hload, rfl⟩ | ⟨hload, hr⟩
  · rw [if_pos hload]
  rw [if_neg hload]
  rcases hr with ⟨hconfig, rfl⟩ | ⟨hconfig, hr⟩
  · rw [if_pos (Option.isNone_iff_eq_none.mpr hconfig)]
  rw [if_neg (mt Option.isNone_iff_eq_none.mp hconfig)]
  rcases hr with ⟨hbarred, rfl⟩ | ⟨hbarred, hr⟩
  · rw [if_pos (by simpa using mt Arm.authorizable_iff.mp (not_not.mpr hbarred))]
  rw [if_neg (by simp [Arm.authorizable_iff.mpr hbarred])]
  rcases hr with ⟨hplaces, rfl⟩ | ⟨hplaces, hrange, rfl⟩
  · rw [if_pos (by simpa [State.placeFree] using hplaces)]
  · rw [if_neg (by simpa [State.placeFree] using hplaces), if_pos]
    rw [Bool.eq_false_iff.mpr (mt inBatchRange_iff.mp hrange)]
    rfl

/-! ## START that waits -/

theorem exec_start_of_takes {p : Port} {tag : Byte} {a : ArmId} {s : State}
    (h : s.takes ⟨p, tag, 0x02⟩ (.arm a.val)) :
    exec (.start p tag a.val) s = .next (serveStart ⟨p, tag, 0x02⟩ a s) :=
  exec_of_takes_arm (serve := serveStart ⟨p, tag, 0x02⟩) h rfl

/-- START of an AUTHORIZED arm with the permissive fixes its quantities and asks for its grant (R32). -/
theorem serveStart_of_authorized {c : Caller} {a : ArmId} {s : State} {b : Batch} {snap : Snapshot}
    (hstate : (s.arm a).state = .authorized) (hpermissive : (s.arm a).permissive = true)
    (hb : (s.arm a).batch = some b) (hsnap : b.snapshot = some snap) :
    serveStart c a s =
      let fx := fixedQuantities b.preset snap.params
      let t := (s.setArm a (·.fix fx (decide (fx.flush < snap.params.flush)))).askGrant a snap fx
      t.reply c .ok (.armState (t.arm a).state) := by
  have snapshot : (s.arm a).snapshot = some snap := by rw [Arm.snapshot, hb]; exact hsnap
  unfold serveStart
  rw [if_neg (not_not.mpr hstate), if_neg (by rw [hpermissive]; exact Bool.false_ne_true), hb, snapshot]

/-- An arm that gets no grant joins the header queue (R144). -/
theorem State.askGrant_of_unanswered {s : State} {a : ArmId} {snap : Snapshot} {fx : Fixed}
    (h : s.header.answer (headerRequest snap fx.fraction) (headerMinimum snap fx.fraction) fx.fraction = none) :
    s.askGrant a snap fx = s.joinHeader a (headerRequest snap fx.fraction) (headerMinimum snap fx.fraction) := by
  unfold State.askGrant
  dsimp only
  rw [h]

theorem State.joinHeader_setArm (s : State) (a : ArmId) (f : Arm → Arm) (request minimum : Nat) :
    (s.setArm a f).joinHeader a request minimum =
      State.setArm { s with header := { s.header with queue := s.header.queue ++ [⟨a, request, minimum⟩] } } a
        fun arm => { (f arm).setMeters Meter.clearIdle with state := .waitingHeader } :=
  State.setArm_setArm { s with header := { s.header with queue := s.header.queue ++ [⟨a, request, minimum⟩] } } a f
    fun arm => { arm.setMeters Meter.clearIdle with state := .waitingHeader }

theorem Arm.fix_waiting {arm : Arm} {b : Batch} {fx : Fixed} {reduced : Bool} (hb : arm.batch = some b) :
    { (arm.fix fx reduced).setMeters Meter.clearIdle with state := .waitingHeader } =
      { arm with
        state := .waitingHeader
        authorizeTimer := none
        meterG := { arm.meterG with idleCount := 0 }
        meterE := { arm.meterE with idleCount := 0 }
        batch := some { b with
          fixed := some fx
          figures := { b.figures with markers := { b.figures.markers with flushReduced := reduced } } } } := by
  simp [Arm.fix, hb, Arm.setMeters, Meter.clearIdle]

/-- Settles O24: a START with no grant joins the header queue; a refused one changes nothing. -/
theorem startWaitsOrIsRefused : Obligations.StartWaitsOrIsRefused := by
  unfold Obligations.StartWaitsOrIsRefused
  refine ⟨fun tag a b snap s h hstate hpermissive hb hsnap => ?waits,
    fun tag a s h => ⟨fun hother => ?_, fun hstate hlost => ?_⟩⟩
  case waits =>
    intro fx request minimum free hneeds hcannot
    have unanswered : s.header.answer request minimum fx.fraction = none := by
      unfold Header.answer
      rw [if_neg (Nat.pos_iff_ne_zero.mp hneeds)]
      by_cases hq : s.header.queue = []
      · obtain ⟨hreq, hmin⟩ := hcannot.resolve_left (not_not.mpr hq)
        rw [if_pos hq]
        exact (if_neg (Nat.not_le.mpr hreq)).trans (if_neg (Nat.not_le.mpr hmin))
      · rw [if_neg hq]
    rw [exec_start_of_takes h, serveStart_of_authorized hstate hpermissive hb hsnap]
    have joined : (s.setArm a (·.fix fx (decide (fx.flush < snap.params.flush)))).askGrant a snap fx =
        State.setArm { s with header := { s.header with
          queue := s.header.queue ++ [⟨a, request, minimum⟩] } } a fun arm => { arm with
            state := .waitingHeader
            authorizeTimer := none
            meterG := { arm.meterG with idleCount := 0 }
            meterE := { arm.meterE with idleCount := 0 }
            batch := some { b with
              fixed := some fx
              figures := { b.figures with markers := { b.figures.markers with
                flushReduced := decide (fx.flush < snap.params.flush) } } } } := by
      refine (State.askGrant_of_unanswered (s := s.setArm a _) unanswered).trans ?_
      refine (s.joinHeader_setArm a _ _ _).trans (State.setArm_congr _ a _ _ ?_)
      exact Arm.fix_waiting hb
    dsimp only
    rw [joined, State.arm_setArm_self]
  · rw [exec_start_of_takes h, serveStart, if_pos hother]
  · rw [exec_start_of_takes h, serveStart, if_neg (not_not.mpr hstate), if_pos (by rw [hlost]; rfl)]

end Sys2Proof.Machine
end

section
/-! PROOFS. The alert lines, STOP, the permissive, and the lane's RESUME. -/

namespace Sys2Proof.Machine
open Sys2Proof

/-! ## The alert lines -/

theorem mem_armsOf {l : LaneId} {a : ArmId} : a ∈ armsOf l ↔ a.val / 2 = l.val := by
  simp only [armsOf, List.mem_cons, List.not_mem_nil, or_false, Fin.ext_iff]
  omega

theorem any_armsOf {l : LaneId} {P : ArmId → Bool} :
    (armsOf l).any P = true ↔ ∃ a : ArmId, a.val / 2 = l.val ∧ P a = true := by
  simp only [List.any_eq_true, mem_armsOf]

/-- Two sets of five meet when they share one of the five. -/
theorem and_ne_zero_iff {x y : BitVec 5} :
    x &&& y ≠ 0 ↔ ∃ i < 5, x.getLsbD i = true ∧ y.getLsbD i = true := by
  constructor
  · intro h
    by_contra hno
    refine h (BitVec.eq_of_getLsbD_eq fun i hi => ?_)
    have hpair : ¬ (x.getLsbD i = true ∧ y.getLsbD i = true) := fun hp => hno ⟨i, hi, hp⟩
    refine (BitVec.getLsbD_and).trans (Eq.trans ?_ BitVec.getLsbD_zero.symm)
    exact Bool.eq_false_iff.mpr fun hand => hpair (Bool.and_eq_true_iff.mp hand)
  · rintro ⟨i, -, hx, hy⟩ hzero
    have hbit := congrArg (·.getLsbD i) hzero
    simp [BitVec.getLsbD_and, hx, hy] at hbit

theorem State.getLsbD_laneConditions (s : State) (l : LaneId) (i : Nat) :
    (s.laneConditions l).getLsbD i =
      [(armsOf l).any fun a => (s.arm a).state.isHeld,
        (armsOf l).any fun a => decide ((s.arm a).flags ≠ 0),
        !s.lanes[l].records.isEmpty,
        (armsOf l).any fun a => decide ((s.arm a).state = .waitingHeader),
        (armsOf l).any fun a => decide ((s.arm a).state = .authorized)].getD i false := by
  exact BitVec.getLsbD_ofBoolListLE

theorem exists_lt_five {P : Nat → Prop} : (∃ i < 5, P i) ↔ P 0 ∨ P 1 ∨ P 2 ∨ P 3 ∨ P 4 := by
  constructor
  · rintro ⟨i, hi, h⟩
    interval_cases i <;> simp [h]
  · rintro (h | h | h | h | h)
    exacts [⟨0, by omega, h⟩, ⟨1, by omega, h⟩, ⟨2, by omega, h⟩, ⟨3, by omega, h⟩, ⟨4, by omega, h⟩]

/-- Settles O59: a lane's line by its five conditions, the supervisor's by its four. -/
theorem alertLinesFollowTheirConditions : Obligations.AlertLinesFollowTheirConditions := by
  unfold Obligations.AlertLinesFollowTheirConditions
  refine ⟨fun l s => ?lane, fun s => ?supervisor⟩
  case lane =>
    unfold State.laneAlert
    rw [decide_eq_true_iff, and_ne_zero_iff, exists_lt_five]
    simp only [State.getLsbD_laneConditions, List.getD_cons_zero, List.getD_cons_succ, any_armsOf,
      decide_eq_true_eq, Bool.not_eq_true', List.isEmpty_eq_false_iff, and_comm]
  case supervisor =>
    have flags : (allArms.any fun a => decide ((s.arm a).flags ≠ 0)) = true ↔ ∃ a : ArmId, (s.arm a).flags ≠ 0 := by
      simp [List.any_eq_true, mem_allArms]
    have stale : (s.scanner.records.toList.any fun p => decide (p.state = .stale)) = true ↔
        ∃ ch : Channel, s.scanner.records[ch].state = .stale := by
      rw [List.any_eq_true]
      constructor
      · rintro ⟨x, hx, hstale⟩
        obtain ⟨i, hi, rfl⟩ := Vector.mem_iff_getElem.mp (Vector.mem_toList_iff.mp hx)
        exact ⟨⟨i, hi⟩, of_decide_eq_true hstale⟩
      · rintro ⟨ch, hch⟩
        exact ⟨_, Vector.mem_toList_iff.mpr (Vector.getElem_mem ch.isLt), decide_eq_true hch⟩
    unfold State.supervisorAlert
    rw [Bool.or_eq_true, Bool.or_eq_true, Bool.or_eq_true, flags, stale, decide_eq_true_iff, or_assoc, or_assoc]

/-! ## STOP and the permissive -/

theorem exec_stop_of_takes {p : Port} {tag : Byte} {a : ArmId} {s : State} (h : s.takes ⟨p, tag, 0x03⟩ (.arm a.val)) :
    exec (.stop p tag a.val) s = .next (serveStop ⟨p, tag, 0x03⟩ a s) :=
  exec_of_takes_arm (serve := serveStop ⟨p, tag, 0x03⟩) h rfl

theorem serveStop_of_underway {c : Caller} {a : ArmId} {s : State} (h : (s.arm a).state.underway = true) :
    serveStop c a s = (s.setArm a (·.takesCause (stopCause c.port) s.now)).done c := by
  unfold serveStop
  rw [if_pos h, State.addCause_eq]

theorem Arm.takesCause_of_delivering {arm : Arm} {c : HoldCause} {now : Nat} (h : arm.state = .delivering) :
    arm.takesCause c now = { arm with
      state := .held .delivering
      causes := HoldSet.only c
      holdTimer := some (now + ((arm.snapshot.map (·.params.holdLimit)).getD 0) * 1000 * 1000)
      batch := arm.batch.map fun b => { b with figures := { b.figures with uResume := b.figures.u, u := 0 } }
      valve := { arm.valve with commanded := 0 } } := by
  unfold Arm.takesCause
  dsimp only
  rw [h]

theorem Arm.takesCause_of_flushing {arm : Arm} {c : HoldCause} {now : Nat} (h : arm.state = .flushing) :
    arm.takesCause c now = { arm with
      state := .held .flushing
      causes := HoldSet.only c
      holdTimer := some (now + ((arm.snapshot.map (·.params.holdLimit)).getD 0) * 1000 * 1000) } := by
  unfold Arm.takesCause
  dsimp only
  rw [h]

theorem Arm.takesCause_of_held {arm : Arm} {c : HoldCause} {now : Nat} {o : HeldFrom} (h : arm.state = .held o) :
    arm.takesCause c now = { arm with causes := HoldSet.add arm.causes c } := by
  unfold Arm.takesCause
  dsimp only
  rw [h]

/-! ## What a head examination changes -/

/-- A head examination, while no RESTART is pending, changes arms of the header queue, the header, the batch counter and
the store's operations; an arm outside the queue keeps its values and its grant (R148). -/
theorem State.examineFrom_frame (fuel : Nat) : ∀ s : State, s.restartPending = false →
    ∃ arms header number queue current walks,
      s.examineFrom fuel = { s with
        arms := arms, header := header, batchCounter := number, storeQueue := queue, current := current
        walks := walks } ∧
      header.capacity = s.header.capacity ∧
      ∀ a : ArmId, a ∉ s.header.queue.map (·.arm) →
        arms[a] = s.arms[a] ∧ header.grants[a] = s.header.grants[a] ∧ a ∉ header.queue.map (·.arm) := by
  induction fuel with
  | zero => exact fun s _ => ⟨_, _, _, _, _, _, rfl, rfl, fun a ha => ⟨rfl, rfl, ha⟩⟩
  | succ fuel ih =>
    intro s hr
    have stands : ∃ arms header number queue current walks, s = { s with
        arms := arms, header := header, batchCounter := number, storeQueue := queue, current := current
        walks := walks } ∧ header.capacity = s.header.capacity ∧ ∀ a : ArmId, a ∉ s.header.queue.map (·.arm) →
        arms[a] = s.arms[a] ∧ header.grants[a] = s.header.grants[a] ∧ a ∉ header.queue.map (·.arm) :=
      ⟨_, _, _, _, _, _, rfl, rfl, fun a ha => ⟨rfl, rfl, ha⟩⟩
    unfold State.examineFrom
    split
    · exact stands
    · next p rest hq =>
      split
      · exact stands
      · next g _ =>
        obtain ⟨x, q, k, w, e⟩ := s.admission_frame p.arm g hr
        obtain ⟨arms, header, number, queue, current, walks, e', capacity, apart⟩ :=
          ih (s.admission p.arm g) (by rw [e]; exact hr)
        rw [e] at e' capacity apart
        rw [e, e']
        refine ⟨arms, header, number, queue, current, walks, rfl, capacity, fun a ha => ?_⟩
        have ne : p.arm ≠ a := fun h => ha (by simp [hq, h])
        obtain ⟨arm, grant, out⟩ := apart a fun h => ha ((List.filter_sublist.map _).subset h)
        exact ⟨arm.trans (Vector.getElem_set_ne p.arm.isLt a.isLt fun h => ne (Fin.ext h)),
          grant.trans (Vector.getElem_set_ne p.arm.isLt a.isLt fun h => ne (Fin.ext h)), out⟩

theorem State.leaveQueue_frame (s : State) (a : ArmId) (hr : s.restartPending = false) :
    ∃ arms header number queue current walks,
      s.leaveQueue a = { s with
        arms := arms, header := header, batchCounter := number, storeQueue := queue, current := current
        walks := walks } ∧
      arms[a] = s.arms[a] ∧ header.grants[a] = s.header.grants[a] ∧ a ∉ header.queue.map (·.arm) := by
  have out : a ∉ (s.header.queue.filter (·.arm ≠ a)).map (·.arm) := by simp
  by_cases h : s.header.queue.head?.map (·.arm) = some a
  · rw [State.leaveQueue_of_head s a h]
    obtain ⟨arms, header, number, queue, current, walks, e, -, apart⟩ := State.examineFrom_frame
      (s.header.queue.filter (·.arm ≠ a)).length
      { s with header := { s.header with queue := s.header.queue.filter (·.arm ≠ a) } } hr
    exact ⟨arms, header, number, queue, current, walks, e, apart a out⟩
  · rw [State.leaveQueue_of_not_head s a h]
    exact ⟨_, _, _, _, _, _, rfl, rfl, rfl, out⟩

/-! ## STOP and the permissive, settled -/

/-- What the loss of the permissive makes of an arm outside WAITING_HEADER (R37). -/
theorem State.losePermissive_of_not_waiting {s : State} {a : ArmId} (h : (s.arm a).state ≠ .waitingHeader) :
    s.losePermissive a = s.setArm a (·.takesCause .permissive s.now) := by
  unfold State.losePermissive
  split
  · next hw => exact absurd hw h
  · exact State.addCause_eq s a .permissive

theorem State.losePermissive_of_waiting {s : State} {a : ArmId} (h : (s.arm a).state = .waitingHeader) :
    s.losePermissive a = (s.leaveQueue a).toAuthorized a := by
  unfold State.losePermissive
  rw [h]

/-- The loss of the permissive on an arm outside WAITING_HEADER: the input, and the hold cause. -/
theorem exec_permissiveLost_of_not_waiting {s : State} {a : ArmId} (hp : (s.arm a).permissive = true)
    (h : (s.arm a).state ≠ .waitingHeader) :
    exec (.permissiveLost a) s =
      .next (s.setArm a fun arm => { arm with permissive := false }.takesCause .permissive s.now) := by
  have lost : exec (.permissiveLost a) s =
      .next ((s.setArm a fun x => { x with permissive := false }).losePermissive a) :=
    congrArg Host.Outcome.next (if_pos hp)
  rw [lost, State.losePermissive_of_not_waiting (by rw [State.arm_setArm_self]; exact h)]
  exact congrArg Host.Outcome.next (State.setArm_setArm s a (fun x => { x with permissive := false })
    fun arm => arm.takesCause .permissive s.now)

/-- A waiting arm that loses the permissive leaves the header queue for AUTHORIZED (R33, R146). -/
theorem exec_permissiveLost_of_waiting {s : State} {a : ArmId} (hp : (s.arm a).permissive = true)
    (h : (s.arm a).state = .waitingHeader) :
    exec (.permissiveLost a) s =
      .next (((s.setArm a fun x => { x with permissive := false }).leaveQueue a).toAuthorized a) := by
  have lost : exec (.permissiveLost a) s =
      .next ((s.setArm a fun x => { x with permissive := false }).losePermissive a) :=
    congrArg Host.Outcome.next (if_pos hp)
  rw [lost, State.losePermissive_of_waiting (by rw [State.arm_setArm_self]; exact h)]

/-- Settles O25: STOP and the loss of the permissive in each state of the arm, and the arm that waits in the header
queue. -/
theorem stopAndPermissiveHoldTheArm : Obligations.StopAndPermissiveHoldTheArm := by
  unfold Obligations.StopAndPermissiveHoldTheArm
  refine ⟨fun p tag a s h => ?stop, fun a s => ⟨rfl, fun habsent => ?absent, fun hpresent => ?lost⟩⟩
  case stop =>
    dsimp only
    rw [exec_stop_of_takes h]
    refine ⟨fun hstate => ?_, fun hstate => ?_, fun o hstate => ?_, fun hother => ?_⟩
    · rw [serveStop_of_underway (by rw [hstate]; rfl)]
      exact congrArg (fun t : State => Host.Outcome.next (t.done _))
        (State.setArm_congr s a _ _ (Arm.takesCause_of_delivering hstate))
    · rw [serveStop_of_underway (by rw [hstate]; rfl)]
      exact congrArg (fun t : State => Host.Outcome.next (t.done _))
        (State.setArm_congr s a _ _ (Arm.takesCause_of_flushing hstate))
    · rw [serveStop_of_underway (by rw [hstate]; rfl)]
      exact congrArg (fun t : State => Host.Outcome.next (t.done _))
        (State.setArm_congr s a _ _ (Arm.takesCause_of_held hstate))
    · exact congrArg Host.Outcome.next (if_neg (ne_true_of_eq_false hother))
  case absent => exact congrArg Host.Outcome.next (if_neg (ne_true_of_eq_false habsent))
  case lost =>
    refine ⟨fun hother hwaiting => ?_, fun hstate => ?_, fun hstate => ?_, fun o hstate => ?_,
      fun hstate hcoherent => ?waits⟩
    · rw [exec_permissiveLost_of_not_waiting hpresent hwaiting]
      exact congrArg Host.Outcome.next (State.setArm_congr s a _ _ (Arm.takesCause_of_not_underway
        (arm := { s.arm a with permissive := false }) hother _ _))
    · rw [exec_permissiveLost_of_not_waiting hpresent (by rw [hstate]; exact nofun)]
      exact congrArg Host.Outcome.next (State.setArm_congr s a _ _ (Arm.takesCause_of_delivering hstate))
    · rw [exec_permissiveLost_of_not_waiting hpresent (by rw [hstate]; exact nofun)]
      exact congrArg Host.Outcome.next (State.setArm_congr s a _ _ (Arm.takesCause_of_flushing hstate))
    · rw [exec_permissiveLost_of_not_waiting hpresent (by rw [hstate]; exact nofun)]
      exact congrArg Host.Outcome.next (State.setArm_congr s a _ _ (Arm.takesCause_of_held hstate))
    case waits =>
      have running : s.restartPending = false := hcoherent.settled.not_restarting (by rw [hstate]; exact nofun)
      obtain ⟨arms, header, number, queue, current, walks, e, arm, grant, out⟩ :=
        (s.setArm a fun x => { x with permissive := false }).leaveQueue_frame a running
      refine ⟨_, (s.setArm a fun x => { x with permissive := false }).leaveQueue a,
        exec_permissiveLost_of_waiting hpresent hstate, fun hhead => ?_, fun hhead => ?_, ?_, ?_, ?_, ?_⟩
      · exact congrArg Host.Outcome.next
          (State.leaveQueue_of_head (s.setArm a fun x => { x with permissive := false }) a hhead).symm
      · exact State.leaveQueue_of_not_head (s.setArm a fun x => { x with permissive := false }) a hhead
      · rw [e]
        rfl
      · rw [e]
        exact arm.trans (State.arm_setArm_self s a _)
      · rw [e]
        exact out
      · rw [e]
        exact grant

/-! ## The lane's RESUME -/

theorem HoldSet.and_only_of_has {hs : HoldSet} {c : HoldCause} (h : HoldSet.has hs c = true) :
    hs &&& HoldSet.only c = HoldSet.only c := by
  refine BitVec.eq_of_getLsbD_eq fun i hi => ?_
  simp only [HoldSet.has] at h
  rw [BitVec.getLsbD_and]
  simp only [HoldSet.only, BitVec.getLsbD_twoPow]
  by_cases hic : c.index = i <;> simp_all

theorem HoldSet.and_only_of_not_has {hs : HoldSet} {c : HoldCause} (h : HoldSet.has hs c = false) :
    hs &&& HoldSet.only c = 0 := by
  refine BitVec.eq_of_getLsbD_eq fun i hi => ?_
  simp only [HoldSet.has] at h
  refine (BitVec.getLsbD_and).trans (Eq.trans ?_ BitVec.getLsbD_zero.symm)
  simp only [HoldSet.only, BitVec.getLsbD_twoPow]
  by_cases hic : c.index = i <;> simp_all

theorem State.out_of_service_iff {s : State} {arm : Arm} :
    (arm.snapshot.map fun snap => !s.additivesInService snap).getD false = false ↔
      ∀ snap ∈ arm.snapshot, s.additivesInService snap = true := by
  cases arm.snapshot <;> simp

/-- Settles O26: the three conditions in order, then the causes that are left. -/
theorem laneResumeClearsItsCauses : Obligations.LaneResumeClearsItsCauses := by
  unfold Obligations.LaneResumeClearsItsCauses
  intro tag a o s h hstate
  dsimp only
  rw [exec_resume_of_takes h, serveResume_lane_of_held (ArmState.isHeld_of_eq_held hstate)]
  unfold laneResume State.resumeRefusal
  refine ⟨fun hlost => ?_, fun hp hmeters => ?_, fun hp hmeters hservice => ?_, fun hp hmeters hservice => ?_⟩
  · simp [hlost]
  · simp [hp, hmeters]
  · have out := Bool.eq_true_of_not_eq_false (mt State.out_of_service_iff.mp hservice)
    simp only [hp, hmeters, out, Bool.not_true, Bool.false_eq_true, if_false, if_true]
  · have inside := State.out_of_service_iff.mpr hservice
    simp only [hp, hmeters, inside, Bool.not_true, Bool.false_eq_true, if_false]
    refine ⟨fun hsupervisor => ?_, fun hsupervisor => ?_⟩
    · rw [HoldSet.and_only_of_has hsupervisor, State.leaveCauses_of_ne_zero s a (by decide)]
    · rw [HoldSet.and_only_of_not_has hsupervisor]
      obtain ⟨slots, hleave, hstart⟩ := State.leaveCauses_zero hstate
      refine ⟨_, by rw [hleave], ?_, ?_, State.port_done_self _ _, State.changesOnly_setArm_done s a _ _⟩
      · simp
      · simpa using hstart

end Sys2Proof.Machine
end

section
/-! PROOFS. Pulses of the meters, RESTART and the resets, and what a head examination changes. -/

namespace Sys2Proof.Machine
open Sys2Proof

/-! ## Pulses -/

theorem Arm.meter_setMeter (arm : Arm) (c : Component) (f : Meter → Meter) :
    (arm.setMeter c f).meter c = f (arm.meter c) := by
  cases c <;> rfl

theorem Arm.setMeter_congr {arm : Arm} {c : Component} {f g : Meter → Meter} (h : f (arm.meter c) = g (arm.meter c)) :
    arm.setMeter c f = arm.setMeter c g := by
  cases c
  · exact congrArg (fun m => { arm with meterG := m }) h
  · exact congrArg (fun m => { arm with meterE := m }) h

theorem Arm.setMeter_id {arm : Arm} {c : Component} {f : Meter → Meter} (h : f (arm.meter c) = arm.meter c) :
    arm.setMeter c f = arm := by
  cases c
  · exact congrArg (fun m => { arm with meterG := m }) h
  · exact congrArg (fun m => { arm with meterE := m }) h

theorem exec_meterPulseA_of_window {a : ArmId} {c : Component} {s : State}
    (h : ((s.arm a).meter c).mode = .windowCount) :
    exec (.meterPulseA a c) s = .next (s.setArm a fun arm => (arm.countWindowA c).restartDrain s.now) := by
  have pulse : exec (.meterPulseA a c) s = .next (s.pulseA a c) := rfl
  rw [pulse, State.pulseA, h]

theorem exec_meterPulseA_of_idle {a : ArmId} {c : Component} {s : State}
    (h : ((s.arm a).meter c).mode = .idleCount) :
    exec (.meterPulseA a c) s = .next (s.idlePulse a c) := by
  have pulse : exec (.meterPulseA a c) s = .next (s.pulseA a c) := rfl
  rw [pulse, State.pulseA, h]

/-- Settles O43, by the counting mode and the count's place below or at its limit. -/
theorem meterPulsesAreCounted : Obligations.MeterPulsesAreCounted := by
  unfold Obligations.MeterPulsesAreCounted
  intro a c s
  refine ⟨fun hmode hbelow => ?_, fun hmode hfull => ?_, fun hmode hbelow => ?_, fun hmode htenth => ?_,
    fun hmode => ?_, fun hmode => ?_⟩
  · rw [exec_meterPulseA_of_window hmode]
    refine congrArg Host.Outcome.next (State.setArm_congr s a _ _ ?_)
    rw [Arm.countWindowA, if_neg (Nat.not_le.mpr hbelow)]
    rfl
  · rw [exec_meterPulseA_of_window hmode]
    refine congrArg Host.Outcome.next (State.setArm_congr s a _ _ ?_)
    rw [Arm.countWindowA, if_pos hfull]
    rfl
  · rw [exec_meterPulseA_of_idle hmode, State.idlePulse, if_neg (by omega)]
    refine congrArg Host.Outcome.next (State.setArm_congr s a _ _ (Arm.setMeter_congr ?_))
    simp [Meter.countIdle, wrapPulses, Nat.not_le.mpr (show _ + 1 < 10 from Nat.succ_lt_succ hbelow)]
  · rw [exec_meterPulseA_of_idle hmode, State.idlePulse, if_pos (by omega)]
    refine congrArg (fun t : State => Host.Outcome.next ((t.setFlag a .unauthFlow).askCheckpoint a))
      (State.setArm_congr s a _ _ (Arm.setMeter_congr ?_))
    simp [Meter.countIdle, wrapPulses, show 10 ≤ ((s.arm a).meter c).idleCount + 1 from Nat.succ_le_succ htenth]
  · refine congrArg Host.Outcome.next (State.setArm_congr s a _ _ (Arm.setMeter_congr ?_))
    have held : ∀ n, hold16 (n + 1) = if n < 65535 then n + 1 else 65535 := fun n => by
      unfold hold16
      split <;> omega
    rw [Meter.pulseB, hmode]
    simp only [held]
  · refine congrArg Host.Outcome.next ((State.setArm_congr s a _ id (Arm.setMeter_id ?_)).trans ?_)
    · rw [Meter.pulseB, hmode]
    · exact State.setArm_id s a id rfl

/-! ## RESTART and the resets -/

theorem State.port_restartReset (s : State) (p : Port) : s.restartReset.port p = (s.port p).acrossRestart := by
  simp [State.port, State.restartReset, State.resetBlocks]

theorem LinkPort.acrossRestart_of_restart {lp : LinkPort} {code tag : Byte}
    (h : lp.outstanding = some ⟨code, tag, .restart⟩) : lp.acrossRestart = lp := by
  unfold LinkPort.acrossRestart
  rw [h]

theorem LinkPort.acrossRestart_of_other {lp : LinkPort}
    (h : ∀ code tag, lp.outstanding ≠ some ⟨code, tag, .restart⟩) :
    lp.acrossRestart = { lp with outstanding := none } := by
  unfold LinkPort.acrossRestart
  split
  · next code tag ho => exact absurd ho (h code tag)
  · rfl

theorem State.advanceStore_of_busy {s : State} (h : s.current.isSome = true) : s.advanceStore = s := by
  obtain ⟨k, hk⟩ := Option.isSome_iff_exists.mp h
  unfold State.advanceStore
  rw [hk]

/-- A pending RESTART with nothing to carry out resets the part (R110). -/
theorem State.advanceStore_of_restart {s : State} (hc : s.current = none) (hl : ∀ d, s.load ≠ .loading d)
    (hq : s.storeQueue = []) (hr : s.restartPending = true) : s.advanceStore = s.restartReset := by
  unfold State.advanceStore
  rw [hc, hq]
  split
  · next h => cases h
  · next d _ hd => exact absurd hd (hl d)
  · exact if_pos hr

/-- A RESTART that is taken: the restart is pending, the operations that wait are to be carried out, and the store goes
on (R110, R177). -/
theorem serveRestart_of_idle {c : Caller} {s : State} (h : ∀ a, (s.arm a).state = .idle) :
    serveRestart c s = State.advanceStore { (s.setConversion none).holdOutstanding c .restart with
      restartPending := true
      storeQueue := s.storeQueue.map fun q => { q with carried := true } } :=
  if_pos (s.allIdle_iff.mpr h)

/-- Settles O42: the three answers to a RESTART, and what both resets give. -/
theorem restartAndResetsBeginTheLoad : Obligations.RestartAndResetsBeginTheLoad := by
  unfold Obligations.RestartAndResetsBeginTheLoad
  refine ⟨⟨fun tag s h => ?restart, fun s hpending hcurrent hcarried => ?reset⟩, fun s => rfl, fun s hcurrent => ?power,
    fun s => rfl, fun s p => ⟨fun code tag ho => ?_, fun ho => ?_⟩⟩
  case restart =>
    obtain ⟨-, hload, -, -⟩ := State.takes_spec h
    have served : exec (.restart .supervisor tag) s = .next (serveRestart ⟨.supervisor, tag, 0x7F⟩ s) :=
      exec_of_takes h rfl
    dsimp only
    rw [served]
    refine ⟨fun ⟨a, ha⟩ => ?_, fun hidle hbusy => ?_, fun hidle hcurrent hqueue => ?_⟩
    · exact congrArg Host.Outcome.next (if_neg fun hidle => ha (s.allIdle_iff.mp hidle a))
    · rw [serveRestart_of_idle hidle]
      exact congrArg Host.Outcome.next (State.advanceStore_of_busy hbusy)
    · rw [serveRestart_of_idle hidle]
      refine congrArg Host.Outcome.next ((State.advanceStore_of_restart ?_ ?_ ?_ rfl).trans rfl)
      · exact hcurrent
      · exact hload
      · exact List.map_eq_nil_iff.mpr hqueue
  case reset =>
    refine congrArg Host.Outcome.next (if_pos ?_)
    simpa [hpending, hcurrent] using hcarried
  case power =>
    unfold State.storeAtPowerLoss
    rw [hcurrent]
  · rw [State.port_restartReset, LinkPort.acrossRestart_of_restart ho]
  · rw [State.port_restartReset, LinkPort.acrossRestart_of_other ho]

/-! ## Closing -/

theorem State.changesOnly_of_examined {s : State} {fuel : Nat} (hr : s.restartPending = false) :
    s.changesOnly (s.examineFrom fuel) (fun q => q == .header || q == .batchCounter || q == .storeQueue ||
      q == .current || q == .walks || match q with | .arm a => decide (a ∈ s.header.queue.map (·.arm)) | _ => false) := by
  obtain ⟨arms, header, number, queue, current, walks, e, -, apart⟩ := s.examineFrom_frame fuel hr
  rw [e]
  refine ⟨rfl, fun q hq => ?_⟩
  cases q with
  | arm a => exact (apart a (by simpa using hq)).1
  | header => cases hq
  | batchCounter => cases hq
  | storeQueue => cases hq
  | current => cases hq
  | walks => cases hq
  | _ => rfl

end Sys2Proof.Machine
end

section
/-! PROOFS. Entry into CLOSING, with the release of the grant and the head examination it brings. -/

namespace Sys2Proof.Machine
open Sys2Proof

/-! ## Entry into CLOSING -/

/-- An arm as its entry into CLOSING leaves it, before its slots strike (R45). -/
def Arm.closed (arm : Arm) (b : Batch) (config : ArmConfig) (e : Ending) (now : Nat) : Arm :=
  { arm with
    state := .closing
    causes := 0
    holdTimer := none
    authorizeTimer := none
    drainTimer := some (now + config.drainTime * 1000)
    batch := some { b with ending := some e, figures := { b.figures with u := 0 } }
    valve := { arm.valve with commanded := 0 } }

theorem Arm.toClosing_eq_closed {arm : Arm} {b : Batch} {config : ArmConfig} (hb : arm.batch = some b)
    (hconfig : arm.config = some config) (e : Ending) (now : Nat) :
    arm.toClosing e now = arm.closed b config e now := by
  simp [Arm.toClosing, Arm.closed, Arm.shutValve, Arm.setFigures, hb, hconfig]

/-- An arm enters CLOSING and starts its pending strokes; a grant that its state still holds is released (R45). -/
theorem State.enterClosing_eq {s : State} {a : ArmId} {b : Batch} {config : ArmConfig}
    (hb : (s.arm a).batch = some b) (hconfig : (s.arm a).config = some config) (e : Ending) :
    ∃ slots : Vector Slot 3,
      ((s.arm a).closed b config e s.now).startsStrokes s.inService s.now slots ∧
      s.enterClosing a e =
        if (s.arm a).state.holdsGrant then
          (s.setArm a fun arm => { arm.closed b config e s.now with slots := slots }).release a
        else s.setArm a fun arm => { arm.closed b config e s.now with slots := slots } := by
  have closing : s.setArm a (·.toClosing e s.now) = s.setArm a (·.closed b config e s.now) :=
    State.setArm_congr s a _ _ (Arm.toClosing_eq_closed hb hconfig e s.now)
  obtain ⟨slots, struck, starts⟩ := (s.setArm a (·.closed b config e s.now)).tryStrokes_spec a
  rw [State.arm_setArm_self] at starts
  rw [State.setArm_setArm] at struck
  refine ⟨slots, starts, ?_⟩
  unfold State.enterClosing
  rw [closing, struck]

theorem ArmState.holdsGrant_iff {st : ArmState} :
    st.holdsGrant = true ↔ st = .delivering ∨ st = .held .delivering := by
  cases st with
  | held o => cases o <;> simp [ArmState.holdsGrant]
  | _ => simp [ArmState.holdsGrant]

theorem ArmState.not_holdsGrant_of_flushing {st : ArmState} (h : st = .flushing ∨ st = .held .flushing) :
    st.holdsGrant = false := by
  rcases h with rfl | rfl <;> rfl

/-- What a head examination changes (R148). -/
def examinedParts (s : State) (q : Part) : Bool :=
  q == .header || q == .batchCounter || q == .storeQueue || q == .current || q == .walks ||
    match q with | .arm a => decide (a ∈ s.header.queue.map (·.arm)) | _ => false

theorem State.changesOnly_examine {s : State} (hr : s.restartPending = false) :
    s.changesOnly s.examine (examinedParts s) := State.changesOnly_of_examined hr

theorem State.examine_apart {s : State} {a : ArmId} (hr : s.restartPending = false)
    (ha : a ∉ s.header.queue.map (·.arm)) :
    s.examine.arm a = s.arm a ∧ s.examine.header.grants[a] = s.header.grants[a] := by
  obtain ⟨arms, header, number, queue, current, walks, e, -, apart⟩ := s.examineFrom_frame _ hr
  unfold State.examine
  rw [e]
  exact ⟨(apart a ha).1, (apart a ha).2.1⟩

/-- The state in which the release of an arm's grant has the header queue's head examined (R147). -/
def State.grantGone (s : State) (a : ArmId) : State :=
  { s with header := { s.header with grants := s.header.grants.set a ⟨0, none⟩ } }

theorem State.release_eq (s : State) (a : ArmId) : s.release a = (s.grantGone a).examine := rfl

theorem State.grants_grantGone (s : State) (a : ArmId) : (s.grantGone a).header.grants[a] = ⟨0, none⟩ :=
  Vector.getElem_set_self a.isLt

theorem State.changesOnly_grantGone (s : State) (a : ArmId) {parts : Part → Bool} (h : parts .header = true) :
    s.changesOnly (s.grantGone a) parts := by
  refine ⟨rfl, fun q hq => ?_⟩
  cases q with
  | header => exact absurd (hq.symm.trans h) Bool.false_ne_true
  | _ => rfl

/-- An arm's entry into CLOSING, followed by a change that `also` picks and that reaches no arm and not the header,
closes its batch (R45, R147, R148). -/
theorem State.closesBatch_of_enterClosing {s t : State} {a : ArmId} {b : Batch} {config : ArmConfig} {e : Ending}
    {also : Part → Bool} (hb : (s.arm a).batch = some b) (hconfig : (s.arm a).config = some config)
    (hr : s.restartPending = false) (hqueue : a ∉ s.header.queue.map (·.arm))
    (ht : (s.enterClosing a e).changesOnly t also) (harms : ∀ x, also (.arm x) = false)
    (hheader : also .header = false) : s.closesBatch t a b config e also := by
  obtain ⟨slots, starts, closes⟩ := State.enterClosing_eq hb hconfig e
  have arms : ∀ x, t.arm x = (s.enterClosing a e).arm x := fun x => ht.2 (.arm x) (harms x)
  have header : t.header = (s.enterClosing a e).header := ht.2 .header hheader
  generalize hclosed : (s.setArm a fun arm => { arm.closed b config e s.now with slots := slots }) = closed at closes
  have closedArm : closed.arm a = { (s.arm a).closed b config e s.now with slots := slots } := by
    rw [← hclosed, State.arm_setArm_self]
  have others : ∀ x, x ≠ a → closed.arm x = s.arm x := fun x hx => by
    rw [← hclosed, State.arm_setArm_of_ne s _ hx]
  have closedHeader : closed.header = s.header := by rw [← hclosed]; rfl
  have closedRunning : closed.restartPending = false := by rw [← hclosed]; exact hr
  have closedOnly : ∀ {parts : Part → Bool}, parts (.arm a) = true → s.changesOnly closed parts := fun h => by
    rw [← hclosed]; exact s.changesOnly_setArm a _ h
  cases hgrant : (s.arm a).state.holdsGrant with
  | false =>
    rw [hgrant, if_neg Bool.false_ne_true] at closes
    rw [closes] at arms header ht
    have noGrant : ¬ ((s.arm a).state = .delivering ∨ (s.arm a).state = .held .delivering) :=
      mt ArmState.holdsGrant_iff.mpr (ne_true_of_eq_false hgrant)
    have armA := (arms a).trans closedArm
    refine ⟨⟨?_, ?_⟩, fun h => absurd h noGrant, fun h => absurd h noGrant, fun _ => ⟨header.trans closedHeader, ?_⟩,
      fun x hx _ => (arms x).trans (others x hx), ?_⟩
    · rw [armA]; rfl
    · rw [armA]; exact starts
    · exact (closedOnly (by simp)).trans (ht.mono fun q hq => by simp [hq])
    · exact (closedOnly (by simp)).trans (ht.mono fun q hq => by simp [hq])
  | true =>
    rw [hgrant, if_pos rfl, State.release_eq] at closes
    rw [closes] at arms header ht
    have released : (closed.grantGone a).header = { s.header with grants := s.header.grants.set a ⟨0, none⟩ } := by
      rw [State.grantGone, closedHeader]
    have out : a ∉ (closed.grantGone a).header.queue.map (·.arm) := by rw [released]; exact hqueue
    obtain ⟨examinedArm, examinedGrant⟩ := State.examine_apart (s := closed.grantGone a) closedRunning out
    have armA : t.arm a = { (s.arm a).closed b config e s.now with slots := slots } :=
      (arms a).trans (examinedArm.trans closedArm)
    refine ⟨⟨?_, ?_⟩, fun _ => ?_, fun _ => ⟨closed.grantGone a, (closed.grantGone a).examine, ?_, released, ?_, rfl, ht⟩,
      fun h => ?_, fun x hx hout => ?_, ?_⟩
    · rw [armA]; rfl
    · rw [armA]; exact starts
    · rw [header, examinedGrant]; exact State.grants_grantGone closed a
    · rw [armA]; exact closedArm
    · exact (closedOnly (by simp)).trans (State.changesOnly_grantGone closed a (by simp))
    · exact absurd (hgrant.symm.trans (ArmState.not_holdsGrant_of_flushing h)) (by decide)
    · have outX : x ∉ (closed.grantGone a).header.queue.map (·.arm) := by rw [released]; exact hout
      exact (arms x).trans ((State.examine_apart (s := closed.grantGone a) closedRunning outX).1.trans (others x hx))
    · refine (closedOnly (by simp)).trans ((State.changesOnly_grantGone closed a (by simp)).trans
        (((State.changesOnly_examine (s := closed.grantGone a) closedRunning).mono fun q hq => ?_).trans
          (ht.mono fun q hq => by simp [hq])))
      cases q <;> simp_all [examinedParts]

end Sys2Proof.Machine
end

section
/-! PROOFS. END and ABORT, and the timers of the arm. -/

namespace Sys2Proof.Machine
open Sys2Proof

/-! ## END and ABORT -/

theorem exec_endBatch_of_takes {p : Port} {tag : Byte} {a : ArmId} {s : State}
    (h : s.takes ⟨p, tag, 0x05⟩ (.arm a.val)) :
    exec (.endBatch p tag a.val) s = .next (serveEnd ⟨p, tag, 0x05⟩ a s) :=
  exec_of_takes_arm (serve := serveEnd ⟨p, tag, 0x05⟩) h rfl

theorem exec_abort_of_takes {p : Port} {tag : Byte} {a : ArmId} {s : State}
    (h : s.takes ⟨p, tag, 0x06⟩ (.arm a.val)) :
    exec (.abort p tag a.val) s = .next (serveAbort ⟨p, tag, 0x06⟩ a s) :=
  exec_of_takes_arm (serve := serveAbort ⟨p, tag, 0x06⟩) h rfl

theorem serveAbort_of_underway {c : Caller} {a : ArmId} {s : State} (h : (s.arm a).state.underway = true) :
    serveAbort c a s = (s.enterClosing a ⟨.aborted, some (abortCauseOf c.port)⟩).done c := by
  unfold serveAbort
  cases hs : (s.arm a).state with
  | delivering => rfl
  | flushing => rfl
  | held o => rfl
  | _ => rw [hs] at h; cases h

/-- A request that ends a batch: its arm closes and its port answers (R43, R45). -/
theorem State.closesBatch_done {s : State} {a : ArmId} {b : Batch} {config : ArmConfig} (e : Ending) (c : Caller)
    (hb : (s.arm a).batch = some b) (hconfig : (s.arm a).config = some config) (hr : s.restartPending = false)
    (hqueue : a ∉ s.header.queue.map (·.arm)) :
    s.closesBatch ((s.enterClosing a e).done c) a b config e (fun q => q == .port c.port) ∧
      ((s.enterClosing a e).done c).port c.port = (s.port c.port).form ⟨c.code, c.tag, .ok, .nothing⟩ := by
  have closes := State.closesBatch_of_enterClosing (e := e) (also := fun _ => false) hb hconfig hr hqueue
    (State.changesOnly_refl _ _) (fun _ => rfl) rfl
  have port : (s.enterClosing a e).port c.port = s.port c.port := by
    obtain ⟨-, -, -, -, -, -, frame⟩ := closes
    exact frame (.port c.port) rfl
  refine ⟨State.closesBatch_of_enterClosing hb hconfig hr hqueue
    ((s.enterClosing a e).changesOnly_done c (beq_self_eq_true _)) (fun _ => rfl) rfl, ?_⟩
  rw [State.port_done_self, port]

/-! ## An arm that leaves the walks -/

theorem not_mem_waiters_leaveWalks (s : State) (a : ArmId) : a ∉ (s.leaveWalks a).waiters := by
  simp [State.leaveWalks, State.waiters]

theorem isEmpty_filter_ne (a : ArmId) (xs : List ArmId) :
    (xs.filter fun x => decide (x ≠ a)).isEmpty = xs.all (· == a) := by
  induction xs with
  | nil => rfl
  | cons x xs ih => by_cases h : x = a <;> simp_all

theorem storeQueue_leaveWalks (s : State) (a : ArmId) :
    (s.leaveWalks a).storeQueue = s.storeQueue.filter (fun q => !s.walks.any fun w =>
      !w.current && w.waiters.all (· == a) && decide (q.op = .walk w.key)) := by
  unfold State.leaveWalks
  refine List.filter_congr fun q _ => ?_
  rw [List.any_filter, List.any_map]
  refine congrArg (!·) (List.any_congr rfl fun w => ?_)
  rw [Function.comp_apply, isEmpty_filter_ne]

theorem changesOnly_leaveWalks (s : State) (a : ArmId) {parts : Part → Bool} (hw : parts .walks = true)
    (hq : parts .storeQueue = true) : s.changesOnly (s.leaveWalks a) parts := by
  refine ⟨rfl, fun q h => ?_⟩
  cases q with
  | walks => exact absurd (h.symm.trans hw) Bool.false_ne_true
  | storeQueue => exact absurd (h.symm.trans hq) Bool.false_ne_true
  | _ => rfl

/-- A port's deferred response, when it waits for that work. -/
theorem LinkPort.settle_of_outstanding {lp : LinkPort} {code tag : Byte} {w : Work} (r : Result) (body : Body)
    (h : lp.outstanding = some ⟨code, tag, w⟩) :
    lp.settle w r body = LinkPort.form { lp with outstanding := none } ⟨code, tag, r, body⟩ := by
  unfold LinkPort.settle
  rw [h]
  exact if_pos rfl

/-- Settles O28, by the arm's state: underway, before its admission, CLOSING or IDLE. -/
theorem endAndAbortEndTheBatch : Obligations.EndAndAbortEndTheBatch := by
  unfold Obligations.EndAndAbortEndTheBatch
  refine ⟨fun p tag a b config s hunderway hb hconfig hr hqueue => ⟨fun h => ?ends, fun h => ?aborts⟩,
    fun p tag a s => ⟨fun h hother => ?_, fun h => ?before⟩⟩
  case ends =>
    obtain ⟨closes, port⟩ := State.closesBatch_done ⟨.short, none⟩ ⟨.lane (laneOf a), tag, 0x05⟩ hb hconfig hr hqueue
    refine ⟨_, ?_, closes, port⟩
    rw [exec_endBatch_of_takes h, serveEnd, if_pos hunderway]
  case aborts =>
    obtain ⟨closes, port⟩ := State.closesBatch_done ⟨.aborted, some (abortCauseOf p)⟩ ⟨p, tag, 0x06⟩ hb hconfig hr hqueue
    refine ⟨_, ?_, closes, port⟩
    rw [exec_abort_of_takes h, serveAbort_of_underway hunderway]
  · rw [exec_endBatch_of_takes h, serveEnd, if_neg (ne_true_of_eq_false hother)]
  case before =>
    dsimp only
    rw [exec_abort_of_takes h]
    unfold serveAbort
    refine ⟨fun hstate => by rw [hstate], fun hstate => by rw [hstate], fun hstate => by rw [hstate]; rfl,
      fun hstate hcoherent => ?waiting, fun hstate hp code first ho => ?authorizing⟩
    case waiting =>
      have running : s.restartPending = false := hcoherent.settled.not_restarting (by rw [hstate]; exact nofun)
      obtain ⟨arms, header, number, queue, current, walks, e, arm, grant, out⟩ := s.leaveQueue_frame a running
      rw [hstate]
      refine ⟨_, s.leaveQueue a, rfl, fun hhead => ?_, fun hhead => ?_, rfl, ?_, ?_, ?_, ?_⟩
      · exact congrArg Host.Outcome.next (s.leaveQueue_of_head a hhead).symm
      · exact s.leaveQueue_of_not_head a hhead
      · rw [e]
        exact (State.arm_setArm_self _ a _).trans (congrArg Arm.toIdle arm)
      · rw [e]
        exact out
      · rw [e]
        exact grant
      · rw [State.port_done_self, e]
        rfl
    case authorizing =>
      subst hp
      rw [hstate]
      have other : Port.supervisor ≠ .lane (laneOf a) := nofun
      refine ⟨_, rfl, ?_, ?_, ?_, not_mem_waiters_leaveWalks s a, rfl, storeQueue_leaveWalks s a, ?_⟩
      · exact State.arm_setArm_self (s.leaveWalks a) a _
      · rw [State.done, State.reply, State.port_setPort_of_ne _ _ other.symm]
        exact (State.port_setPort_self _ _ _).trans (LinkPort.settle_of_outstanding _ _ ho)
      · rw [State.port_done_self, State.abortAuthorizing, State.settle, State.port_setPort_of_ne _ _ other]
        rfl
      · exact (changesOnly_leaveWalks s a (by simp) (by simp)).trans
          ((State.changesOnly_setArm _ a _ (by simp)).trans ((State.changesOnly_setPort _ _ _ (by simp)).trans
            (State.changesOnly_done _ _ (by simp))))

/-! ## The arm's timers -/

/-- Settles O44, timer by timer. -/
theorem timersExpireAtTheirInstant : Obligations.TimersExpireAtTheirInstant := by
  unfold Obligations.TimersExpireAtTheirInstant
  refine ⟨⟨fun a d s hstate hd => ?authorize, fun a o d b config s hstate hd hb hconfig hr hqueue => ?hold,
    fun a d s hd => ?lapse⟩, fun a config start s hconfig hstart => ⟨?period, ?output⟩⟩
  case authorize =>
    refine congrArg Host.Outcome.next ?_
    unfold State.authorizeExpiry
    rw [hstate, hd]
    rfl
  case hold =>
    have expires : exec (.holdTimerExpiry a) s = .next ((s.reach d).enterClosing a ⟨.aborted, some .holdTimeout⟩) := by
      refine congrArg Host.Outcome.next ?_
      unfold State.holdExpiry
      rw [hstate, hd]
    exact ⟨_, expires, State.closesBatch_of_enterClosing (s := s.reach d) hb hconfig hr hqueue
      (State.changesOnly_refl _ _) (fun _ => rfl) rfl⟩
  case lapse =>
    refine congrArg Host.Outcome.next ?_
    unfold State.releaseLapses
    rw [hd]
    rfl
  case period =>
    refine congrArg Host.Outcome.next ?_
    unfold State.periodStarts
    rw [hconfig, hstart]
    rfl
  case output =>
    unfold State.valveOutput
    rw [hconfig, hstart]
    simp only [Bool.or_eq_true, decide_eq_true_eq]

end Sys2Proof.Machine
end

section
/-! PROOFS. SET ADDITIVE SERVICE and what it does to the arms. -/

namespace Sys2Proof.Machine
open Sys2Proof

/-! ## SET ADDITIVE SERVICE -/

/-- A change made to each of a list of arms, one after another, that looks at nothing but the arm, the codes in service
and the clock: each arm of the list changes by it once, and nothing else changes. -/
theorem foldl_arms {f : State → ArmId → State} {inService : Vector Bool 6} {now : Nat} {R : Arm → Arm → Prop}
    (hf : ∀ (s : State) (a : ArmId), s.inService = inService → s.now = now →
      ∃ x, f s a = s.setArm a (fun _ => x) ∧ R (s.arm a) x) (as : List ArmId) :
    as.Nodup → ∀ s : State, s.inService = inService → s.now = now →
      ∃ arms, as.foldl f s = { s with arms := arms } ∧
        ∀ b : ArmId, (b ∈ as → R (s.arm b) arms[b]) ∧ (b ∉ as → arms[b] = s.arms[b]) := by
  induction as with
  | nil => exact fun _ s _ _ => ⟨s.arms, rfl, fun b => ⟨nofun, fun _ => rfl⟩⟩
  | cons a as ih =>
    intro hnodup s hservice hnow
    obtain ⟨hout, hnodup⟩ := List.nodup_cons.mp hnodup
    obtain ⟨x, hx, changed⟩ := hf s a hservice hnow
    obtain ⟨arms, e, each⟩ := ih hnodup (s.setArm a fun _ => x) hservice hnow
    refine ⟨arms, by rw [List.foldl_cons, hx, e]; rfl, fun b => ?_⟩
    obtain ⟨inside, outside⟩ := each b
    by_cases hb : b = a
    · subst hb
      have self : arms[b] = x := (outside hout).trans (State.arm_setArm_self s b _)
      exact ⟨fun _ => self ▸ changed, fun h => absurd List.mem_cons_self h⟩
    · have stands : (s.setArm a fun _ => x).arm b = s.arm b := State.arm_setArm_of_ne s _ hb
      refine ⟨fun h => stands ▸ inside ((List.mem_cons.mp h).resolve_left hb), fun h => ?_⟩
      exact (outside fun hin => h (List.mem_cons_of_mem _ hin)).trans stands

theorem State.changesOnly_arms (s : State) (arms : Vector Arm 8) {parts : Part → Bool}
    (ha : ∀ a, parts (.arm a) = true) : s.changesOnly { s with arms := arms } parts := by
  refine ⟨rfl, fun q hq => ?_⟩
  cases q with
  | arm a => exact absurd (hq.symm.trans (ha a)) Bool.false_ne_true
  | _ => rfl

theorem State.changesOnly_inService (s : State) (inService : Vector Bool 6) {parts : Part → Bool}
    (h : parts .inService = true) : s.changesOnly { s with inService := inService } parts := by
  refine ⟨rfl, fun q hq => ?_⟩
  cases q with
  | inService => exact absurd (hq.symm.trans h) Bool.false_ne_true
  | _ => rfl

theorem Arm.usesCode_iff {arm : Arm} {code : Nat} :
    arm.usesCode code = true ↔ ∃ snap, arm.snapshot = some snap ∧ ∃ ad ∈ snap.params.additives.toList, ad.code = code := by
  unfold Arm.usesCode
  cases arm.snapshot with
  | none => simp
  | some snap => simp only [List.any_eq_true, beq_iff_eq, Option.some.injEq, exists_eq_left']

/-- What a code that goes out of service does to every arm (R138). -/
theorem State.outOfService_spec (s : State) (i : Fin 6) :
    ∃ arms, s.outOfService (i.val + 1) = { s with arms := arms, inService := s.inService.set i false } ∧
      ∀ a : ArmId, arms[a] =
        if (s.arm a).usesCode (i.val + 1) then (s.arm a).takesCause .additive s.now else s.arm a := by
  have service : (Fin.ofNat 6 (i.val + 1 - 1)) = i := Fin.ofNat_val_eq_self i
  obtain ⟨arms, e, each⟩ := foldl_arms
    (f := fun s a => s.addCauseIf ((s.arm a).usesCode (i.val + 1)) a .additive)
    (R := fun x y => y = if x.usesCode (i.val + 1) then x.takesCause .additive s.now else x)
    (inService := s.inService.set i false) (now := s.now)
    (fun t a _ hnow => by
      refine ⟨_, ?_, rfl⟩
      unfold State.addCauseIf
      split
      · rw [State.addCause_eq, hnow]
        exact State.setArm_congr t a _ _ rfl
      · exact (State.setArm_id t a _ rfl).symm)
    allArms (by decide) { s with inService := s.inService.set i false } rfl rfl
  refine ⟨arms, ?_, fun a => (each a).1 (mem_allArms a)⟩
  unfold State.outOfService
  dsimp only
  simp only [service]
  exact e

/-- What a code that returns to service does to every arm (R138). -/
theorem State.backInService_spec (s : State) (i : Fin 6) :
    ∃ arms, s.backInService (i.val + 1) = { s with arms := arms, inService := s.inService.set i true } ∧
      ∀ a : ArmId, arms[a] = { s.arm a with slots := arms[a].slots } ∧
        (s.arm a).startsStrokes (s.inService.set i true) s.now arms[a].slots := by
  have service : (Fin.ofNat 6 (i.val + 1 - 1)) = i := Fin.ofNat_val_eq_self i
  obtain ⟨arms, e, each⟩ := foldl_arms (f := State.tryStrokes)
    (R := fun x y => y = { x with slots := y.slots } ∧ x.startsStrokes (s.inService.set i true) s.now y.slots)
    (inService := s.inService.set i true) (now := s.now)
    (fun t a hservice hnow => by
      obtain ⟨slots, struck, starts⟩ := t.tryStrokes_spec a
      rw [hservice, hnow] at starts
      exact ⟨{ t.arm a with slots := slots }, struck.trans (State.setArm_congr t a _ _ rfl), rfl, starts⟩)
    allArms (by decide) { s with inService := s.inService.set i true } rfl rfl
  refine ⟨arms, ?_, fun a => (each a).1 (mem_allArms a)⟩
  unfold State.backInService
  simp only [service]
  exact e

theorem State.codeInService_succ (s : State) (i : Fin 6) : s.codeInService (i.val + 1) = s.inService[i] := by
  simp [State.codeInService]

/-- Settles O37: the refusals, the setting a code already has, and both changes of a code's service. -/
theorem setAdditiveServiceActsOnTheArms : Obligations.SetAdditiveServiceActsOnTheArms := by
  unfold Obligations.SetAdditiveServiceActsOnTheArms
  intro tag code setting s h
  have served : exec (.setAdditiveService .supervisor tag code setting) s =
      .next (serveSetAdditiveService ⟨.supervisor, tag, 0x24⟩ code setting s) := exec_of_takes h rfl
  dsimp only
  rw [served]
  unfold serveSetAdditiveService
  refine ⟨fun hbad => ?_, fun i hcode => ?_⟩
  · have out : ¬ (within 1 6 code && within 0 1 setting) = true := by
      rw [Bool.and_eq_true, within_iff, within_iff]
      omega
    rw [if_pos (by rw [Bool.eq_false_iff.mpr out]; rfl)]
  subst hcode
  have codeIn : within 1 6 (i.val + 1) = true := within_iff.mpr ⟨by omega, by omega⟩
  have settingIn : setting ≤ 1 → within 0 1 setting = true := fun h => within_iff.mpr ⟨Nat.zero_le _, h⟩
  refine ⟨fun hsame => ?_, fun hout hin => ?_, fun hback hgone => ?_⟩
  · have range : setting ≤ 1 := by omega
    have same : s.codeInService (i.val + 1) = decide (setting = 0) := by
      rw [State.codeInService_succ]
      rcases hsame with ⟨rfl, hin⟩ | ⟨rfl, hin⟩ <;> rw [hin] <;> rfl
    rw [if_neg (by rw [codeIn, settingIn range]; decide), if_pos same]
  · subst hout
    obtain ⟨arms, e, each⟩ := s.outOfService_spec i
    refine ⟨s.outOfService (i.val + 1), ?_, by rw [e], fun a => ⟨fun hcode => ?_, fun hcode => ?_⟩, ?_⟩
    · rw [if_neg (by rw [codeIn]; decide), if_neg (by rw [State.codeInService_succ, hin]; decide), if_neg (by decide)]
    · rw [e]
      exact (each a).trans (if_pos (Arm.usesCode_iff.mpr hcode))
    · rw [e]
      refine (each a).trans (if_neg fun huses => ?_)
      obtain ⟨snap, hsnap, ad, had, hc⟩ := Arm.usesCode_iff.mp huses
      exact hcode snap hsnap ad had hc
    · rw [e]
      exact (s.changesOnly_arms arms (by simp)).trans (State.changesOnly_inService _ _ (by simp))
  · subst hback
    obtain ⟨arms, e, each⟩ := s.backInService_spec i
    refine ⟨s.backInService (i.val + 1), ?_, by rw [e], fun a => ?_, ?_⟩
    · rw [if_neg (by rw [codeIn]; decide), if_neg (by rw [State.codeInService_succ, hgone]; decide), if_pos rfl]
    · rw [e]
      exact each a
    · rw [e]
      exact (s.changesOnly_arms arms (by simp)).trans (State.changesOnly_inService _ _ (by simp))

end Sys2Proof.Machine
end

section
/-! PROOFS. The events of the probes. -/

namespace Sys2Proof.Machine
open Sys2Proof

/-! ## The events of the probes -/

theorem plausible_iff {k : ScanSettings} {t : Int} : plausible k t = true ↔ k.low ≤ t ∧ t ≤ k.high := by
  simp [plausible]

/-- The monitor once a conversion has been shown to it (R182). -/
def Monitor.shown (m : Monitor) (p : ProbePacket) (now : Nat) : Monitor :=
  if m.running = true ∧ m.selection = .probes then m.form (.probe p) now else m

theorem State.monitorProbe_eq (s : State) (p : ProbePacket) :
    s.monitorProbe p = { s with monitor := s.monitor.shown p s.now } := by
  unfold State.monitorProbe Monitor.shown
  by_cases h : s.monitor.running = true ∧ s.monitor.selection = .probes
  · rw [if_pos h, if_pos (by simp [h])]
  · rw [if_neg h, if_neg (by simpa using h)]

/-- A record of a temperature reaches the record of its channel, and when that becomes SUSPECT the arm's flags and the
ports' seen sets (R70, R73). -/
theorem State.recordResult_frame (s : State) (ch : Channel) (t : Option Int) :
    ∃ records arms ports, s.recordResult ch t =
      { s with scanner := { s.scanner with records := records }, arms := arms, ports := ports } ∧
      (∀ x : Channel, x ≠ ch → records[x] = s.scanner.records[x]) ∧
      ∀ a : ArmId, a ≠ armOfChannel ch → arms[a] = s.arms[a] := by
  have others : ∀ f : ProbeRecord → ProbeRecord, ∀ x : Channel, x ≠ ch →
      (s.scanner.records.set ch (f s.scanner.records[ch]))[x] = s.scanner.records[x] := fun f x hx =>
    Vector.getElem_set_ne ch.isLt x.isLt fun h => hx (Fin.ext h.symm)
  cases t with
  | none => exact ⟨_, _, _, rfl, fun _ _ => rfl, fun _ _ => rfl⟩
  | some t =>
    unfold State.recordResult State.recordTemperature
    dsimp only
    split
    · exact ⟨_, _, _, rfl, others _, fun _ _ => rfl⟩
    · unfold State.setFlagIf
      split
      · exact ⟨_, _, _, rfl, others _, fun a ha =>
          Vector.getElem_set_ne (armOfChannel ch).isLt a.isLt fun h => ha (Fin.ext h.symm)⟩
      · exact ⟨_, _, _, rfl, others _, fun _ _ => rfl⟩

/-- A temperature within the limits makes the record of its channel GOOD (R70). -/
theorem State.recordResult_of_plausible {s : State} {ch : Channel} {t : Int}
    (h : plausible s.scanner.settings t = true) :
    s.recordResult ch (some t) =
      s.setProbe ch (ProbeRecord.accept t (s.timerMs (s.scanner.settings.staleLimit * 1000))) := if_pos h

/-- A temperature outside the limits is a reject, and the fourth of a GOOD record sets the PROBE flag (R70, R73). -/
theorem State.recordResult_of_rejected {s : State} {ch : Channel} {t : Int}
    (h : ¬ plausible s.scanner.settings t = true) :
    s.recordResult ch (some t) = (s.setProbe ch ProbeRecord.reject).setFlagIf
      (decide (s.scanner.records[ch].state = .good ∧ 4 ≤ s.scanner.records[ch].rejects + 1)) (armOfChannel ch)
      (probeFlag ch) := if_neg h

theorem State.recordAt_setFlagIf (s : State) (b : Bool) (a : ArmId) (f : Flag) (ch : Channel) :
    (s.setFlagIf b a f).scanner.records[ch] = s.scanner.records[ch] := by
  unfold State.setFlagIf
  split <;> rfl

theorem ProbeRecord.reject_eq (r : ProbeRecord) : r.reject = { r with
    rejects := if r.rejects < 255 then r.rejects + 1 else 255
    state := if r.state = .good ∧ 3 ≤ r.rejects then .suspect else r.state } := by
  have held : min 255 (r.rejects + 1) = if r.rejects < 255 then r.rejects + 1 else 255 := by
    split <;> omega
  have fourth : 4 ≤ r.rejects + 1 ↔ 3 ≤ r.rejects := by omega
  simp only [ProbeRecord.reject, held, fourth]

/-- What a conversion makes of the state: its result recorded, shown by the monitor, and the next channel begun (R68). -/
def State.scanned (s : State) (v : Conversion) (code : BitVec 16) (r : State) : State :=
  { r with
    monitor := s.monitor.shown ⟨v.channel, code, s.converted v.channel code,
      ((s.converted v.channel code).map (plausible s.scanner.settings)).getD false⟩ r.now
    scanner := { r.scanner with conversion := some ⟨nextChannel s.scanner.settings v.channel, r.now⟩ } }

theorem exec_conversionComplete {s : State} {v : Conversion} (code : BitVec 16) (h : s.scanner.conversion = some v) :
    exec (.conversionComplete code) s =
      .next (s.scanned v code
        ((s.reach (v.began + 4000)).recordResult v.channel (s.converted v.channel code))) := by
  refine congrArg Host.Outcome.next ?_
  obtain ⟨records, arms, ports, e, -, -⟩ :=
    (s.reach (v.began + 4000)).recordResult_frame v.channel (s.converted v.channel code)
  unfold State.conversionCompletes
  rw [h]
  dsimp only
  have converted : (s.reach (v.began + 4000)).converted v.channel code = s.converted v.channel code := rfl
  rw [converted, State.monitorProbe_eq, e]
  rfl

/-- Settles O53: the conversion by its arm's config and by its temperature, and the stale expiry. -/
theorem probeEventsUpdateTheRecord : Obligations.ProbeEventsUpdateTheRecord := by
  unfold Obligations.ProbeEventsUpdateTheRecord
  refine ⟨fun code v s h => ?conversion, fun ch d s hd hstate => ?stale⟩
  case conversion =>
    intro now next record arm flag
    obtain ⟨records, arms, ports, e, others, apart⟩ :=
      (s.reach (v.began + 4000)).recordResult_frame v.channel (s.converted v.channel code)
    have formed : ∀ config, (s.arm arm).config = some config →
        s.converted v.channel code = some (temperatureOf (calibrationOf config v.channel) code) := fun config hc => by
      unfold State.converted
      rw [show armOfChannel v.channel = arm from rfl, hc]
      rfl
    refine ⟨_, exec_conversionComplete code h, ?_, ?_, ?_, ?_, fun hconfig => ?none, fun config hconfig => ?config,
      ?monitor, ?_⟩
    · rw [e]; rfl
    · rw [e]; rfl
    · rw [e]; rfl
    · rw [e]; exact others
    case none =>
      have missing : s.converted v.channel code = none := by
        unfold State.converted
        rw [show armOfChannel v.channel = arm from rfl, hconfig]
        rfl
      rw [missing]
      exact ⟨rfl, rfl, fun p => rfl⟩
    case config =>
      rw [formed config hconfig]
      refine ⟨fun hin => ?_, fun hout => ?_⟩
      · rw [State.recordResult_of_plausible (s := s.reach (v.began + 4000))
          (t := temperatureOf (calibrationOf config v.channel) code) (plausible_iff.mpr hin)]
        exact ⟨Vector.getElem_set_self v.channel.isLt, rfl, fun p => rfl⟩
      · have rejected : ¬ plausible (s.reach (v.began + 4000)).scanner.settings
            (temperatureOf (calibrationOf config v.channel) code) = true := fun hp => by
          obtain ⟨hlow, hhigh⟩ := plausible_iff.mp hp
          exact hout.elim (Int.not_lt.mpr hlow) (Int.not_lt.mpr hhigh)
        rw [State.recordResult_of_rejected rejected]
        refine ⟨?_, fun hfourth => ?_, fun hless => ?_⟩
        · exact (State.recordAt_setFlagIf _ _ _ _ v.channel).trans
            ((Vector.getElem_set_self v.channel.isLt).trans (ProbeRecord.reject_eq record))
        · have fourth : decide (record.state = .good ∧ 4 ≤ record.rejects + 1) = true :=
            decide_eq_true ⟨hfourth.1, Nat.succ_le_succ hfourth.2⟩
          rw [show decide ((s.reach (v.began + 4000)).scanner.records[v.channel].state = .good ∧
            4 ≤ (s.reach (v.began + 4000)).scanner.records[v.channel].rejects + 1) = true from fourth]
          exact ⟨State.arm_setFlag_self _ arm flag, fun p => State.port_setFlag _ arm flag p⟩
        · have fewer : decide (record.state = .good ∧ 4 ≤ record.rejects + 1) = false :=
            decide_eq_false fun h => hless.elim (fun hs => hs h.1) (fun hr => absurd h.2 (by omega))
          rw [show decide ((s.reach (v.began + 4000)).scanner.records[v.channel].state = .good ∧
            4 ≤ (s.reach (v.began + 4000)).scanner.records[v.channel].rejects + 1) = false from fewer]
          exact ⟨rfl, fun p => rfl⟩
    case monitor =>
      have now' : ((s.reach (v.began + 4000)).recordResult v.channel (s.converted v.channel code)).now = now := by
        rw [e]; rfl
      have accepted : ∀ x : Option Int, (x.map (plausible s.scanner.settings)).getD false = x.any fun x =>
          decide (s.scanner.settings.low ≤ x) && decide (x ≤ s.scanner.settings.high) := fun x => by cases x <;> rfl
      unfold State.scanned Monitor.shown
      rw [now', accepted]
      rfl
    · rw [e]
      refine ⟨rfl, fun q hq => ?_⟩
      cases q with
      | arm a => exact apart a (show a ≠ arm by simpa using hq)
      | clock => cases hq
      | scanner => cases hq
      | monitor => cases hq
      | port p => simp at hq
      | _ => rfl
  case stale =>
    refine congrArg Host.Outcome.next ?_
    unfold State.staleExpires
    rw [hd]
    exact if_pos hstate

end Sys2Proof.Machine
end

section
/-! PROOFS. The store's and the BAU's next piece of work, and the place a CHECKPOINT takes. -/

namespace Sys2Proof.Machine
open Sys2Proof

/-! ## The store's and the BAU's next piece of work -/

theorem markCurrent_eq (op : StoreOp) (walks : List WalkEntry) :
    markCurrent op walks = walks.map fun x => if op = .walk x.key then { x with current := true } else x := by
  unfold markCurrent
  split
  · next key => exact List.map_congr_left fun x _ => by simp only [StoreOp.walk.injEq, eq_comm]
  · next hother =>
    refine (List.map_id walks).symm.trans (List.map_congr_left fun x _ => (if_neg fun h => ?_).symm)
    exact hother _ h

theorem State.advanceStore_of_front {s : State} {w : QueuedOp} {rest : List QueuedOp} (hc : s.current = none)
    (hl : ∀ d, s.load ≠ .loading d) (hq : s.storeQueue = w :: rest)
    (hr : s.restartPending = false ∨ w.carried = true) : s.advanceStore = s.startOp w.op rest := by
  unfold State.advanceStore
  rw [hc, hq]
  split
  · next h => cases h
  · next d _ hd => exact absurd hd (hl d)
  · refine if_neg ?_
    rcases hr with h | h <;> simp [h]

theorem State.advanceStore_of_restarting {s : State} (hc : s.current = none) (hl : ∀ d, s.load ≠ .loading d)
    (hr : s.restartPending = true) (hq : ∀ w ∈ s.storeQueue, w.carried = false) :
    s.advanceStore = s.restartReset := by
  unfold State.advanceStore
  rw [hc]
  split
  · next h => cases h
  · next d _ hd => exact absurd hd (hl d)
  · split
    · exact if_pos hr
    · next w rest hqueue => exact if_pos (by rw [hr, hq w (by simp [hqueue])]; rfl)

theorem State.advanceStore_of_loading {s : State} {d : Nat} (h : s.load = .loading d) : s.advanceStore = s := by
  unfold State.advanceStore
  rw [h]
  cases s.current <;> rfl

theorem State.advanceStore_of_empty {s : State} (hq : s.storeQueue = []) (hr : s.restartPending = false) :
    s.advanceStore = s := by
  unfold State.advanceStore
  rw [hq, hr]
  split
  · rfl
  · rfl
  · exact if_neg Bool.false_ne_true

theorem joinCheckpoint_of_none {a : ArmId} {op : StoreOp} {queue : List QueuedOp}
    (h : ∀ w ∈ queue, w.op.isCheckpoint a = false) : joinCheckpoint a op queue = queue ++ [⟨op, false⟩] := by
  induction queue with
  | nil => rfl
  | cons w rest ih =>
    have hw : ¬ w.op.isCheckpoint a = true := ne_true_of_eq_false (h w List.mem_cons_self)
    rw [joinCheckpoint, if_neg hw, ih fun x hx => h x (List.mem_cons_of_mem _ hx)]
    rfl

/-- Behind operations that are no CHECKPOINT of the arm, its first CHECKPOINT decides (R105). -/
theorem joinCheckpoint_of_first {a : ArmId} {op : StoreOp} {before : List QueuedOp} {w : QueuedOp}
    {rest : List QueuedOp} (hw : w.op.isCheckpoint a = true) (h : ∀ x ∈ before, x.op.isCheckpoint a = false) :
    joinCheckpoint a op (before ++ w :: rest) =
      before ++ if rest.any (·.op.isClose a) then rest ++ [⟨op, false⟩] else { w with op := op } :: rest := by
  induction before with
  | nil => exact if_pos hw
  | cons x before ih =>
    have hx : ¬ x.op.isCheckpoint a = true := ne_true_of_eq_false (h x List.mem_cons_self)
    rw [List.cons_append, joinCheckpoint, if_neg hx, ih fun y hy => h y (List.mem_cons_of_mem _ hy)]
    rfl

/-- Settles O54: the store's start, the BAU's, and the place a CHECKPOINT takes. -/
theorem queuesServeTheOldestFirst : Obligations.QueuesServeTheOldestFirst := by
  unfold Obligations.QueuesServeTheOldestFirst
  refine ⟨⟨fun w rest s hc hq hl hr => ?start, fun s h => ?stands, fun s hc hl hr hq => ?reset⟩,
    ⟨fun r rest s hbau hq => ?take, fun s h => ?bauStands⟩, fun a op queue hop => ⟨joinCheckpoint_of_none,
      fun before w rest hqueue hw hbefore => ⟨fun hrest => ?replaces, fun hrest => ?behind⟩⟩⟩
  case start =>
    refine congrArg Host.Outcome.next ((State.advanceStore_of_front hc hl hq hr).trans ?_)
    rw [State.startOp, markCurrent_eq]
  case stands =>
    refine congrArg Host.Outcome.next ?_
    rcases h with h | ⟨d, h⟩ | ⟨hq, hr⟩
    · exact State.advanceStore_of_busy h
    · exact State.advanceStore_of_loading h
    · exact State.advanceStore_of_empty hq hr
  case reset => exact congrArg Host.Outcome.next (State.advanceStore_of_restarting hc hl hr hq)
  case take =>
    refine congrArg Host.Outcome.next ?_
    unfold State.bauTake
    rw [hbau, hq]
  case bauStands =>
    refine congrArg Host.Outcome.next ?_
    unfold State.bauTake
    split
    · next hbau hq => rcases h with h | h <;> simp_all
    · rfl
  case replaces =>
    rw [hqueue, joinCheckpoint_of_first hw hbefore, if_neg]
    rw [List.any_eq_true]
    exact fun ⟨x, hx, hclose⟩ => Bool.false_ne_true ((hrest x hx).symm.trans hclose)
  case behind =>
    rw [hqueue, joinCheckpoint_of_first hw hbefore, if_pos (List.any_eq_true.mpr hrest), List.append_assoc]

end Sys2Proof.Machine
end

section
/-! PROOFS. Admission: the head examination, and a START that the header can serve. -/

namespace Sys2Proof.Machine
open Sys2Proof

/-! ## Admission -/

/-- An arm after its admission: HELD with ADDITIVE at once when a code of its snapshot is out of service (R34, R138). -/
def State.admitted (s : State) (a : ArmId) (snap : Snapshot) (g : Grant) : Arm :=
  let arm := (s.arm a).admission (s.nextNumber a) g.limit s.now
  if s.additivesInService snap then arm else arm.takesCause .additive s.now

theorem Arm.snapshot_admission {arm : Arm} {b : Batch} (hb : arm.batch = some b) (number : Nat) (limit : Option Nat)
    (now : Nat) : (arm.admission number limit now).snapshot = b.snapshot := by
  simp [Arm.admission, Arm.snapshot, hb, Batch.admission]

theorem State.arm_seated (s : State) (a : ArmId) (g : Grant) :
    (s.seated a g).arm a = (s.arm a).admission (s.nextNumber a) g.limit s.now :=
  State.arm_setArm_self _ a _

theorem State.checkpoint_seated {s : State} {a : ArmId} {b : Batch} {snap : Snapshot} (g : Grant)
    (hb : (s.arm a).batch = some b) (hsnap : b.snapshot = some snap) :
    (s.seated a g).checkpoint a = s.admissionCheckpoint a b := by
  have arm := s.arm_seated a g
  have batch : ((s.seated a g).arm a).batch = some (b.admission (s.nextNumber a) g.limit) := by
    rw [arm]
    simp [Arm.admission, hb]
  have opened : ((s.seated a g).arm a).opened = true := by rw [arm]; rfl
  unfold State.checkpoint
  rw [batch, opened]
  simp only [State.admissionCheckpoint, Arm.marker, Batch.admission, hsnap, arm]
  rfl

/-- What an admission makes of the state, while no RESTART is pending (R34, R104, R153). -/
theorem State.admission_spec {s : State} {a : ArmId} {b : Batch} {snap : Snapshot} (g : Grant)
    (hr : s.restartPending = false) (hb : (s.arm a).batch = some b) (hsnap : b.snapshot = some snap) :
    ∃ queue current walks,
      s.admission a g = { s.setArm a fun _ => s.admitted a snap g with
        header := s.header.seat a g, batchCounter := s.nextNumber a
        storeQueue := queue, current := current, walks := walks } ∧
      s.postsCheckpoint (s.admission a g) a (s.admissionCheckpoint a b) (·.noteCounter s.batchCounter s.now) := by
  have op : (s.seated a g).checkpoint a = s.admissionCheckpoint a b := State.checkpoint_seated g hb hsnap
  have asked : (s.seated a g).askCheckpoint a = State.advanceStore { s.seated a g with
      storeQueue := joinCheckpoint a (s.admissionCheckpoint a b) s.storeQueue } := by
    rw [State.askCheckpoint, op]
    rfl
  obtain ⟨queue, current, walks, e⟩ := State.askCheckpoint_frame (s.seated a g) a hr
  have arm : ((s.seated a g).askCheckpoint a).arm a = (s.arm a).admission (s.nextNumber a) g.limit s.now := by
    rw [e]
    exact s.arm_seated a g
  have whole : s.admission a g = { s.setArm a fun _ => s.admitted a snap g with
        header := s.header.seat a g, batchCounter := s.nextNumber a
        storeQueue := queue, current := current, walks := walks } := by
    rw [State.admission_eq, arm, Arm.snapshot_admission hb, hsnap, e]
    unfold State.addCauseIf State.admitted
    cases hservice : s.additivesInService snap with
    | true =>
      rw [if_neg (by rw [Option.map_some, Option.getD_some]; exact (congrArg (!·) hservice).trans_ne (by decide))]
      rfl
    | false =>
      rw [if_pos (by rw [Option.map_some, Option.getD_some]; exact congrArg (!·) hservice), State.addCause_eq]
      simp [State.seated, State.takeNumber, State.setArm, Vector.set_set, State.arm]
  rw [e] at asked
  have noted : (s.seated a g).current = s.current.map (·.noteCounter s.batchCounter s.now) := rfl
  refine ⟨queue, current, walks, whole, fun k hk => ?_, fun hidle hload w rest hqueue => ?_⟩
  · rw [hk] at noted
    rw [State.advanceStore_of_busy (by rw [noted]; rfl)] at asked
    have walked : walks = s.walks := congrArg State.walks asked
    rw [whole]
    exact ⟨congrArg State.storeQueue asked, (congrArg State.current asked).trans noted, walked⟩
  · rw [hidle] at noted
    rw [State.advanceStore_of_front (s := { s.seated a g with
      storeQueue := joinCheckpoint a (s.admissionCheckpoint a b) s.storeQueue }) noted hload hqueue (Or.inl hr)] at asked
    have walked : walks = markCurrent w.op s.walks := congrArg State.walks asked
    rw [whole]
    exact ⟨congrArg State.storeQueue asked, congrArg State.current asked, walked.trans (markCurrent_eq _ _)⟩

/-- What an admission's frame changes. -/
theorem State.changesOnly_admission {s : State} {a : ArmId} {g : Grant} (hr : s.restartPending = false)
    {parts : Part → Bool} (ha : parts (.arm a) = true) (hh : parts .header = true)
    (hn : parts .batchCounter = true) (hq : parts .storeQueue = true) (hc : parts .current = true)
    (hw : parts .walks = true) : s.changesOnly (s.admission a g) parts := by
  obtain ⟨x, queue, current, walks, e⟩ := s.admission_frame a g hr
  rw [e]
  refine ⟨rfl, fun q hq' => ?_⟩
  cases q with
  | arm b =>
    refine State.arm_setArm_of_ne s (fun _ => x) ?_
    rintro rfl
    exact Bool.false_ne_true (hq'.symm.trans ha)
  | header => exact absurd (hq'.symm.trans hh) Bool.false_ne_true
  | batchCounter => exact absurd (hq'.symm.trans hn) Bool.false_ne_true
  | storeQueue => exact absurd (hq'.symm.trans hq) Bool.false_ne_true
  | current => exact absurd (hq'.symm.trans hc) Bool.false_ne_true
  | walks => exact absurd (hq'.symm.trans hw) Bool.false_ne_true
  | _ => rfl

/-- The batch of an arm at its admission, before a hold (R34, Table 1-2). -/
def Batch.started (b : Batch) (snap : Snapshot) (number : Nat) (g : Grant) : Batch :=
  { b with
    number := some number
    figures := { Figures.zero with
      u := snap.params.u0
      uResume := snap.params.u0
      flowLimit := withAllotment snap.params.lowFlow g.limit
      markers := { Markers.clear with flushReduced := b.figures.markers.flushReduced } } }

theorem Arm.admission_eq {arm : Arm} {b : Batch} {snap : Snapshot} {config : ArmConfig} (hb : arm.batch = some b)
    (hsnap : b.snapshot = some snap) (hconfig : arm.config = some config) (number : Nat) (g : Grant) (now : Nat) :
    arm.admission number g.limit now = { arm.setMeters Meter.admission with
      state := .delivering
      authorizeTimer := none
      batch := some (b.started snap number g)
      finalDone := false
      opened := true
      windowTimer := some (now + config.trimPeriod * 1000)
      windowStart := some now
      windowPeriod := some config.trimPeriod
      slots := Vector.ofFn fun i => arm.slots[i].admission
      valve := { arm.valve with commanded := snap.params.u0 } } := by
  simp [Arm.admission, hb, hconfig, Batch.admission, Batch.started, hsnap, admissionFigures]

/-- What an admission does, from a state in which the quantities of the batch are fixed (R34). -/
theorem State.admitsArm_admission {s : State} {a : ArmId} {b : Batch} {snap : Snapshot} {config : ArmConfig}
    {fx : Fixed} (g : Grant) (hr : s.restartPending = false) (hb : (s.arm a).batch = some b)
    (hsnap : b.snapshot = some snap) (hfixed : b.fixed = some fx) (hconfig : (s.arm a).config = some config) :
    s.admitsArm (s.admission a g) a b snap config fx b.figures.markers.flushReduced g (fun _ => false) := by
  obtain ⟨queue, current, walks, e, posts⟩ := State.admission_spec g hr hb hsnap
  have arm : (s.admission a g).arm a = s.admitted a snap g := by
    rw [e]
    exact State.arm_setArm_self s a fun _ => s.admitted a snap g
  have started := Arm.admission_eq hb hsnap hconfig (s.nextNumber a) g s.now
  have limit : (((s.arm a).admission (s.nextNumber a) g.limit s.now).snapshot.map (·.params.holdLimit)).getD 0 =
      snap.params.holdLimit := by
    rw [Arm.snapshot_admission hb, hsnap]
    rfl
  have grants : (s.admission a g).header.grants = s.header.grants.set a g := by
    rw [e]
    rfl
  have number : (s.admission a g).batchCounter = s.nextNumber a := by rw [e]
  have frame : s.changesOnly (s.admission a g) (fun q => q == .arm a || q == .header || q == .batchCounter ||
      q == .storeQueue || q == .current || q == .walks || (fun _ => false) q) :=
    State.changesOnly_admission hr (by simp) (by simp) (by simp) (by simp) (by simp) (by simp)
  cases hservice : s.additivesInService snap with
  | true =>
    have value : (s.admission a g).arm a = (s.arm a).admission (s.nextNumber a) g.limit s.now :=
      arm.trans (if_pos hservice)
    unfold State.admitsArm
    rw [value, started, hservice]
    refine ⟨rfl, nofun, rfl, rfl, rfl, rfl, rfl, rfl, rfl, rfl, fun i => ?_, ?_, rfl, grants, number, posts, frame⟩
    · exact Vector.getElem_ofFn i.isLt
    · rw [← hfixed]
      rfl
  | false =>
    have value : (s.admission a g).arm a =
        ((s.arm a).admission (s.nextNumber a) g.limit s.now).takesCause .additive s.now :=
      arm.trans (if_neg (ne_true_of_eq_false hservice))
    rw [Arm.takesCause_of_delivering rfl, limit, started] at value
    unfold State.admitsArm
    rw [value, hservice]
    refine ⟨rfl, fun _ => ⟨rfl, rfl⟩, rfl, rfl, rfl, rfl, rfl, rfl, rfl, rfl, fun i => ?_, ?_, rfl, grants, number,
      posts, frame⟩
    · exact Vector.getElem_ofFn i.isLt
    · rw [← hfixed]
      rfl

/-! ## The head examination -/

theorem State.examine_of_head {s : State} {head : HeaderPlace} {rest : List HeaderPlace} {g : Grant}
    (hq : s.header.queue = head :: rest) (hothers : ∀ q ∈ rest, q.arm ≠ head.arm) (hr : s.restartPending = false)
    (hoffer : s.header.offer head.request head.minimum (s.arm head.arm).fraction = some g) :
    s.examine = (s.admission head.arm g).examine ∧ (s.admission head.arm g).header.queue = rest := by
  have queue : (s.admission head.arm g).header.queue = rest := by
    obtain ⟨x, queue, current, walks, e⟩ := s.admission_frame head.arm g hr
    rw [e]
    have kept : rest.filter (·.arm ≠ head.arm) = rest :=
      List.filter_eq_self.mpr fun q hq => decide_eq_true (hothers q hq)
    simp only [Header.seat, hq, List.filter_cons, ne_eq, not_true_eq_false, decide_false, kept]
    rfl
  refine ⟨?_, queue⟩
  unfold State.examine
  rw [queue, hq, List.length_cons, State.examineFrom, hq]
  dsimp only
  rw [hoffer]

theorem State.examine_of_no_offer {s : State} {head : HeaderPlace} {rest : List HeaderPlace}
    (hq : s.header.queue = head :: rest)
    (hoffer : s.header.offer head.request head.minimum (s.arm head.arm).fraction = none) : s.examine = s := by
  unfold State.examine
  rw [hq, List.length_cons, State.examineFrom, hq]
  dsimp only
  rw [hoffer]

/-- Settles O51: the head of the queue, by what the free capacity offers it. -/
theorem headExaminationServesInOrder : Obligations.HeadExaminationServesInOrder := by
  unfold Obligations.HeadExaminationServesInOrder
  refine ⟨fun s hq => congrArg Host.Outcome.next (State.examine_of_empty hq),
    fun head rest b snap fx config s hq hothers hr hb hsnap hfixed hconfig _ => ?_⟩
  have fraction : (s.arm head.arm).fraction = fx.fraction := by
    rw [Arm.fraction, hb]
    exact congrArg (fun f : Option Fixed => (f.map (·.fraction)).getD 0) hfixed
  intro free
  refine ⟨fun hrequest hminimum => ?_, fun g hg => ?_⟩
  · exact congrArg Host.Outcome.next (State.examine_of_no_offer hq
      ((if_neg (Nat.not_le.mpr hrequest)).trans (if_neg (Nat.not_le.mpr hminimum))))
  · have offered : s.header.offer head.request head.minimum (s.arm head.arm).fraction = some g := by
      rw [fraction]
      rcases hg with ⟨hrequest, rfl⟩ | ⟨hrequest, hminimum, rfl⟩
      · exact if_pos hrequest
      · exact (if_neg (Nat.not_le.mpr hrequest)).trans (if_pos hminimum)
    obtain ⟨examined, queue⟩ := State.examine_of_head hq hothers hr offered
    refine ⟨s.admission head.arm g, congrArg Host.Outcome.next examined,
      State.admitsArm_admission g hr hb hsnap hfixed hconfig, queue, fun hrest => ?_⟩
    refine congrArg Host.Outcome.next (examined.trans (State.examine_of_empty ?_))
    rw [queue, hrest]

/-! ## START that is served -/

/-- The batch of an AUTHORIZED arm with its quantities fixed (R32). -/
def Batch.fixedBy (b : Batch) (fx : Fixed) (reduced : Bool) : Batch :=
  { b with
    fixed := some fx
    figures := { b.figures with markers := { b.figures.markers with flushReduced := reduced } } }

/-- An admission from the state in which START has fixed the quantities is one from the state before, and the answer
changes nothing but the port (R32, R34). -/
theorem State.admitsArm_start {s : State} {a : ArmId} {b : Batch} {snap : Snapshot} {config : ArmConfig}
    (fx : Fixed) (reduced : Bool) (g : Grant) (c : Caller) (body : Body) (hr : s.restartPending = false)
    (hb : (s.arm a).batch = some b) (hsnap : b.snapshot = some snap) (hconfig : (s.arm a).config = some config) :
    s.admitsArm (((s.setArm a (·.fix fx reduced)).admission a g).reply c .ok body) a b snap config fx reduced g
      (fun q => q == .port c.port) := by
  have fixed : (s.setArm a (·.fix fx reduced)).arm a = (s.arm a).fix fx reduced := State.arm_setArm_self s a _
  have batch : ((s.setArm a (·.fix fx reduced)).arm a).batch = some (b.fixedBy fx reduced) := by
    rw [fixed, Arm.fix, hb]
    rfl
  have config' : ((s.setArm a (·.fix fx reduced)).arm a).config = some config := by
    rw [fixed]
    exact hconfig
  have number : (s.setArm a (·.fix fx reduced)).nextNumber a = s.nextNumber a := s.nextNumber_setArm a _
  have op : (s.setArm a (·.fix fx reduced)).admissionCheckpoint a (b.fixedBy fx reduced) =
      s.admissionCheckpoint a b := by
    unfold State.admissionCheckpoint
    rw [number, fixed]
    rfl
  have admits := State.admitsArm_admission (s := s.setArm a (·.fix fx reduced)) g hr batch hsnap rfl config'
  unfold State.admitsArm at admits
  rw [fixed, number, op] at admits
  obtain ⟨state, held, timer, opened, final, window, start, period, meterG, meterE, slots, figures, valve, grants,
    counter, posts, frame⟩ := admits
  refine ⟨state, held, timer, opened, final, window, start, period, meterG, meterE, slots, figures, valve, grants,
    counter, posts, ?_⟩
  exact (s.changesOnly_setArm a _ (by simp)).trans ((frame.mono fun q hq => by simpa using Or.inl hq).trans
    (State.changesOnly_setPort _ c.port _ (by simp)))

/-- Settles O23: the three answers of the header that admit, each a grant of the queue's arm. -/
theorem startAdmitsTheArm : Obligations.StartAdmitsTheArm := by
  unfold Obligations.StartAdmitsTheArm
  intro tag a b snap config g s h hr hstate hpermissive hb hsnap hconfig
  intro fx request minimum free hg
  have answered : s.header.answer (headerRequest snap fx.fraction) (headerMinimum snap fx.fraction) fx.fraction =
      some g := by
    unfold Header.answer
    rcases hg with ⟨hnone, rfl⟩ | ⟨hneeds, hempty, hfree, rfl⟩ | ⟨hneeds, hempty, hshort, hminimum, rfl⟩
    · exact if_pos hnone
    · exact (if_neg (Nat.pos_iff_ne_zero.mp hneeds)).trans ((if_pos hempty).trans (if_pos hfree))
    · exact (if_neg (Nat.pos_iff_ne_zero.mp hneeds)).trans ((if_pos hempty).trans
        ((if_neg (Nat.not_le.mpr hshort)).trans (if_pos hminimum)))
  have granted : (s.setArm a (·.fix fx (decide (fx.flush < snap.params.flush)))).askGrant a snap fx =
      (s.setArm a (·.fix fx (decide (fx.flush < snap.params.flush)))).admission a g := by
    unfold State.askGrant
    dsimp only
    rw [State.setArm_header, answered]
  obtain ⟨x, queue, current, walks, e⟩ :=
    (s.setArm a (·.fix fx (decide (fx.flush < snap.params.flush)))).admission_frame a g hr
  refine ⟨((s.setArm a (·.fix fx (decide (fx.flush < snap.params.flush)))).admission a g).reply
      ⟨.lane (laneOf a), tag, 0x02⟩ .ok (.armState (((s.setArm a (·.fix fx
        (decide (fx.flush < snap.params.flush)))).admission a g).arm a).state), ?_,
    State.admitsArm_start fx _ g ⟨.lane (laneOf a), tag, 0x02⟩ _ hr hb hsnap hconfig, ?_, ?_⟩
  · rw [exec_start_of_takes h, serveStart_of_authorized hstate hpermissive hb hsnap]
    dsimp only
    rw [granted]
  · rw [e]
    rfl
  · have port : ((s.setArm a (·.fix fx (decide (fx.flush < snap.params.flush)))).admission a g).port
        (.lane (laneOf a)) = s.port (.lane (laneOf a)) := by
      rw [e]
      rfl
    exact (State.port_setPort_self _ (.lane (laneOf a)) _).trans (congrArg (fun lp => LinkPort.form lp _) port)

end Sys2Proof.Machine
end

section
/-! PROOFS. The lines: responses, receiver, packets and the monitor line. -/

namespace Sys2Proof.Machine
open Sys2Proof

/-! ## Responses on a line -/

theorem LinkPort.form_of_idle {lp : LinkPort} (r : Response) (hs : lp.sending = none) (ht : lp.transmit = []) :
    lp.form r = { lp with sending := some r } := by
  unfold LinkPort.form
  rw [hs, ht]

theorem LinkPort.form_of_busy {lp : LinkPort} (r : Response) (h : lp.sending ≠ none ∨ lp.transmit ≠ []) :
    lp.form r = { lp with transmit := lp.transmit ++ [r] } := by
  unfold LinkPort.form
  split
  · next hs =>
    split
    · next ht => exact absurd ht (h.resolve_left (not_not.mpr hs))
    · rfl
  · rfl

theorem LinkPort.settle_of_other {lp : LinkPort} {w : Work} (r : Result) (body : Body)
    (h : ∀ code tag, lp.outstanding ≠ some ⟨code, tag, w⟩) : lp.settle w r body = lp := by
  unfold LinkPort.settle
  split
  · next o ho =>
    refine if_neg fun hw => h o.code o.tag ?_
    rw [ho, ← hw]
  · rfl

theorem LinkPort.sent_eq (lp : LinkPort) :
    lp.sent = { lp with sending := lp.transmit.head?, transmit := lp.transmit.tail } := by
  unfold LinkPort.sent
  cases h : lp.transmit <;> rfl

theorem Monitor.sent_eq (m : Monitor) (now : Nat) :
    m.sent now = { m with sending := m.queue.head?.map fun p => ⟨p, now⟩, queue := m.queue.tail } := by
  unfold Monitor.sent
  cases h : m.queue <;> rfl

theorem Monitor.form_of_idle {m : Monitor} (p : Packet) (now : Nat) (hs : m.sending = none) (hq : m.queue = []) :
    m.form p now = { m with sending := some ⟨p, now⟩ } := by
  unfold Monitor.form
  rw [hs, hq]

theorem Monitor.form_of_busy {m : Monitor} (p : Packet) (now : Nat) (h : m.sending ≠ none ∨ m.queue ≠ []) :
    m.form p now = if m.queue.length < 8 then { m with queue := m.queue ++ [p] }
      else { m with queue := [], running := false, overflow := true } := by
  unfold Monitor.form
  split
  · next hs hq => exact absurd hq (h.resolve_left (not_not.mpr hs))
  · rfl

/-! ## The receiver -/

theorem LinkPort.receiver_id {lp : LinkPort} {r : Receiver} (h : lp.receiver = r) : { lp with receiver := r } = lp := by
  rw [← h]

theorem State.setReceiver_hunting {s : State} {p : Port} (h : (s.port p).receiver = .hunting) :
    s.setReceiver p .hunting = s :=
  State.setPort_id s p (fun lp => { lp with receiver := .hunting }) (LinkPort.receiver_id h)

theorem State.receive_of_hunting {s : State} {p : Port} {b : Byte} (h : (s.port p).receiver = .hunting) :
    s.receive p b = s.hunt p b := by
  unfold State.receive
  rw [h]

theorem State.receive_in_time {s : State} {p : Port} {b : Byte} {bytes : List Byte} {last : Nat}
    (h : (s.port p).receiver = .collecting bytes last) (ht : s.now ≤ last + gapLimit) :
    s.receive p b = s.collect p bytes b := by
  unfold State.receive
  rw [h]
  exact if_neg (Nat.not_lt.mpr ht)

/-- A byte inside a frame that does not make it whole is collected (R165). -/
theorem State.collect_of_part {s : State} {p : Port} {n b : Byte} {taken : List Byte}
    (h : taken.length + 1 < n.toNat + 2) :
    s.collect p (n :: taken) b = s.setReceiver p (.collecting (n :: (taken ++ [b])) s.now) := by
  have part : frameWhole (n :: taken ++ [b]) = false := by
    simp only [frameWhole, List.cons_append, List.length_append, List.length_singleton]
    exact decide_eq_false (by omega)
  unfold State.collect
  rw [if_neg (by simp)]
  dsimp only
  rw [part]
  rfl

/-! ## The monitor line -/

theorem ceilDiv_lineRate (n : Nat) : ceilDiv n 115200 = (n + 115199) / 115200 := by
  unfold ceilDiv
  rw [show n + 115200 - 1 = n + 115199 by omega]

theorem Packet.sendTime_eq (p : Packet) : p.sendTime = (p.size * 10 * 1000000 + 115199) / 115200 := by
  rw [Packet.sendTime, ceilDiv_lineRate]

theorem unsignedField_length (n v : Nat) : (unsignedField n v).length = n := by
  unfold unsignedField
  split <;> exact Laws.beBytes_length n _

theorem signedField_length (n : Nat) (z : Int) : (signedField n z).length = n := by
  unfold signedField
  split <;> exact Laws.beBytes_length n _

theorem Packet.length_bytes (p : Packet) : p.bytes.length = p.size := by
  cases p with
  | trim p =>
    cases hr : p.rate <;>
      simp [Packet.bytes, Packet.size, withCheckWord, trimFields, byteField, boolField, unsignedField_length,
        signedField_length, Laws.beBytes_length, hr]
  | probe p =>
    cases ht : p.temperature <;> cases ha : p.accepted <;>
      simp [Packet.bytes, Packet.size, withCheckWord, probePacketFields, byteField, unsignedField_length,
        signedField_length, Laws.beBytes_length, ht, ha]

theorem State.monitorLine_of_sending {s : State} {k : SendingPacket} (h : s.monitor.sending = some k) :
    s.monitorLine = lineLevel k.packet.bytes ((s.now - k.began) * 115200 / 1000000) := by
  unfold State.monitorLine
  rw [h]

theorem lineLevel_of_byte {bytes : List Byte} {n : Nat} {b : Byte} (h : bytes[n / 10]? = some b) :
    lineLevel bytes n = lineBit b (n % 10) := by
  unfold lineLevel
  rw [h]

theorem lineLevel_of_end {bytes : List Byte} {n : Nat} (h : bytes.length * 10 ≤ n) : lineLevel bytes n = true := by
  unfold lineLevel
  rw [List.getElem?_eq_none (by omega)]

/-- Settles O19: the port's line, the receiver, the ends of sending, the monitor's queue and its line. -/
theorem linesCarryResponsesInOrder : Obligations.LinesCarryResponsesInOrder := by
  unfold Obligations.LinesCarryResponsesInOrder
  refine ⟨fun lp r => ⟨LinkPort.form_of_idle r, LinkPort.form_of_busy r, fun w result body =>
      ⟨fun code tag ho => LinkPort.settle_of_outstanding result body ho, LinkPort.settle_of_other result body⟩⟩,
    ⟨fun p b s => ⟨fun hr hb => ?dropped, fun hr hb => ?sync, fun n taken last hr ht hlength => ?collected⟩,
      fun p bytes last s hr => ?gap, fun p r s hs => ?sent, fun k s hk => ?packet⟩,
    ⟨fun m p now => ⟨Monitor.form_of_idle p now, fun hbusy => ⟨fun hroom => ?waits, fun hfull => ?overflows⟩⟩,
      fun s k hk => ⟨fun b hb => ⟨fun hn => ?start, fun i hn hi => ?data, fun hn => ?stop⟩, fun hn => ?marks⟩,
      fun s hs => ?rest, Packet.length_bytes⟩⟩
  case dropped =>
    refine congrArg Host.Outcome.next ((State.receive_of_hunting hr).trans ((if_neg hb).trans ?_))
    exact State.setReceiver_hunting hr
  case sync => exact congrArg Host.Outcome.next ((State.receive_of_hunting hr).trans (if_pos hb))
  case collected =>
    exact congrArg Host.Outcome.next ((State.receive_in_time hr ht).trans (State.collect_of_part hlength))
  case gap =>
    refine congrArg Host.Outcome.next ?_
    unfold State.gapRunsOut
    rw [hr]
    rfl
  case sent =>
    refine congrArg Host.Outcome.next ((if_pos (by rw [hs]; rfl)).trans ?_)
    exact State.setPort_congr s p _ _ (LinkPort.sent_eq _)
  case packet =>
    refine congrArg Host.Outcome.next ?_
    unfold State.packetSent
    rw [hk]
    dsimp only
    rw [Monitor.sent_eq, Packet.sendTime_eq]
    rfl
  case waits => exact (Monitor.form_of_busy p now hbusy).trans (if_pos hroom)
  case overflows => exact (Monitor.form_of_busy p now hbusy).trans (if_neg (Nat.not_lt.mpr hfull))
  case start =>
    rw [State.monitorLine_of_sending hk, lineLevel_of_byte hb, hn]
    rfl
  case data =>
    rw [State.monitorLine_of_sending hk, lineLevel_of_byte hb, hn, lineBit, if_neg (Nat.succ_ne_zero i), if_pos (Nat.succ_le_of_lt hi)]
    rfl
  case stop =>
    rw [State.monitorLine_of_sending hk, lineLevel_of_byte hb, hn]
    rfl
  case marks => rw [State.monitorLine_of_sending hk, lineLevel_of_end hn]
  case rest =>
    unfold State.monitorLine
    rw [hs]

end Sys2Proof.Machine
end

section
/-! PROOFS. The receiver: a frame byte by byte, its check word and its length. -/

namespace Sys2Proof.Machine
open Sys2Proof

/-! ## A whole frame, byte by byte -/

theorem State.receiver_setReceiver (s : State) (p : Port) (r : Receiver) :
    ((s.setReceiver p r).port p).receiver = r := by
  unfold State.setReceiver
  rw [State.port_setPort_self]

theorem State.setReceiver_setReceiver (s : State) (p : Port) (r r' : Receiver) :
    (s.setReceiver p r).setReceiver p r' = s.setReceiver p r' := by
  unfold State.setReceiver
  exact State.setPort_setPort s p _ _

theorem State.now_setReceiver (s : State) (p : Port) (r : Receiver) : (s.setReceiver p r).now = s.now := by
  cases p <;> rfl

/-- A collecting port takes the next byte at the instant of the one before it. -/
theorem State.receive_setReceiver (s : State) (p : Port) (bytes : List Byte) (b : Byte) :
    (s.setReceiver p (.collecting bytes s.now)).receive p b =
      (s.setReceiver p (.collecting bytes s.now)).collect p bytes b :=
  State.receive_in_time (State.receiver_setReceiver s p _)
    (by rw [State.now_setReceiver]; exact Nat.le_add_right _ _)

/-- Bytes that do not yet make the frame whole are collected one after another. -/
theorem State.receiveAll_of_part (s : State) (p : Port) (n : Byte) (rest : List Byte) :
    ∀ taken : List Byte, taken.length + rest.length < n.toNat + 2 →
      (s.setReceiver p (.collecting (n :: taken) s.now)).receiveAll p rest =
        s.setReceiver p (.collecting (n :: (taken ++ rest)) s.now) := by
  induction rest with
  | nil => intro taken _; rw [List.append_nil]; rfl
  | cons b rest ih =>
    intro taken h
    rw [List.length_cons] at h
    have one : (s.setReceiver p (.collecting (n :: taken) s.now)).receive p b =
        s.setReceiver p (.collecting (n :: (taken ++ [b])) s.now) := by
      rw [State.receive_setReceiver, State.collect_of_part (by omega), State.setReceiver_setReceiver,
        State.now_setReceiver]
    calc (s.setReceiver p (.collecting (n :: taken) s.now)).receiveAll p (b :: rest)
        = (s.setReceiver p (.collecting (n :: (taken ++ [b])) s.now)).receiveAll p rest :=
          congrArg (fun t : State => t.receiveAll p rest) one
      _ = s.setReceiver p (.collecting (n :: (taken ++ [b] ++ rest)) s.now) :=
          ih (taken ++ [b]) (by rw [List.length_append, List.length_singleton]; omega)
      _ = _ := by rw [List.append_assoc]; rfl

theorem State.receiveAll_append (s : State) (p : Port) (a b : List Byte) :
    s.receiveAll p (a ++ b) = (s.receiveAll p a).receiveAll p b :=
  List.foldl_append

theorem frameWhole_of_length {n : Byte} {rest : List Byte} (h : rest.length = n.toNat + 2) :
    frameWhole (n :: rest) = true :=
  decide_eq_true h.ge

theorem dropLast_dropLast_append_pair (l : List Byte) (x y : Byte) : (l ++ [x, y]).dropLast.dropLast = l := by
  rw [show l ++ [x, y] = (l ++ [x]) ++ [y] by simp, List.dropLast_concat, List.dropLast_concat]

/-- The check word of a frame is formed over everything before its last two bytes. -/
theorem frameGood_append_pair (body : List Byte) (x y : Byte) :
    frameGood (body ++ [x, y]) = (beBytes 2 (crc16 body).toNat == [x, y]) := by
  unfold frameGood
  dsimp only
  rw [dropLast_dropLast_append_pair, List.drop_left]

/-- The last byte of a frame: the receiver hunts again, and the content is taken when the check word agrees. -/
theorem State.receive_last {s : State} {p : Port} {n x y : Byte} {content : List Byte}
    (hs : (s.port p).receiver = .hunting) (hn : content.length = n.toNat) :
    (s.setReceiver p (.collecting (n :: (content ++ [x])) s.now)).receive p y =
      if beBytes 2 (crc16 (n :: content)).toNat = [x, y] then s.takeFrame p content else s := by
  have whole : frameWhole (n :: (content ++ [x]) ++ [y]) = true :=
    frameWhole_of_length (rest := content ++ [x] ++ [y]) (by simp [hn])
  have all : n :: (content ++ [x]) ++ [y] = (n :: content) ++ [x, y] := by simp
  have good : frameGood (n :: (content ++ [x]) ++ [y]) = (beBytes 2 (crc16 (n :: content)).toNat == [x, y]) := by
    rw [all]; exact frameGood_append_pair (n :: content) x y
  have taken : (n :: (content ++ [x]) ++ [y]).tail.dropLast.dropLast = content := by
    rw [all]; exact dropLast_dropLast_append_pair content x y
  rw [State.receive_setReceiver]
  unfold State.collect
  rw [if_neg (by simp)]
  dsimp only
  rw [if_pos whole, State.setReceiver_setReceiver, State.setReceiver_hunting hs, good, taken]
  simp only [beq_iff_eq]

/-- A frame of good length on a HUNTING port: its content is taken exactly when its check word agrees. -/
theorem State.receiveAll_frame {s : State} {p : Port} {content : List Byte} {x y : Byte}
    (hs : (s.port p).receiver = .hunting) (h0 : 0 < content.length) (h1 : content.length ≤ 240) :
    s.receiveAll p (0xA5 :: BitVec.ofNat 8 content.length :: (content ++ [x, y])) =
      if beBytes 2 (crc16 (BitVec.ofNat 8 content.length :: content)).toNat = [x, y] then s.takeFrame p content
      else s := by
  obtain ⟨n, hn⟩ : ∃ n : Byte, n = BitVec.ofNat 8 content.length := ⟨_, rfl⟩
  have value : content.length = n.toNat := by rw [hn, BitVec.toNat_ofNat, Nat.mod_eq_of_lt (by omega)]
  rw [← hn]
  have sync : s.receive p 0xA5 = s.setReceiver p (.collecting [] s.now) := by
    rw [State.receive_of_hunting hs]; exact if_pos rfl
  have length : (s.receive p 0xA5).receive p n = s.setReceiver p (.collecting [n] s.now) := by
    rw [sync, State.receive_setReceiver]
    have sound : badLength n = false := by
      unfold badLength
      rw [Bool.or_eq_false_iff]
      exact ⟨beq_eq_false_iff_ne.mpr (by omega), decide_eq_false (by omega)⟩
    unfold State.collect
    rw [if_neg (by rw [sound]; simp)]
    dsimp only
    rw [if_neg (by simp [frameWhole]), State.setReceiver_setReceiver, State.now_setReceiver]
    rfl
  calc s.receiveAll p (0xA5 :: n :: (content ++ [x, y]))
      = ((s.receive p 0xA5).receive p n).receiveAll p ((content ++ [x]) ++ [y]) := by
        rw [show content ++ [x, y] = (content ++ [x]) ++ [y] by simp]; rfl
    _ = ((s.setReceiver p (.collecting [n] s.now)).receiveAll p (content ++ [x])).receive p y := by
        rw [length, State.receiveAll_append]; rfl
    _ = (s.setReceiver p (.collecting (n :: (content ++ [x])) s.now)).receive p y := by
        rw [State.receiveAll_of_part s p n (content ++ [x]) [] (by simp [value])]; rfl
    _ = _ := State.receive_last hs value

/-! ## A frame's content -/

/-- The layout of R164 and the port's count of bytes agree for every command. -/
theorem framesFit (i : Instr) : Laws.FramesFit.Statement i := by
  cases i with
  | authorize => exact Laws.FramesFit.authorize _ _ _ _ _ _
  | start => exact Laws.FramesFit.start _ _ _
  | stop => exact Laws.FramesFit.stop _ _ _
  | resume => exact Laws.FramesFit.resume _ _ _
  | endBatch => exact Laws.FramesFit.endBatch _ _ _
  | abort => exact Laws.FramesFit.abort _ _ _
  | armStatus => exact Laws.FramesFit.armStatus _ _ _
  | readFlags => exact Laws.FramesFit.readFlags _ _ _
  | clearFlags => exact Laws.FramesFit.clearFlags _ _ _ _
  | readRecord => exact Laws.FramesFit.readRecord _ _ _
  | releaseRecord => exact Laws.FramesFit.releaseRecord _ _ _ _
  | readTotals => exact Laws.FramesFit.readTotals _ _ _
  | setArmConfig => exact Laws.FramesFit.setArmConfig _ _ _ _
  | setHeaderCapacity => exact Laws.FramesFit.setHeaderCapacity _ _ _
  | setAuthorizeTimeout => exact Laws.FramesFit.setAuthorizeTimeout _ _ _
  | setWindow => exact Laws.FramesFit.setWindow _ _ _ _
  | setAdditiveService => exact Laws.FramesFit.setAdditiveService _ _ _ _
  | releaseRestricted => exact Laws.FramesFit.releaseRestricted _ _ _
  | readHeader => exact Laws.FramesFit.readHeader _ _
  | readDirectoryEntry => exact Laws.FramesFit.readDirectoryEntry _ _ _
  | writeDirectoryEntry => exact Laws.FramesFit.writeDirectoryEntry _ _ _ _
  | readRecipe => exact Laws.FramesFit.readRecipe _ _ _ _
  | writeRecipe => exact Laws.FramesFit.writeRecipe _ _ _ _ _
  | flushAll => exact Laws.FramesFit.flushAll _ _
  | flushProduct => exact Laws.FramesFit.flushProduct _ _ _
  | clearUsage => exact Laws.FramesFit.clearUsage _ _ _
  | setScan => exact Laws.FramesFit.setScan _ _ _
  | startScan => exact Laws.FramesFit.startScan _ _
  | stopScan => exact Laws.FramesFit.stopScan _ _
  | readProbes => exact Laws.FramesFit.readProbes _ _
  | setMonitor => exact Laws.FramesFit.setMonitor _ _ _ _
  | setAlertModes => exact Laws.FramesFit.setAlertModes _ _ _ _
  | restart => exact Laws.FramesFit.restart _ _
  | _ => exact fun _ _ h => nomatch h

/-- The caller that a frame's content spells: its kind byte, and its tag or 0 (R166). -/
def frameCaller (p : Port) (content : List Byte) : Caller := ⟨p, (content.tail.head?).getD 0, (content.head?).getD 0⟩

theorem State.takeFrame_of_flooded {s : State} {p : Port} {content : List Byte} (h : s.flooded p = true) :
    s.takeFrame p content = s := by
  unfold State.takeFrame
  exact if_pos h

theorem State.takeFrame_of_refused {s : State} {p : Port} {content : List Byte} {r : Result}
    (hf : s.flooded p = false) (hr : s.frontCheck (frameCaller p content) = some r) :
    s.takeFrame p content = s.refuse (frameCaller p content) r := by
  unfold frameCaller at hr
  unfold State.takeFrame
  dsimp only
  rw [if_neg (by rw [hf]; exact Bool.false_ne_true), hr]
  rfl

theorem State.takeFrame_of_passed {s : State} {p : Port} {content : List Byte}
    (hf : s.flooded p = false) (hr : s.frontCheck (frameCaller p content) = none) :
    s.takeFrame p content =
      if content.length ≠ fieldsLength p (frameCaller p content).code.toNat + 2 then
        s.refuse (frameCaller p content) .badField
      else takeFields (frameCaller p content) (content.drop 2) s := by
  unfold frameCaller at hr
  unfold State.takeFrame
  dsimp only
  rw [if_neg (by rw [hf]; exact Bool.false_ne_true), hr]
  rfl

/-- Settles O17: the bytes of a frame, its check word and its length. -/
theorem frameBytesSpellARequest : Obligations.FrameBytesSpellARequest := by
  unfold Obligations.FrameBytesSpellARequest
  refine ⟨fun p content s hs h0 h1 => ?_, fun p content word s hs h0 h1 hw hne => ?_,
    fun i c names content s hi _ hcode hlen hacc hroom hout hload => ?_⟩
  case refine_1 =>
    have two : (beBytes 2 (crc16 (BitVec.ofNat 8 content.length :: content)).toNat).length = 2 :=
      Laws.beBytes_length 2 _
    obtain ⟨x, y, hxy⟩ := List.length_eq_two.mp two
    have frame : frameOf content = 0xA5 :: BitVec.ofNat 8 content.length :: (content ++ [x, y]) := by
      unfold frameOf withCheckWord
      rw [hxy]
      rfl
    rw [frame, State.receiveAll_frame hs h0 h1, if_pos hxy]
  case refine_2 =>
    obtain ⟨x, y, rfl⟩ := List.length_eq_two.mp hw
    rw [State.receiveAll_frame hs h0 h1, if_neg (Ne.symm hne)]
  case refine_3 =>
    have caller : frameCaller c.port content = ⟨c.port, (content.tail.head?).getD 0, c.code⟩ := by
      unfold frameCaller
      rw [hcode]
      rfl
    have dry : s.flooded c.port = false := decide_eq_false (Nat.not_le.mpr hroom)
    have front : s.frontCheck (frameCaller c.port content) = none := by
      rw [caller, State.frontCheck_of_not_loading hload]
      simp [hout, hacc]
    rw [State.takeFrame_of_passed dry front, caller, if_pos]
    rw [← (framesFit i c names hi).1]
    exact hlen

end Sys2Proof.Machine
end

section
/-! PROOFS. The fields of a request, read where its frame carries them. -/

namespace Sys2Proof.Machine
open Sys2Proof

/-! ## Reading a field where it was written -/

theorem foldl_beBytes (n v acc : Nat) :
    (beBytes n v).foldl (fun v b => v * 256 + b.toNat) acc = acc * 256 ^ n + v % 256 ^ n := by
  induction n generalizing acc with
  | zero => simp [beBytes, Nat.mod_one]
  | succ n ih =>
    rw [beBytes, List.foldl_cons, ih, BitVec.toNat_ofNat, Nat.mod_pow_succ (b := 256), Nat.pow_succ]
    ring

theorem beValue_beBytes {n v : Nat} (h : fits n v = true) : beValue (beBytes n v) = v := by
  unfold beValue
  rw [foldl_beBytes, Nat.zero_mul, Nat.zero_add, Nat.mod_eq_of_lt (of_decide_eq_true h)]

/-- The field at the front of what is left. -/
theorem fieldAt_front {n v : Nat} (h : fits n v = true) (rest : List Byte) :
    fieldAt (beBytes n v ++ rest) 0 n = v := by
  unfold fieldAt
  rw [List.drop_zero, List.take_left' (Laws.beBytes_length n v), beValue_beBytes h]

theorem fieldAt_last {n v : Nat} (h : fits n v = true) : fieldAt (beBytes n v) 0 n = v := by
  rw [← List.append_nil (beBytes n v), fieldAt_front h]

theorem drop_append_of_le {front rest : List Byte} {offset : Nat} (h : front.length ≤ offset) :
    (front ++ rest).drop offset = rest.drop (offset - front.length) := by
  rw [List.drop_append, List.drop_eq_nil_of_le h, List.nil_append]

theorem fieldAt_append_of_le {front rest : List Byte} {offset : Nat} (h : front.length ≤ offset) (n : Nat) :
    fieldAt (front ++ rest) offset n = fieldAt rest (offset - front.length) n := by
  unfold fieldAt
  rw [drop_append_of_le h]

/-- A field behind another one. -/
theorem fieldAt_beBytes {m offset : Nat} (h : m ≤ offset) (v n : Nat) (rest : List Byte) :
    fieldAt (beBytes m v ++ rest) offset n = fieldAt rest (offset - m) n := by
  rw [fieldAt_append_of_le (by rw [Laws.beBytes_length]; exact h), Laws.beBytes_length]

theorem fieldAt_signedBytes {offset : Nat} (h : 2 ≤ offset) (z : Int) (n : Nat) (rest : List Byte) :
    fieldAt (signedBytes z ++ rest) offset n = fieldAt rest (offset - 2) n :=
  fieldAt_beBytes h _ n rest

theorem fieldAt_name {offset : Nat} (h : 12 ≤ offset) (name : Name) (n : Nat) (rest : List Byte) :
    fieldAt (name.toList ++ rest) offset n = fieldAt rest (offset - 12) n := by
  rw [fieldAt_append_of_le (by simpa using h), Vector.length_toList]

theorem signedAt_front {z : Int} (h : fitsSigned z = true) (rest : List Byte) :
    signedAt (signedBytes z ++ rest) 0 = z := by
  unfold fitsSigned at h
  rw [Bool.and_eq_true, decide_eq_true_eq, decide_eq_true_eq] at h
  obtain ⟨low, high⟩ := h
  unfold signedAt signedBytes
  rw [fieldAt_front (decide_eq_true (by omega))]
  dsimp only
  split <;> omega

theorem signedAt_beBytes {m offset : Nat} (h : m ≤ offset) (v : Nat) (rest : List Byte) :
    signedAt (beBytes m v ++ rest) offset = signedAt rest (offset - m) := by
  unfold signedAt
  rw [fieldAt_beBytes h]

theorem signedAt_signedBytes {offset : Nat} (h : 2 ≤ offset) (z : Int) (rest : List Byte) :
    signedAt (signedBytes z ++ rest) offset = signedAt rest (offset - 2) :=
  signedAt_beBytes h _ rest

theorem nameAt_front (name : Name) (rest : List Byte) : nameAt (name.toList ++ rest) 0 = name := by
  refine Vector.ext fun i hi => ?_
  have here : ((name.toList ++ rest).drop i).head? = some name[i] := by
    rw [List.head?_drop, List.getElem?_append_left (by simpa using hi), Vector.getElem?_toList, Vector.getElem?_eq_getElem hi]
  unfold nameAt
  rw [Vector.getElem_ofFn]
  dsimp only
  rw [Nat.zero_add, here]
  rfl

theorem nameAt_beBytes {m offset : Nat} (h : m ≤ offset) (v : Nat) (rest : List Byte) :
    nameAt (beBytes m v ++ rest) offset = nameAt rest (offset - m) := by
  refine Vector.ext fun i hi => ?_
  unfold nameAt
  rw [Vector.getElem_ofFn, Vector.getElem_ofFn,
    drop_append_of_le (by rw [Laws.beBytes_length]; exact Nat.le_add_right_of_le h), Laws.beBytes_length,
    Nat.sub_add_comm h]

theorem flatMap_vector_three {α : Type} (v : Vector α 3) (f : α → List Byte) :
    v.toList.flatMap f = f v[0] ++ (f v[1] ++ f v[2]) := by
  have three : v.toList = [v[0], v[1], v[2]] := by
    apply List.ext_getElem
    · simp
    · intro i h _
      have : i < 3 := by simpa using h
      interval_cases i <;> simp
  rw [three]
  simp

theorem vector_three_eq {α : Type} {v w : Vector α 3} (h0 : v[0] = w[0]) (h1 : v[1] = w[1]) (h2 : v[2] = w[2]) :
    v = w := by
  refine Vector.ext fun i hi => ?_
  interval_cases i
  · exact h0
  · exact h1
  · exact h2

/-! ## The composite operands -/

theorem slotConfigAt_slotBytes {sc : SlotConfig} (h : sc.fits = true) (rest : List Byte) :
    slotConfigAt (beBytes 1 sc.code ++ (beBytes 2 sc.strokeVolume ++ (beBytes 2 sc.pulseWidth ++
      (beBytes 2 sc.verifyTimeout ++ rest)))) 0 = sc := by
  simp only [SlotConfig.fits, Bool.and_eq_true] at h
  obtain ⟨⟨⟨code, volume⟩, width⟩, timeout⟩ := h
  simp [slotConfigAt, fieldAt_front, fieldAt_beBytes, *]

theorem slotConfigAt_beBytes {m offset : Nat} (h : m ≤ offset) (v : Nat) (rest : List Byte) :
    slotConfigAt (beBytes m v ++ rest) offset = slotConfigAt rest (offset - m) := by
  unfold slotConfigAt
  rw [fieldAt_beBytes h, fieldAt_beBytes (Nat.le_add_right_of_le h), fieldAt_beBytes (Nat.le_add_right_of_le h),
    fieldAt_beBytes (Nat.le_add_right_of_le h), Nat.sub_add_comm h, Nat.sub_add_comm h, Nat.sub_add_comm h]

/-- SET ARM CONFIG's operand, read back. -/
theorem configAt_configContent {arm : Nat} {c : ArmConfig} (h : c.fits = true) :
    configAt (beBytes 1 arm ++ configContent c) = c := by
  simp only [ArmConfig.fits, Calibration.fits, Bool.and_eq_true, List.all_eq_true] at h
  obtain ⟨⟨⟨⟨⟨⟨⟨⟨factorG, factorE⟩, period⟩, drain⟩, smoothing⟩, pwm⟩, slots⟩, offsetG, spanG⟩, offsetE, spanE⟩ := h
  have slot (i : Nat) (hi : i < 3) : c.slots[i].fits = true := slots _ (by simp)
  have slots_read : (Vector.ofFn fun i : Fin 3 => slotConfigAt (beBytes 1 arm ++ configContent c) (16 + 7 * i.val)) =
      c.slots := by
    refine vector_three_eq ?_ ?_ ?_ <;>
      simp [configContent, flatMap_vector_three, slotConfigAt_slotBytes, slotConfigAt_beBytes, slot]
  unfold configAt
  rw [slots_read]
  simp [configContent, flatMap_vector_three, fieldAt_front, fieldAt_last, fieldAt_beBytes, fieldAt_signedBytes,
    signedAt_front, signedAt_beBytes, signedAt_signedBytes, *]

/-- SET WINDOW's operand, read back. -/
theorem windowAt_windowContent {window : Nat} {w : WindowFields} (h : w.fits = true) :
    windowAt (beBytes 1 window ++ windowContent w) = w := by
  simp only [WindowFields.fits, Bool.and_eq_true] at h
  obtain ⟨⟨⟨⟨⟨⟨enable, base⟩, mask⟩, withheld⟩, alphaG⟩, mainFlow⟩, holdLimit⟩ := h
  have name_read := nameAt_front w.name []
  rw [List.append_nil] at name_read
  simp [windowAt, windowContent, fieldAt_front, fieldAt_beBytes, nameAt_beBytes, *]

/-- SET SCAN's operand, read back. -/
theorem scanAt_scanContent {k : ScanSettings} (h : k.fits = true) : scanAt (scanContent k) = k := by
  simp only [ScanSettings.fits, Bool.and_eq_true] at h
  obtain ⟨⟨⟨⟨first, last⟩, low⟩, high⟩, staleLimit⟩ := h
  simp [scanAt, scanContent, fieldAt_front, fieldAt_last, fieldAt_beBytes, fieldAt_signedBytes, signedAt_front,
    signedAt_beBytes, signedAt_signedBytes, *]

/-- WRITE RECIPE's parameters, read back behind the record's head. -/
theorem paramsAt_recipeContent {page package : Nat} {r : RecipeFields} (h : r.params.fits = true) :
    paramsAt (beBytes 1 page ++ (beBytes 1 package ++ recipeContent r)) = r.params := by
  simp only [Params.fits, Bool.and_eq_true, List.all_eq_true] at h
  obtain ⟨⟨⟨⟨⟨⟨⟨⟨⟨⟨⟨⟨⟨⟨⟨⟨⟨⟨⟨⟨target, tolerance⟩, excursion⟩, flush⟩, alphaG⟩, alphaE⟩, gain⟩, stepLimit⟩, uLo⟩, uHi⟩, u0⟩,
    nSat⟩, lowStart⟩, lowFlow⟩, mainFlow⟩, topOffVolume⟩, topOffFlow⟩, holdLimit⟩, missLimit⟩, additives⟩,
    precision⟩ := h
  have code (i : Nat) (hi : i < 3) : fits 1 r.params.additives[i].code = true := (additives _ (by simp)).1
  have rate (i : Nat) (hi : i < 3) : fits 2 r.params.additives[i].rate = true := (additives _ (by simp)).2
  have additives_read : (Vector.ofFn fun i : Fin 3 => (⟨
      fieldAt (beBytes 1 page ++ (beBytes 1 package ++ recipeContent r)) (61 + 3 * i.val) 1,
      fieldAt (beBytes 1 page ++ (beBytes 1 package ++ recipeContent r)) (62 + 3 * i.val) 2⟩ : Additive)) =
        r.params.additives := by
    unfold recipeContent
    refine vector_three_eq ?_ ?_ ?_ <;>
      simp [flatMap_vector_three, fieldAt_front, fieldAt_beBytes, fieldAt_name, code, rate]
  unfold paramsAt
  rw [additives_read]
  unfold recipeContent
  simp [flatMap_vector_three, fieldAt_front, fieldAt_last, fieldAt_beBytes, fieldAt_name, *]

/-- WRITE RECIPE's operand, read back. -/
theorem recipeAtFields_recipeContent {page package : Nat} {r : RecipeFields} (h : r.fits = true) :
    recipeAtFields (beBytes 1 page ++ (beBytes 1 package ++ recipeContent r)) = r := by
  simp only [RecipeFields.fits, Bool.and_eq_true] at h
  obtain ⟨⟨⟨⟨valid, restricted⟩, kind⟩, action⟩, params⟩ := h
  unfold recipeAtFields
  rw [paramsAt_recipeContent params]
  unfold recipeContent
  simp [fieldAt_front, fieldAt_beBytes, fieldAt_name, nameAt_front, nameAt_beBytes, *]

/-! ## Requests read from their frames -/

theorem read_alone (ask : Nat → State) {n v : Nat} (h : fits n v = true) :
    (.next (ask v) : Host.Outcome State Fault Refusal) = .next (ask (fieldAt (beBytes n v) 0 n)) := by
  rw [fieldAt_last h]

theorem read_pair (ask : Nat → Nat → State) {m n v w : Nat} (hv : fits m v = true) (hw : fits n w = true) :
    (.next (ask v w) : Host.Outcome State Fault Refusal) =
      .next (ask (fieldAt (beBytes m v ++ beBytes n w) 0 m) (fieldAt (beBytes m v ++ beBytes n w) m n)) := by
  rw [fieldAt_front hv, fieldAt_beBytes (Nat.le_refl m), Nat.sub_self, fieldAt_last hw]

/-- What a well-formed request does is what its port does with the fields of its frame, once it looks at them. -/
theorem exec_eq_takeFields {i : Instr} {c : Caller} {names : Names} (s : State) (hi : requestOf i = some (c, names))
    (hw : i.wellFormed = true) : exec i s = .next (takeFields c ((requestContent i).drop 2) s) := by
  cases i with
  | authorize port tag arm product package preset =>
    cases hi
    simp only [Instr.wellFormed, Bool.and_eq_true] at hw
    obtain ⟨⟨harm, hpackage⟩, hpreset⟩ := hw
    have hproduct : fits 1 product.val = true := decide_eq_true product.isLt
    refine congrArg Host.Outcome.next ?_
    simp [takeFields, requestContent, fieldAt_front, fieldAt_beBytes, fieldAt_last, *]
  | start port tag arm => cases hi; exact read_alone (fun n => askStart _ n s) hw
  | stop port tag arm => cases hi; exact read_alone (fun n => askStop _ n s) hw
  | resume port tag arm => cases hi; exact read_alone (fun n => askResume _ n s) hw
  | endBatch port tag arm => cases hi; exact read_alone (fun n => askEnd _ n s) hw
  | abort port tag arm => cases hi; exact read_alone (fun n => askAbort _ n s) hw
  | armStatus port tag arm => cases hi; exact read_alone (fun n => askArmStatus _ n s) hw
  | readFlags port tag arm => cases hi; exact read_alone (fun n => askReadFlags _ n s) hw
  | clearFlags port tag arm mask =>
    cases hi
    have hmask : fits 2 mask.toNat = true := decide_eq_true mask.isLt
    refine Eq.trans ?_ (read_pair (fun a m => askClearFlags _ a (BitVec.ofNat 16 m) s) hw hmask)
    rw [BitVec.ofNat_toNat, BitVec.setWidth_eq]
    rfl
  | readRecord port tag lane =>
    cases hi
    cases port with
    | lane l => rw [show lane = 0 from eq_of_beq hw]; rfl
    | supervisor => exact read_alone (fun n => askReadRecord _ n s) hw
  | releaseRecord port tag number lane =>
    cases hi
    obtain ⟨hnumber, hlane⟩ := Bool.and_eq_true_iff.mp hw
    cases port with
    | lane l =>
      rw [show lane = 0 from eq_of_beq hlane]
      have front : fieldAt (beBytes 4 number ++ []) 0 4 = number := fieldAt_front hnumber []
      have none_left : fieldAt (beBytes 4 number ++ []) 4 1 = 0 := fieldAt_beBytes (Nat.le_refl 4) number 1 []
      refine congrArg Host.Outcome.next ?_
      exact congrArg₂ (fun n k => askReleaseRecord ⟨.lane l, tag, 0x0B⟩ n k s) front.symm none_left.symm
    | supervisor => exact read_pair (fun n l => askReleaseRecord _ n l s) hnumber hlane
  | readTotals port tag arm => cases hi; exact read_alone (fun n => askReadTotals _ n s) hw
  | setArmConfig port tag arm config =>
    cases hi
    obtain ⟨harm, hconfig⟩ := Bool.and_eq_true_iff.mp hw
    refine congrArg Host.Outcome.next ?_
    exact congrArg₂ (fun n k => askSetArmConfig ⟨port, tag, 0x20⟩ n k s) (fieldAt_front harm _).symm
      (configAt_configContent hconfig).symm
  | setHeaderCapacity port tag capacity => cases hi; exact read_alone (fun n => askSetHeaderCapacity _ n s) hw
  | setAuthorizeTimeout port tag seconds =>
    cases hi; exact read_alone (fun n => askSetAuthorizeTimeout _ n s) hw
  | setWindow port tag window fields =>
    cases hi
    obtain ⟨hwindow, hfields⟩ := Bool.and_eq_true_iff.mp hw
    refine congrArg Host.Outcome.next ?_
    exact congrArg₂ (fun n k => askSetWindow ⟨port, tag, 0x23⟩ n k s) (fieldAt_front hwindow _).symm
      (windowAt_windowContent hfields).symm
  | setAdditiveService port tag code setting =>
    cases hi
    obtain ⟨hcode, hsetting⟩ := Bool.and_eq_true_iff.mp hw
    exact read_pair (fun k v => askSetAdditiveService _ k v s) hcode hsetting
  | releaseRestricted port tag arm => cases hi; exact read_alone (fun n => askReleaseRestricted _ n s) hw
  | readHeader port tag => cases hi; rfl
  | readDirectoryEntry port tag product =>
    cases hi; exact read_alone (fun n => askReadDirectoryEntry _ n s) hw
  | writeDirectoryEntry port tag product fields =>
    cases hi
    obtain ⟨hproduct, hfields⟩ := Bool.and_eq_true_iff.mp hw
    simp only [EntryFields.fits, Bool.and_eq_true] at hfields
    obtain ⟨⟨hvalid, hrestricted⟩, hpage⟩ := hfields
    refine congrArg Host.Outcome.next ?_
    simp [takeFields, requestContent, fieldAt_front, fieldAt_beBytes, fieldAt_last, *]
  | readRecipe port tag page package =>
    cases hi
    obtain ⟨hpage, hpackage⟩ := Bool.and_eq_true_iff.mp hw
    exact read_pair (fun k v => askReadRecipe _ k v s) hpage hpackage
  | writeRecipe port tag page package fields =>
    cases hi
    simp only [Instr.wellFormed, Bool.and_eq_true] at hw
    obtain ⟨⟨hpage, hpackage⟩, hfields⟩ := hw
    refine congrArg Host.Outcome.next ?_
    have read := recipeAtFields_recipeContent (page := page) (package := package) hfields
    simp [takeFields, requestContent, fieldAt_front, fieldAt_beBytes, read, *]
  | flushAll port tag => cases hi; rfl
  | flushProduct port tag product => cases hi; exact read_alone (fun n => askFlushProduct _ n s) hw
  | clearUsage port tag product => cases hi; exact read_alone (fun n => askClearUsage _ n s) hw
  | setScan port tag settings =>
    cases hi
    exact congrArg (fun k => Host.Outcome.next (askSetScan ⟨port, tag, 0x40⟩ k s)) (scanAt_scanContent hw).symm
  | startScan port tag => cases hi; rfl
  | stopScan port tag => cases hi; rfl
  | readProbes port tag => cases hi; rfl
  | setMonitor port tag mode arm =>
    cases hi
    obtain ⟨hmode, harm⟩ := Bool.and_eq_true_iff.mp hw
    exact read_pair (fun m a => askSetMonitor _ m a s) hmode harm
  | setAlertModes port tag lane selection =>
    cases hi
    have hselection : fits 1 selection.toNat = true := decide_eq_true selection.isLt
    have byte : beBytes 1 selection.toNat = [selection] := by simp [beBytes]
    refine Eq.trans ?_ ((read_pair (fun l m => askSetAlertModes ⟨port, tag, 0x49⟩ l (BitVec.ofNat 8 m) s) hw
      hselection).trans ?_)
    · rw [BitVec.ofNat_toNat, BitVec.setWidth_eq]; rfl
    · rw [byte]; rfl
  | restart port tag => cases hi; rfl
  | _ => nomatch hi

theorem frameCaller_requestContent {i : Instr} {c : Caller} {names : Names} (hi : requestOf i = some (c, names)) :
    frameCaller c.port (requestContent i) = c := by
  obtain ⟨_, head⟩ := framesFit i c names hi
  obtain ⟨rest, hrest⟩ : ∃ rest, requestContent i = c.code :: c.tag :: rest :=
    ⟨(requestContent i).drop 2, by rw [← List.take_append_drop 2 (requestContent i), head]; simp⟩
  rw [hrest]
  rfl

/-- Settles O18: what the port finds in the way it finds for the frame too, and past that the fields are read
back as they were written. -/
theorem requestFramesSpellTheirCommands : Obligations.RequestFramesSpellTheirCommands := by
  unfold Obligations.RequestFramesSpellTheirCommands
  intro i c names s hi hw
  have caller := frameCaller_requestContent hi
  obtain ⟨serve, served⟩ := exec_request hi
  cases hf : s.flooded c.port with
  | true => rw [served, State.takeRequest_of_flooded hf, State.takeFrame_of_flooded hf]
  | false =>
    cases hr : s.frontCheck c with
    | some r =>
      rw [served, State.takeRequest_of_check hf (State.portCheck_of_front hr),
        State.takeFrame_of_refused hf (by rw [caller]; exact hr), caller]
    | none =>
      rw [exec_eq_takeFields s hi hw, State.takeFrame_of_passed hf (by rw [caller]; exact hr), caller, if_neg]
      exact not_not.mpr (framesFit i c names hi).1

end Sys2Proof.Machine
end

section
/-! PROOFS. Resolution of an AUTHORIZE: release, additives, cache and walk. -/

namespace Sys2Proof.Machine
open Sys2Proof

/-! ## The additive checks of R100 -/

theorem slotFor_eq_none_iff {c : ArmConfig} {code : Nat} :
    slotFor c code = none ↔ ∀ i : SlotId, c.slots[i].code ≠ code := by
  unfold slotFor
  rw [List.find?_eq_none]
  constructor
  · intro h i
    have member : i ∈ ([0, 1, 2] : List SlotId) := by revert i; decide
    simpa using h i member
  · intro h i _
    simpa using h i

theorem slotFor_isSome_iff {c : ArmConfig} {code : Nat} :
    (slotFor c code).isSome = true ↔ ∃ i : SlotId, c.slots[i].code = code := by
  rw [Option.isSome_iff_ne_none, Ne, slotFor_eq_none_iff]
  simp only [ne_eq, not_forall, not_not]

theorem State.additiveFailure_cons_of_passes {s : State} {c : ArmConfig} {ad : Additive} {rest : List Additive}
    (h : s.additivePasses c ad) : s.additiveFailure c (ad :: rest) = s.additiveFailure c rest := by
  rw [State.additiveFailure]
  split
  · rfl
  · next hcode =>
    obtain ⟨slot, service⟩ := h hcode
    rw [if_neg (by rw [Option.isNone_iff_eq_none, ← Option.not_isSome_iff_eq_none, slotFor_isSome_iff]; exact not_not.mpr slot),
      if_neg (by rw [service]; simp)]

theorem State.additiveFailure_append {s : State} {c : ArmConfig} {before rest : List Additive}
    (h : ∀ x ∈ before, s.additivePasses c x) : s.additiveFailure c (before ++ rest) = s.additiveFailure c rest := by
  induction before with
  | nil => rfl
  | cons x before ih =>
    rw [List.cons_append, State.additiveFailure_cons_of_passes (h x List.mem_cons_self),
      ih fun y hy => h y (List.mem_cons_of_mem x hy)]

theorem State.additiveFailure_of_pass {s : State} {c : ArmConfig} {p : Params} (h : s.additivesPass c p) :
    s.additiveFailure c p.additives.toList = none := by
  rw [← List.append_nil p.additives.toList, State.additiveFailure_append h]
  rfl

theorem State.additiveFailure_of_no_slot {s : State} {c : ArmConfig} {ad : Additive} {rest : List Additive}
    (hcode : ad.code ≠ 0) (h : ∀ i : SlotId, c.slots[i].code ≠ ad.code) :
    s.additiveFailure c (ad :: rest) = some .noInjector := by
  rw [State.additiveFailure, if_neg hcode, slotFor_eq_none_iff.mpr h]
  rfl

theorem State.additiveFailure_of_out {s : State} {c : ArmConfig} {ad : Additive} {rest : List Additive}
    (hcode : ad.code ≠ 0) (h : ∃ i : SlotId, c.slots[i].code = ad.code) (hout : s.codeInService ad.code = false) :
    s.additiveFailure c (ad :: rest) = some .additiveUnavailable := by
  have slot : (slotFor c ad.code).isNone = false := by
    rw [← Option.not_isSome, slotFor_isSome_iff.mpr h]; rfl
  rw [State.additiveFailure, if_neg hcode, slot, hout]
  rfl

/-! ## Step 4 of resolution -/

theorem State.stepFour_of_unreleased {s : State} {a : ArmId} (snap : Snapshot) (page : Nat)
    (h : (s.arm a).release = none) : s.stepFour a snap page true = s.failArm a .restricted := by
  unfold State.stepFour State.stepFourFailure
  rw [h]
  rfl

theorem State.stepFourFailure_of_released {s : State} {a : ArmId} {restricted : Bool} {c : ArmConfig}
    (snap : Snapshot) (hrelease : restricted = true → (s.arm a).release ≠ none) (hc : (s.arm a).config = some c) :
    s.stepFourFailure a snap restricted = s.additiveFailure c snap.params.additives.toList := by
  have open' : (restricted && (s.arm a).release.isNone) = false := by
    rw [Bool.and_eq_false_imp]
    intro h
    rw [← Option.not_isSome, Option.isSome_iff_ne_none.mpr (hrelease h)]
    rfl
  unfold State.stepFourFailure
  rw [open', hc]
  rfl

theorem State.stepFour_of_failure {s : State} {a : ArmId} {restricted : Bool} {snap : Snapshot} {r : Result} (page : Nat)
    (h : s.stepFourFailure a snap restricted = some r) : s.stepFour a snap page restricted = s.failArm a r := by
  unfold State.stepFour
  rw [h]

/-- An arm whose release is used up by a restricted recipe (R98). -/
def Arm.useRelease (arm : Arm) (restricted : Bool) : Arm := { arm with release := if restricted then none else arm.release }

theorem State.stepFour_of_pass {s : State} {a : ArmId} {restricted : Bool} {snap : Snapshot} (page : Nat)
    (h : s.stepFourFailure a snap restricted = none) :
    s.stepFour a snap page restricted = (s.setArm a (·.useRelease restricted)).authorizeArm a snap (some page) := by
  unfold State.stepFour
  rw [h]
  dsimp only
  cases restricted with
  | true => rfl
  | false =>
    rw [State.setArm_id s a (·.useRelease false) rfl]
    rfl

/-! ## A cached key -/

/-- The one valid entry of a key is the one a lookup finds. -/
theorem State.cached_of_holds {s : State} {e : CacheEntry} (hd : s.keysDistinct) (h : s.holds e) :
    s.cached e.key = some e := by
  obtain ⟨i, hi, hentry⟩ := h
  unfold State.cached State.findEntry
  cases hf : (waysOf e.key).find? fun i => holdsKey e.key s.cache[i] with
  | none =>
    have miss := List.find?_eq_none.mp hf i hi
    rw [hentry] at miss
    exact absurd (decide_eq_true rfl) miss
  | some j =>
    have found := List.find?_some hf
    dsimp only at found ⊢
    cases hj : s.cache[j] with
    | none => rw [hj] at found; exact absurd found Bool.false_ne_true
    | some f =>
      rw [hj] at found
      have key : f.key = e.key := of_decide_eq_true found
      have place : j = i := (State.nodup_cachedKeys s).mp (List.nodup_append.mp hd.1).1 j i f e hj hentry key
      rw [place, hentry] at hj
      exact hj.symm

theorem State.governing_of_ungoverned {s : State} {product : Nat} (h : s.ungoverned product) :
    s.governing product = none := by
  obtain ⟨first, second⟩ := h
  unfold State.governing
  rw [if_neg (mt (StraightWindow.covers_iff_agrees _ _).mp first),
    if_neg (mt (StraightWindow.covers_iff_agrees _ _).mp second)]

theorem State.governing_beginAuthorize {s : State} {c : Caller} {a : ArmId} {key : Key} {preset product : Nat} :
    (s.beginAuthorize c a key preset).governing product = s.governing product := rfl

theorem State.cached_beginAuthorize {s : State} {c : Caller} {a : ArmId} {key k : Key} {preset : Nat} :
    (s.beginAuthorize c a key preset).cached k = s.cached k := rfl

theorem State.resolve_of_hit {s : State} {a : ArmId} {key : Key} {e : CacheEntry} (hg : s.governing key.product = none)
    (hc : s.cached key = some e) : s.resolve a key = s.countLookup.stepFour a e.decoded e.page e.restricted := by
  unfold State.resolve
  rw [hg, hc]

theorem State.resolve_of_miss {s : State} {a : ArmId} {key : Key} (hg : s.governing key.product = none)
    (hc : s.cached key = none) : s.resolve a key = s.countLookup.joinWalk a key := by
  unfold State.resolve
  rw [hg, hc]

/-- A restricted recipe's release used up and the arm authorized, in the event that brought it into
AUTHORIZING. -/
theorem State.authorizeArm_useRelease_beginAuthorize {s : State} {a : ArmId} {tag code : Byte} (key : Key)
    (preset : Nat) (restricted : Bool) (snap : Snapshot) (page : Nat)
    (hfree : (s.port (.lane (laneOf a))).outstanding = none) :
    ((s.beginAuthorize ⟨.lane (laneOf a), tag, code⟩ a key preset).setArm a (·.useRelease restricted)).authorizeArm a snap
        (some page) =
      (s.setArm a fun arm =>
        { arm.authorizedWith (resolvedBatch key preset snap (some page)) s.now s.authorizeTimeout with
          release := if restricted then none else arm.release }).reply ⟨.lane (laneOf a), tag, code⟩ .ok
            (.recipe snap) := by
  have harm : ((s.beginAuthorize ⟨.lane (laneOf a), tag, code⟩ a key preset).setArm a (·.useRelease restricted)).arm a =
      ((s.arm a).authorizing key preset).useRelease restricted := by
    rw [State.arm_setArm_self]
    exact congrArg (Arm.useRelease · restricted) (State.arm_setArm_self s a (·.authorizing key preset))
  rw [State.authorizeArm_of_batch (congrArg Arm.batch harm) (congrArg Arm.reserved harm), State.setArm_setArm]
  exact State.settle_setArm_beginAuthorize key preset _ _ _ hfree

/-! ## The walk of a key -/

theorem State.joinWalk_of_listed {s : State} {a : ArmId} {key : Key} (h : ∃ w ∈ s.walks, w.key = key) :
    s.joinWalk a key = { s with walks := s.walks.map fun w =>
      if w.key = key then { w with waiters := w.waiters ++ [a] } else w } := by
  unfold State.joinWalk
  obtain ⟨w, hw, hk⟩ := h
  exact if_pos (List.any_eq_true.mpr ⟨w, hw, decide_eq_true hk⟩)

theorem State.joinWalk_of_unlisted {s : State} {a : ArmId} {key : Key} (h : ∀ w ∈ s.walks, w.key ≠ key) :
    s.joinWalk a key = State.askOp { s with walks := s.walks ++ [⟨key, false, [a]⟩] } (.walk key) := by
  unfold State.joinWalk
  refine if_neg fun hany => ?_
  obtain ⟨w, hw, hk⟩ := List.any_eq_true.mp hany
  exact h w hw (of_decide_eq_true hk)

theorem markCurrent_new {walks : List WalkEntry} {key : Key} {a : ArmId} (h : ∀ w ∈ walks, w.key ≠ key) :
    markCurrent (.walk key) (walks ++ [⟨key, false, [a]⟩]) = walks ++ [⟨key, true, [a]⟩] := by
  have others : walks.map (fun w => if w.key = key then { w with current := true } else w) = walks :=
    (List.map_congr_left fun w hw => if_neg (h w hw)).trans (List.map_id walks)
  show List.map _ _ = _
  rw [List.map_append, others, List.map_singleton, if_pos rfl]

/-- Settles O22: on a hit the entry's release and additives decide in the event itself; on a miss the arm waits on
the walk of its key. -/
theorem authorizeLooksTheRecipeUp : Obligations.AuthorizeLooksTheRecipeUp := by
  unfold Obligations.AuthorizeLooksTheRecipeUp
  refine ⟨fun tag a product package preset e config s htakes hpasses hopen hdistinct hholds hkey hconfig => ?_,
    fun tag a product package preset s htakes hpasses hopen hmiss => ?_⟩
  case refine_1 =>
    obtain ⟨-, -, hfree, -⟩ := State.takes_spec htakes
    have hit : s.cached ⟨product.val, package⟩ = some e := hkey ▸ State.cached_of_holds hdistinct hholds
    have run := exec_authorize_of_authorizes (product := product) htakes hpasses
    rw [State.resolve_of_hit (State.governing_beginAuthorize.trans (State.governing_of_ungoverned hopen))
      (State.cached_beginAuthorize.trans hit)] at run
    obtain ⟨t, ht⟩ : ∃ t : State, t = s.countLookup.beginAuthorize ⟨.lane (laneOf a), tag, 0x01⟩ a ⟨product.val, package⟩ preset :=
      ⟨_, rfl⟩
    replace run : exec (.authorize (.lane (laneOf a)) tag a.val product package preset) s =
        .next (t.stepFour a e.decoded e.page e.restricted) := ht ▸ run
    have arm : t.arm a = (s.arm a).authorizing ⟨product.val, package⟩ preset := by
      rw [ht]; exact State.arm_setArm_self s.countLookup a (·.authorizing _ preset)
    have release : (t.arm a).release = (s.arm a).release := by rw [arm]; rfl
    have config' : (t.arm a).config = some config := by rw [arm]; exact hconfig
    have failed (r : Result) : t.failArm a r = (s.countLookup.setArm a Arm.toIdle).reply ⟨.lane (laneOf a), tag, 0x01⟩ r .nothing := by
      rw [ht]; exact State.failArm_beginAuthorize _ _ r hfree
    have decided (hr : e.restricted = true → (s.arm a).release ≠ none) :=
      State.stepFourFailure_of_released e.decoded (by rw [release]; exact hr) config'
    refine ⟨fun ⟨hrestricted, hnone⟩ => ?_, fun hr hpass => ?_, fun hr before ad rest hlist hbefore hcode => ?_⟩
    · rw [run, hrestricted, State.stepFour_of_unreleased _ _ (release.trans hnone), failed]
      rfl
    · have pass : t.additivesPass config e.decoded.params := by rw [ht]; exact hpass
      rw [run, State.stepFour_of_pass _ ((decided hr).trans (State.additiveFailure_of_pass pass)), ht, hkey]
      exact congrArg Host.Outcome.next (State.authorizeArm_useRelease_beginAuthorize _ preset _ _ _ hfree)
    · have before' : ∀ x ∈ before, t.additivePasses config x := by rw [ht]; exact hbefore
      have first := (decided hr).trans ((congrArg (t.additiveFailure config) hlist).trans (State.additiveFailure_append before'))
      refine ⟨fun hslot => ?_, fun hslot hout => ?_⟩
      · rw [run, State.stepFour_of_failure _ (first.trans (State.additiveFailure_of_no_slot hcode hslot)), failed]
        rfl
      · have out : t.codeInService ad.code = false := by rw [ht]; exact hout
        rw [run, State.stepFour_of_failure _ (first.trans (State.additiveFailure_of_out hcode hslot out)), failed]
        rfl
  case refine_2 =>
    obtain ⟨-, hload, -, -⟩ := State.takes_spec htakes
    have run := exec_authorize_of_authorizes (product := product) htakes hpasses
    obtain ⟨-, hrestart, -⟩ := hpasses
    rw [State.resolve_of_miss (State.governing_beginAuthorize.trans (State.governing_of_ungoverned hopen))
      (State.cached_beginAuthorize.trans hmiss)] at run
    obtain ⟨t, ht⟩ : ∃ t : State, t = (s.beginAuthorize ⟨.lane (laneOf a), tag, 0x01⟩ a ⟨product.val, package⟩ preset).countLookup :=
      ⟨_, rfl⟩
    rw [← ht] at run
    have walks : t.walks = s.walks := by rw [ht]; rfl
    refine ⟨fun hlisted => ?_, fun hnew hbusy => ?_, fun hnew hidle hempty => ?_⟩
    · rw [run, State.joinWalk_of_listed (walks.symm ▸ hlisted), ht]
      rfl
    · rw [run, State.joinWalk_of_unlisted (walks.symm ▸ hnew), State.askOp_of_busy _ _ (by rw [ht]; exact hbusy), ht]
      rfl
    · rw [run, State.joinWalk_of_unlisted (walks.symm ▸ hnew),
        State.askOp_of_idle _ _ (by rw [ht]; exact hidle) (by rw [ht]; exact hempty) (by rw [ht]; exact hrestart)
          (by rw [ht]; exact hload)]
      dsimp only
      rw [walks, markCurrent_new hnew, ht]
      rfl

end Sys2Proof.Machine
end

section
/-! PROOFS. Rounding, the quantities fixed at START, and a trim. -/

namespace Sys2Proof.Machine
open Sys2Proof

/-! ## The device's rounding (R1) -/

theorem ceilDiv_spec (n : Nat) {d : Nat} (hd : 0 < d) : n ≤ ceilDiv n d * d ∧ ceilDiv n d * d < n + d := by
  have whole := Nat.div_add_mod' (n + d - 1) d
  have rest := Nat.mod_lt (n + d - 1) hd
  unfold ceilDiv
  omega

theorem ceilDiv_le {n d k : Nat} (hd : 0 < d) (h : n ≤ k * d) : ceilDiv n d ≤ k := by
  obtain ⟨-, high⟩ := ceilDiv_spec n hd
  by_contra hlt
  have next : (k + 1) * d ≤ ceilDiv n d * d := Nat.mul_le_mul_right d (by omega)
  rw [Nat.succ_mul] at next
  omega

theorem ceilDiv_lt {n d k : Nat} (hd : 0 < d) (h : n + d ≤ k * d) : ceilDiv n d < k := by
  obtain ⟨-, high⟩ := ceilDiv_spec n hd
  exact lt_of_mul_lt_mul_right (by omega : ceilDiv n d * d < k * d) (Nat.zero_le d)

/-- The magnitude of a rounded quotient. -/
def roundMagnitude (n : Int) (d : Nat) : Nat := (2 * n.natAbs + d) / (2 * d)

theorem roundDiv_eq (n : Int) (d : Nat) :
    roundDiv n d = if n < 0 then -(roundMagnitude n d : Int) else roundMagnitude n d := rfl

/-- Twice the rounded multiple lies less than the divisor below twice the quantity, and at most the divisor above. -/
theorem roundMagnitude_spec (n : Int) {d : Nat} (hd : 0 < d) :
    2 * n.natAbs < 2 * (d * roundMagnitude n d) + d ∧ 2 * (d * roundMagnitude n d) ≤ 2 * n.natAbs + d := by
  have whole := Nat.div_add_mod (2 * n.natAbs + d) (2 * d)
  have rest := Nat.mod_lt (2 * n.natAbs + d) (Nat.mul_pos two_pos hd)
  unfold roundMagnitude
  rw [Nat.mul_assoc] at whole
  omega

theorem roundDiv_nearest (n : Int) {d : Nat} (hd : 0 < d) :
    2 * (d * roundDiv n d - n).natAbs ≤ d ∧
      (2 * (d * roundDiv n d - n).natAbs = d → n.natAbs < (d * roundDiv n d).natAbs) := by
  obtain ⟨low, high⟩ := roundMagnitude_spec n hd
  obtain ⟨x, hx⟩ : ∃ x : Nat, x = d * roundMagnitude n d := ⟨_, rfl⟩
  have product : (d : Int) * roundDiv n d = if n < 0 then -(x : Int) else x := by
    rw [roundDiv_eq, hx]
    split
    · rw [Int.mul_neg]; push_cast; rfl
    · push_cast; rfl
  rw [product]
  rw [← hx] at low high
  split <;> omega

theorem roundDiv_nonneg {n : Int} (h : 0 ≤ n) (d : Nat) : 0 ≤ roundDiv n d := by
  rw [roundDiv_eq, if_neg (not_lt.mpr h)]
  exact Int.natCast_nonneg _

theorem roundDiv_nonpos {n : Int} (h : n ≤ 0) (d : Nat) : roundDiv n d ≤ 0 := by
  rw [roundDiv_eq]
  split
  · omega
  · next hn =>
    have zero : n = 0 := by omega
    have half : roundMagnitude n d = 0 := by
      unfold roundMagnitude
      rw [zero, Nat.div_eq_zero_iff]
      simp only [Int.natAbs_zero]
      omega
    rw [half]
    rfl

/-! ## The quantities fixed at START (R3) -/

/-- The ethanol to deliver stays so far below the preset that the highest allowed fraction leaves room. -/
theorem goal_room {preset target : Nat} (hp : 50000 ≤ preset) (ht : target ≤ 8500) :
    ceilDiv ((target * preset + 5000) / 10000 * 10000) 9000 < preset := by
  refine ceilDiv_lt (by omega) ?_
  have product : target * preset ≤ 8500 * preset := Nat.mul_le_mul_right preset ht
  omega

theorem goal_le {preset target : Nat} (hp : preset ≤ 60000000) (ht : target ≤ 8500) :
    (target * preset + 5000) / 10000 ≤ 51000000 := by
  have product : target * preset ≤ 8500 * 60000000 := Nat.mul_le_mul ht hp
  omega

/-! ## A trim (R10) -/

theorem limitTo_of_le {lo hi x : Int} (h : lo ≤ hi) : lo ≤ limitTo lo hi x ∧ limitTo lo hi x ≤ hi := by
  unfold limitTo
  omega

/-- Limiting never carries a value past a point of the range. -/
theorem limitTo_moves {lo hi x m : Int} (hlo : lo ≤ m) (hhi : m ≤ hi) :
    (m ≤ x → m ≤ limitTo lo hi x ∧ limitTo lo hi x ≤ x) ∧ (x ≤ m → limitTo lo hi x ≤ m ∧ x ≤ limitTo lo hi x) := by
  unfold limitTo
  omega

/-- The step of a trim by error `e` (R10). -/
def trimStep (p : Params) (e : Int) : Int := limitTo (-p.stepLimit) p.stepLimit (-(roundDiv (p.gain * e) 1000))

theorem trimmedCommand_eq (p : Params) (e : Int) (u : Nat) :
    trimmedCommand p e u = (limitTo p.uLo p.uHi (u + trimStep p e)).toNat := rfl

theorem trimStep_spec (p : Params) (e : Int) :
    -(p.stepLimit : Int) ≤ trimStep p e ∧ trimStep p e ≤ p.stepLimit ∧
      (e ≤ 0 → 0 ≤ trimStep p e) ∧ (0 ≤ e → trimStep p e ≤ 0) := by
  obtain ⟨low, high⟩ := limitTo_of_le (x := -(roundDiv (p.gain * e) 1000)) (by omega : -(p.stepLimit : Int) ≤ p.stepLimit)
  obtain ⟨up, down⟩ := limitTo_moves (x := -(roundDiv (p.gain * e) 1000)) (by omega : -(p.stepLimit : Int) ≤ 0)
    (by omega : 0 ≤ (p.stepLimit : Int))
  refine ⟨low, high, fun he => ?_, fun he => ?_⟩
  · have product : (p.gain : Int) * e ≤ 0 := Int.mul_nonpos_of_nonneg_of_nonpos (Int.natCast_nonneg _) he
    have rounded := roundDiv_nonpos product 1000
    exact (up (by omega)).1
  · have product : 0 ≤ (p.gain : Int) * e := Int.mul_nonneg (Int.natCast_nonneg _) he
    have rounded := roundDiv_nonneg product 1000
    exact (down (by omega)).1

/-- Settles O47: rounding, the fixed quantities, and the trim. -/
theorem blendArithmeticKeepsItsRanges : Obligations.BlendArithmeticKeepsItsRanges := by
  unfold Obligations.BlendArithmeticKeepsItsRanges
  refine ⟨fun n d hd => roundDiv_nearest n hd, fun preset p hlow hhigh htarget hflush => ?_, fun p e u hlo hhi => ?_⟩
  case refine_1 =>
    dsimp only [fixedQuantities]
    have room := goal_room hlow htarget
    have goal := goal_le hhigh htarget
    obtain ⟨E, hE⟩ : ∃ E, E = (p.target * preset + 5000) / 10000 := ⟨_, rfl⟩
    rw [← hE] at room goal ⊢
    obtain ⟨F, hF⟩ : ∃ F, F = min p.flush (min (preset / 2) (preset - ceilDiv (E * 10000) 9000)) := ⟨_, rfl⟩
    rw [← hF]
    obtain ⟨enough, -⟩ := ceilDiv_spec (E * 10000) (d := 9000) (by omega)
    have start : 0 < preset - F := by omega
    obtain ⟨fractionLow, fractionHigh⟩ := ceilDiv_spec (E * 10000) start
    have fraction : ceilDiv (E * 10000) (preset - F) ≤ 9000 := ceilDiv_le start (by omega)
    refine ⟨rfl, goal, by omega, by omega, by omega, by omega, by omega, by omega, by omega, fractionLow, fractionHigh,
      fraction⟩
  case refine_2 =>
    obtain ⟨low, high, up, down⟩ := trimStep_spec p e
    have range := limitTo_of_le (x := u + trimStep p e) (by omega : (p.uLo : Int) ≤ p.uHi)
    obtain ⟨above, below⟩ := limitTo_moves (x := u + trimStep p e) (m := u) (by omega : (p.uLo : Int) ≤ u)
      (by omega : (u : Int) ≤ p.uHi)
    rw [trimmedCommand_eq]
    obtain ⟨v, hv⟩ : ∃ v, v = limitTo p.uLo p.uHi (u + trimStep p e) := ⟨_, rfl⟩
    rw [← hv] at range above below ⊢
    refine ⟨by omega, by omega, by omega, by omega, fun he => ?_, fun he => ?_⟩
    · have := up he; omega
    · have := down he; omega

end Sys2Proof.Machine
end

section
/-! PROOFS. The closing of a trim window: meters, request, queue and BAU. -/

namespace Sys2Proof.Machine
open Sys2Proof

/-! ## Flags raised, and what the ports forget of them -/

/-- From one state to the next exactly the flags of `raised` are added to arm `a`, and each leaves every port's seen
set of the arm (R26, R171). -/
structure State.raises (s t : State) (a : ArmId) (raised : Flag → Prop) : Prop where
  flags : ∀ x : Flag, FlagSet.has (t.arm a).flags x = true ↔ FlagSet.has (s.arm a).flags x = true ∨ raised x
  ports : ∀ p : Port, t.port p = { s.port p with seen := (t.port p).seen }
  seen : ∀ (p : Port) (b : ArmId) (x : Flag), FlagSet.has (t.port p).seen[b] x = true ↔
    FlagSet.has (s.port p).seen[b] x = true ∧ ¬ (b = a ∧ raised x)

theorem State.raises_none {s t : State} {a : ArmId} (hf : (t.arm a).flags = (s.arm a).flags)
    (hp : t.ports = s.ports) : s.raises t a fun _ => False := by
  have port (p : Port) : t.port p = s.port p := by unfold State.port; rw [hp]
  exact ⟨fun x => by rw [hf, or_false], fun p => by rw [port p], fun p b x => by rw [port p]; simp⟩

theorem State.raises.trans {s t u : State} {a : ArmId} {P Q : Flag → Prop} (h : s.raises t a P) (h' : t.raises u a Q) :
    s.raises u a fun x => P x ∨ Q x := by
  refine ⟨fun x => by rw [h'.flags, h.flags, or_assoc], fun p => ?_, fun p b x => ?_⟩
  · rw [h'.ports p, h.ports p]
  · rw [h'.seen, h.seen]
    tauto

theorem State.raises.congr {s t : State} {a : ArmId} {P Q : Flag → Prop} (h : s.raises t a P) (e : ∀ x, P x ↔ Q x) :
    s.raises t a Q := by
  have same : P = Q := funext fun x => propext (e x)
  exact same ▸ h

theorem State.raises_setFlag (s : State) (a : ArmId) (f : Flag) : s.raises (s.setFlag a f) a (· = f) := by
  refine ⟨fun x => ?_, fun p => ?_, fun p b x => ?_⟩
  · rw [State.arm_setFlag_self]
    exact (FlagSet.has_add _ f x).trans or_comm
  · rw [State.port_setFlag]
    rfl
  · rw [State.port_setFlag]
    by_cases hb : b = a
    · subst hb
      rw [LinkPort.forget_seen_self, FlagSet.has_without, Bool.eq_false_iff, Ne, FlagSet.has_only]
      simp
    · rw [LinkPort.forget_seen_of_ne _ f hb]
      simp [hb]

theorem State.raises_setFlagIf (s : State) (c : Bool) (a : ArmId) (f : Flag) :
    s.raises (s.setFlagIf c a f) a fun x => c = true ∧ x = f := by
  cases c with
  | true => exact (s.raises_setFlag a f).congr fun x => by simp
  | false => exact (State.raises_none (s := s) (t := s) rfl rfl).congr fun x => by simp

theorem State.raises_setArm (s : State) (a : ArmId) (f : Arm → Arm) (h : ∀ arm, (f arm).flags = arm.flags) :
    s.raises (s.setArm a f) a fun _ => False :=
  State.raises_none (by rw [State.arm_setArm_self, h]) rfl

theorem State.raises_setArm_self {s : State} {a : ArmId} {f : Arm → Arm} (h : (f (s.arm a)).flags = (s.arm a).flags) :
    s.raises (s.setArm a f) a fun _ => False :=
  State.raises_none (by rw [State.arm_setArm_self, h]) rfl

theorem State.changesOnly_setFlagIf (s : State) (c : Bool) (a : ArmId) (f : Flag) {parts : Part → Bool}
    (ha : parts (.arm a) = true) (hp : ∀ p, parts (.port p) = true) : s.changesOnly (s.setFlagIf c a f) parts := by
  cases c with
  | true => exact s.changesOnly_setFlag a f ha hp
  | false => exact s.changesOnly_refl parts

theorem State.changesOnly_bauQueue (s : State) (bau : Option Computation) (queue : List TrimRequest) {parts : Part → Bool}
    (hb : parts .bau = true) (hq : parts .arithmeticQueue = true) :
    s.changesOnly { s with bau := bau, arithmeticQueue := queue } parts := by
  refine ⟨rfl, fun q hout => ?_⟩
  cases q with
  | bau => exact absurd (hout.symm.trans hb) Bool.false_ne_true
  | arithmeticQueue => exact absurd (hout.symm.trans hq) Bool.false_ne_true
  | _ => rfl

theorem State.changesOnly_arithmeticQueue (s : State) (queue : List TrimRequest) {parts : Part → Bool}
    (hq : parts .arithmeticQueue = true) : s.changesOnly { s with arithmeticQueue := queue } parts := by
  refine ⟨rfl, fun q hout => ?_⟩
  cases q with
  | arithmeticQueue => exact absurd (hout.symm.trans hq) Bool.false_ne_true
  | _ => rfl

theorem State.changesOnly_reach (s : State) (d : Nat) {parts : Part → Bool} (hc : parts .clock = true) :
    s.changesOnly (s.reach d) parts := by
  refine ⟨rfl, fun q hout => ?_⟩
  cases q with
  | clock => exact absurd (hout.symm.trans hc) Bool.false_ne_true
  | _ => rfl

/-- An arm but for its flags. -/
def Arm.withFlags (arm : Arm) (flags : FlagSet) : Arm := { arm with flags := flags }

theorem State.arm_setFlagIf_self (s : State) (c : Bool) (a : ArmId) (f : Flag) :
    (s.setFlagIf c a f).arm a = (s.arm a).withFlags ((s.setFlagIf c a f).arm a).flags := by
  cases c with
  | true =>
    show (s.setFlag a f).arm a = (s.arm a).withFlags ((s.setFlag a f).arm a).flags
    rw [State.arm_setFlag_self]
    rfl
  | false => rfl

theorem Arm.takesCause_withFlags (arm : Arm) (flags : FlagSet) (c : HoldCause) (now : Nat) :
    (arm.withFlags flags).takesCause c now = (arm.takesCause c now).withFlags flags := by
  obtain ⟨state⟩ := arm
  cases state <;> rfl

/-! ## What a hold cause leaves of an arm -/

/-- A hold cause taken when its condition holds (R35). -/
def Arm.takesCauseIf (arm : Arm) (b : Bool) (c : HoldCause) (now : Nat) : Arm :=
  if b then arm.takesCause c now else arm

theorem State.addCauseIf_eq (s : State) (b : Bool) (a : ArmId) (c : HoldCause) :
    s.addCauseIf b a c = s.setArm a (·.takesCauseIf b c s.now) := by
  cases b with
  | true => exact State.addCause_eq s a c
  | false => exact (State.setArm_id s a (·.takesCauseIf false c s.now) rfl).symm

theorem Arm.takesCauseIf_withFlags (arm : Arm) (b : Bool) (flags : FlagSet) (c : HoldCause) (now : Nat) :
    (arm.withFlags flags).takesCauseIf b c now = (arm.takesCauseIf b c now).withFlags flags := by
  cases b with
  | true => exact Arm.takesCause_withFlags arm flags c now
  | false => rfl

/-- What a hold cause leaves alone of an arm. -/
theorem Arm.takesCause_kept (arm : Arm) (c : HoldCause) (now : Nat) :
    (arm.takesCause c now).meterG = arm.meterG ∧ (arm.takesCause c now).meterE = arm.meterE ∧
      (arm.takesCause c now).overrun = arm.overrun ∧ (arm.takesCause c now).flags = arm.flags ∧
      (arm.takesCause c now).slots = arm.slots := by
  unfold Arm.takesCause
  dsimp only
  cases arm.state <;> exact ⟨rfl, rfl, rfl, rfl, rfl⟩

theorem Arm.takesCauseIf_kept (arm : Arm) (b : Bool) (c : HoldCause) (now : Nat) :
    (arm.takesCauseIf b c now).meterG = arm.meterG ∧ (arm.takesCauseIf b c now).meterE = arm.meterE ∧
      (arm.takesCauseIf b c now).overrun = arm.overrun ∧ (arm.takesCauseIf b c now).flags = arm.flags ∧
      (arm.takesCauseIf b c now).slots = arm.slots := by
  cases b with
  | true => exact Arm.takesCause_kept arm c now
  | false => exact ⟨rfl, rfl, rfl, rfl, rfl⟩

theorem HoldSet.has_add_self (hs : HoldSet) (c : HoldCause) : HoldSet.has (HoldSet.add hs c) c = true := by
  have lt : c.index < 8 := by cases c <;> decide
  simp [HoldSet.has, HoldSet.add, HoldSet.only, BitVec.getLsbD_twoPow, lt]

theorem HoldSet.has_only_self (c : HoldCause) : HoldSet.has (HoldSet.only c) c = true := by
  have lt : c.index < 8 := by cases c <;> decide
  simp [HoldSet.has, HoldSet.only, BitVec.getLsbD_twoPow, lt]

/-- A hold cause puts an arm underway into HELD, the cause in its set (R35). -/
theorem Arm.takesCause_of_underway {arm : Arm} (h : arm.state.underway = true) (c : HoldCause) (now : Nat) :
    (arm.takesCause c now).state.isHeld = true ∧ HoldSet.has (arm.takesCause c now).causes c = true := by
  cases hs : arm.state with
  | delivering => rw [Arm.takesCause_of_delivering hs]; exact ⟨rfl, HoldSet.has_only_self c⟩
  | flushing => rw [Arm.takesCause_of_flushing hs]; exact ⟨rfl, HoldSet.has_only_self c⟩
  | held o => rw [Arm.takesCause_of_held hs]; exact ⟨by rw [hs]; rfl, HoldSet.has_add_self _ c⟩
  | _ => rw [hs] at h; cases h

/-! ## The hand-over of a window's counts (R55, R57, R58) -/

/-- The closed window is a mismatch window of a meter (R57). -/
def Meter.bad (m : Meter) : Prop := m.countB + 2 < m.countA ∨ m.countA + 2 < m.countB

theorem Meter.mismatched_iff (m : Meter) : m.mismatched = true ↔ m.bad := by
  unfold Meter.mismatched Meter.bad
  rw [Bool.or_eq_true, decide_eq_true_eq, decide_eq_true_eq]

theorem Meter.faults_iff (m : Meter) : m.faults = true ↔ m.bad ∧ 2 ≤ m.mismatch := by
  unfold Meter.faults
  rw [Bool.and_eq_true, Meter.mismatched_iff, decide_eq_true_eq]
  exact and_congr_right fun _ => by omega

/-- The three outcomes of a judged window: clean, the third mismatch, and a mismatch before it (R57). -/
theorem Meter.handOver_spec (m : Meter) :
    m.handOver.countA = 0 ∧ m.handOver.countB = 0 ∧ (¬ m.bad → m.handOver.mismatch = 0) ∧
      (m.bad → 2 ≤ m.mismatch → m.handOver.mismatch = 0) ∧
      (m.bad → m.mismatch < 2 → m.handOver.mismatch = m.mismatch + 1) := by
  refine ⟨rfl, rfl, fun h => ?_, fun h hm => ?_, fun h hm => ?_⟩
  · exact if_neg fun hb => h ((Meter.mismatched_iff m).mp hb)
  · exact (if_pos ((Meter.mismatched_iff m).mpr h)).trans (if_pos (by omega))
  · exact (if_pos ((Meter.mismatched_iff m).mpr h)).trans (if_neg (by omega))

/-- An arm after the hand-over of its counts at instant `now`, but for its flags. -/
def Arm.handedOver (arm : Arm) (now : Nat) : Arm :=
  (arm.setMeters Meter.handOver).takesCauseIf (arm.meterG.faults || arm.meterE.faults) .meter now

/-- The flags that a hand-over raises (R57, R58). -/
def Arm.meterFaults (arm : Arm) (x : Flag) : Prop :=
  arm.meterG.faults = true ∧ x = .meterG ∨ arm.meterE.faults = true ∧ x = .meterE

theorem State.handOver_spec (s : State) (a : ArmId) :
    (s.handOver a).arm a = ((s.arm a).handedOver s.now).withFlags ((s.handOver a).arm a).flags ∧
      s.raises (s.handOver a) a (s.arm a).meterFaults ∧
      ∀ parts : Part → Bool, parts (.arm a) = true → (∀ p, parts (.port p) = true) →
        s.changesOnly (s.handOver a) parts := by
  obtain ⟨t, ht⟩ : ∃ t, t = s.setArm a (·.setMeters Meter.handOver) := ⟨_, rfl⟩
  obtain ⟨u, hu⟩ : ∃ u, u = t.setFlagIf (s.arm a).meterG.faults a .meterG := ⟨_, rfl⟩
  obtain ⟨v, hv⟩ : ∃ v, v = u.setFlagIf (s.arm a).meterE.faults a .meterE := ⟨_, rfl⟩
  have handed : s.handOver a =
      v.setArm a (·.takesCauseIf ((s.arm a).meterG.faults || (s.arm a).meterE.faults) .meter v.now) := by
    rw [← State.addCauseIf_eq, hv, hu, ht]
    rfl
  have flagged : v.arm a = ((s.arm a).setMeters Meter.handOver).withFlags (v.arm a).flags := by
    have h1 : t.arm a = (s.arm a).setMeters Meter.handOver := by rw [ht, State.arm_setArm_self]
    have h2 : u.arm a = (t.arm a).withFlags (u.arm a).flags := by rw [hu]; exact State.arm_setFlagIf_self _ _ a _
    have h3 : v.arm a = (u.arm a).withFlags (v.arm a).flags := by rw [hv]; exact State.arm_setFlagIf_self _ _ a _
    rw [h3, h2, h1]
    rfl
  have only (parts : Part → Bool) (ha : parts (.arm a) = true) (hp : ∀ p, parts (.port p) = true) :
      s.changesOnly v parts := by
    rw [hv, hu, ht]
    exact ((s.changesOnly_setArm a _ ha).trans (State.changesOnly_setFlagIf _ _ a _ ha hp)).trans
      (State.changesOnly_setFlagIf _ _ a _ ha hp)
  have now : v.now = s.now := (only (fun q => q != .clock) rfl fun _ => rfl).2 .clock rfl
  refine ⟨?_, ?_, fun parts ha hp => ?_⟩
  · rw [handed, State.arm_setArm_self, now, flagged, Arm.takesCauseIf_withFlags]
    rfl
  · have first : s.raises t a fun _ => False := by rw [ht]; exact s.raises_setArm a _ fun _ => rfl
    have second := hu ▸ t.raises_setFlagIf (s.arm a).meterG.faults a .meterG
    have third := hv ▸ u.raises_setFlagIf (s.arm a).meterE.faults a .meterE
    have last : v.raises (s.handOver a) a fun _ => False := by
      rw [handed]
      obtain ⟨-, -, -, flags, -⟩ := Arm.takesCauseIf_kept (v.arm a) ((s.arm a).meterG.faults || (s.arm a).meterE.faults)
        .meter v.now
      exact State.raises_setArm_self flags
    refine (((first.trans second).trans third).trans last).congr fun x => ?_
    unfold Arm.meterFaults
    simp
  · rw [handed]
    exact (only parts ha hp).trans (State.changesOnly_setArm _ a _ ha)

/-! ## The placing of a request (R80, R81) -/

/-- The waiting request of an arm that a new one merges into (R81). -/
def State.waitingRequest (s : State) (a : ArmId) : Option TrimRequest :=
  s.arithmeticQueue.find? fun w => decide (w.arm = a)

theorem State.waitingRequest_eq_none_iff {s : State} {a : ArmId} :
    s.waitingRequest a = none ↔ ∀ w ∈ s.arithmeticQueue, w.arm ≠ a := by
  unfold State.waitingRequest
  rw [List.find?_eq_none]
  simp only [decide_eq_true_eq, ne_eq]

theorem State.waitingRequest_isSome_iff {s : State} {a : ArmId} :
    (s.waitingRequest a).isSome = true ↔ ∃ w ∈ s.arithmeticQueue, w.arm = a := by
  rw [Option.isSome_iff_ne_none, Ne, State.waitingRequest_eq_none_iff]
  simp only [ne_eq, not_forall, not_not, exists_prop]

/-- An arm whose request has been placed, but for its flags: a merge counts an overrun and may saturate the counts
(R81, R82). -/
def Arm.placed (arm : Arm) (waiting : Option TrimRequest) (r : TrimRequest) : Arm :=
  match waiting with
  | some w =>
    { arm with
      batch := if w.saturates r then arm.markSaturated.batch else arm.batch
      overrun := hold16 (arm.overrun + 1) }
  | none => arm

/-- What a placing leaves alone of an arm. -/
theorem Arm.placed_kept (arm : Arm) (waiting : Option TrimRequest) (r : TrimRequest) :
    (arm.placed waiting r).meterG = arm.meterG ∧ (arm.placed waiting r).meterE = arm.meterE ∧
      (arm.placed waiting r).state = arm.state ∧ (arm.placed waiting r).causes = arm.causes ∧
      (arm.placed waiting r).holdTimer = arm.holdTimer := by
  cases waiting with
  | none => exact ⟨rfl, rfl, rfl, rfl, rfl⟩
  | some w => exact ⟨rfl, rfl, rfl, rfl, rfl⟩

theorem State.place_of_none {s : State} {r : TrimRequest} (h : s.waitingRequest r.arm = none) :
    s.place r = { s with arithmeticQueue := s.arithmeticQueue ++ [r] } := by
  unfold State.place
  rw [show s.arithmeticQueue.find? _ = none from h]

/-- A placing that merges: the arm's counts, then its flag (R81). -/
theorem State.place_of_some {s : State} {r w : TrimRequest} (h : s.waitingRequest r.arm = some w) :
    s.place r = State.setFlag (State.setArm
      { s with arithmeticQueue := s.arithmeticQueue.map fun q => if q.arm = r.arm then q.merge r else q } r.arm
        (·.placed (some w) r)) r.arm .trimOverrun := by
  unfold State.place
  rw [show s.arithmeticQueue.find? _ = some w from h]
  dsimp only
  cases hs : w.saturates r with
  | true =>
    rw [if_pos rfl, State.setArm_setArm]
    refine congrArg (fun t : State => t.setFlag r.arm .trimOverrun) (State.setArm_congr _ _ _ _ ?_)
    unfold Arm.placed
    dsimp only
    rw [hs]
    rfl
  | false =>
    rw [if_neg Bool.false_ne_true]
    refine congrArg (fun t : State => t.setFlag r.arm .trimOverrun) (State.setArm_congr _ _ _ _ ?_)
    unfold Arm.placed
    dsimp only
    rw [hs]
    rfl

theorem State.place_spec (s : State) (r : TrimRequest) :
    (s.place r).arm r.arm = ((s.arm r.arm).placed (s.waitingRequest r.arm) r).withFlags ((s.place r).arm r.arm).flags ∧
      s.raises (s.place r) r.arm (fun x => x = .trimOverrun ∧ (s.waitingRequest r.arm).isSome = true) ∧
      ∀ parts : Part → Bool, parts (.arm r.arm) = true → parts .arithmeticQueue = true → (∀ p, parts (.port p) = true) →
        s.changesOnly (s.place r) parts := by
  cases h : s.waitingRequest r.arm with
  | none =>
    rw [State.place_of_none h]
    refine ⟨rfl, ?_, fun parts _ hq _ => State.changesOnly_arithmeticQueue s _ hq⟩
    exact (State.raises_none (s := s) (t := { s with arithmeticQueue := s.arithmeticQueue ++ [r] }) rfl rfl).congr
      fun x => by simp
  | some w =>
    obtain ⟨q, hq⟩ : ∃ q, q = s.arithmeticQueue.map fun q => if q.arm = r.arm then q.merge r else q := ⟨_, rfl⟩
    obtain ⟨t, ht⟩ : ∃ t, t = State.setArm { s with arithmeticQueue := q } r.arm (·.placed (some w) r) := ⟨_, rfl⟩
    have run : s.place r = t.setFlag r.arm .trimOverrun := by rw [State.place_of_some h, ht, hq]
    have placed : t.arm r.arm = (s.arm r.arm).placed (some w) r := by
      rw [ht, State.arm_setArm_self]
      rfl
    have flags : (t.arm r.arm).flags = (s.arm r.arm).flags := by
      rw [placed]
      rfl
    rw [run]
    refine ⟨?_, ?_, fun parts ha hqueue hp => ?_⟩
    · rw [State.arm_setFlag_self, placed]
      rfl
    · have unflagged : s.raises t r.arm fun _ => False := State.raises_none flags (by rw [ht]; rfl)
      exact (unflagged.trans (t.raises_setFlag r.arm .trimOverrun)).congr fun x => by simp
    · refine State.changesOnly.trans ?_ (State.changesOnly_setFlag t r.arm .trimOverrun ha hp)
      rw [ht]
      exact (State.changesOnly_arithmeticQueue s q hqueue).trans (State.changesOnly_setArm _ _ _ ha)

theorem TrimRequest.merge_of_not_final (w : TrimRequest) {r : TrimRequest} (h : r.final = false) :
    w.merge r = { w with
      pulsesG := min 65535 (w.pulsesG + r.pulsesG)
      pulsesE := min 65535 (w.pulsesE + r.pulsesE)
      probeG := r.probeG
      probeE := r.probeE
      duration := w.duration + r.duration } := by
  unfold TrimRequest.merge hold16
  rw [h, Bool.or_false]

/-- In a queue that holds one request of an arm, the merge changes that one. -/
theorem map_merge_of_one {before rest : List TrimRequest} {w r : TrimRequest} (hw : w.arm = r.arm)
    (h : ∀ x ∈ before ++ rest, x.arm ≠ r.arm) :
    (before ++ w :: rest).map (fun q => if q.arm = r.arm then q.merge r else q) = before ++ w.merge r :: rest := by
  have kept (l : List TrimRequest) (hl : ∀ x ∈ l, x.arm ≠ r.arm) :
      l.map (fun q => if q.arm = r.arm then q.merge r else q) = l :=
    (List.map_congr_left fun x hx => if_neg (hl x hx)).trans (List.map_id l)
  rw [List.map_append, List.map_cons, if_pos hw, kept before fun x hx => h x (List.mem_append_left _ hx),
    kept rest fun x hx => h x (List.mem_append_right _ hx)]

theorem State.waitingRequest_of_one {s : State} {a : ArmId} {before rest : List TrimRequest} {w : TrimRequest}
    (hq : s.arithmeticQueue = before ++ w :: rest) (hw : w.arm = a) (h : ∀ x ∈ before ++ rest, x.arm ≠ a) :
    s.waitingRequest a = some w := by
  have front : before.find? (fun w => decide (w.arm = a)) = none :=
    List.find?_eq_none.mpr fun x hx => by
      rw [decide_eq_true_eq]
      exact h x (List.mem_append_left _ hx)
  unfold State.waitingRequest
  rw [hq, List.find?_append, front, Option.none_or]
  exact List.find?_cons_of_pos (p := fun w : TrimRequest => decide (w.arm = a)) (decide_eq_true hw)

/-! ## The closing of a window (R79, R83) -/

theorem State.bauTake_of_busy {s : State} (h : s.bau.isSome = true) : s.bauTake = s := by
  obtain ⟨k, hk⟩ := Option.isSome_iff_exists.mp h
  unfold State.bauTake
  rw [hk]

theorem State.bauTake_of_front {s : State} {r : TrimRequest} {rest : List TrimRequest} (hb : s.bau = none)
    (hq : s.arithmeticQueue = r :: rest) : s.bauTake = { s with bau := some ⟨r, s.now⟩, arithmeticQueue := rest } := by
  unfold State.bauTake
  rw [hb, hq]

theorem State.bauTake_eq (s : State) :
    ∃ bau queue, s.bauTake = { s with bau := bau, arithmeticQueue := queue } := by
  unfold State.bauTake
  split
  · exact ⟨_, _, rfl⟩
  · exact ⟨s.bau, s.arithmeticQueue, rfl⟩

/-- An arm whose window has closed with request `r`, but for its flags. -/
def State.windowClosed (s : State) (a : ArmId) (r : TrimRequest) : Arm :=
  ((s.arm a).handedOver s.now).placed (s.waitingRequest a) r

/-- The flags that the closing of a window raises. -/
def State.windowFlags (s : State) (a : ArmId) (x : Flag) : Prop :=
  (s.arm a).meterFaults x ∨ x = .trimOverrun ∧ (s.waitingRequest a).isSome = true

theorem State.closeWindow_spec (s : State) (a : ArmId) (duration : Nat) (final : Bool) :
    (s.closeWindow a duration final).arm a = (s.windowClosed a (s.closingRequest a duration final)).withFlags
        ((s.closeWindow a duration final).arm a).flags ∧
      s.raises (s.closeWindow a duration final) a (s.windowFlags a) ∧
      s.changesOnly (s.closeWindow a duration final) (fun q => q == .arm a || q == .arithmeticQueue || q == .bau ||
        match q with | .port _ => true | _ => false) := by
  obtain ⟨r, hr⟩ : ∃ r, r = s.closingRequest a duration final := ⟨_, rfl⟩
  have arm_r : r.arm = a := by rw [hr]; rfl
  obtain ⟨t, ht⟩ : ∃ t, t = s.handOver a := ⟨_, rfl⟩
  obtain ⟨handed, faults, only⟩ := s.handOver_spec a
  rw [← ht] at handed faults only
  obtain ⟨placed, overrun, placing⟩ := t.place_spec r
  rw [arm_r] at placed overrun placing
  obtain ⟨bau, queue, taken⟩ := (t.place r).bauTake_eq
  have closed : s.closeWindow a duration final = { t.place r with bau := bau, arithmeticQueue := queue } := by
    rw [← taken, ht, hr]
    rfl
  have waiting : t.waitingRequest a = s.waitingRequest a :=
    congrArg (List.find? _) ((only (fun q => q != .arithmeticQueue) rfl fun _ => rfl).2 .arithmeticQueue rfl)
  rw [waiting] at placed overrun
  rw [closed, ← hr]
  refine ⟨?_, ?_, ?_⟩
  · show (t.place r).arm a = (s.windowClosed a r).withFlags ((t.place r).arm a).flags
    rw [placed, handed]
    unfold State.windowClosed Arm.placed
    cases s.waitingRequest a with
    | none => rfl
    | some w => rfl
  · refine ((faults.trans overrun).trans (State.raises_none (s := t.place r)
      (t := { t.place r with bau := bau, arithmeticQueue := queue }) rfl rfl)).congr fun x => ?_
    simp [State.windowFlags]
  · refine ((only _ (by simp) fun _ => rfl).trans (placing _ (by simp) (by simp) fun _ => rfl)).trans ?_
    exact State.changesOnly_bauQueue _ bau queue (by simp) (by simp)

/-- What becomes of the queue and the BAU as a window closes, in terms of the state before. -/
theorem State.closeWindow_queue (s : State) (a : ArmId) (duration : Nat) (final : Bool) :
    let r := s.closingRequest a duration final
    ((∀ w ∈ s.arithmeticQueue, w.arm ≠ a) → s.bau.isSome = true →
      (s.closeWindow a duration final).bau = s.bau ∧
        (s.closeWindow a duration final).arithmeticQueue = s.arithmeticQueue ++ [r]) ∧
    (s.arithmeticQueue = [] → s.bau = none →
      (s.closeWindow a duration final).arithmeticQueue = [] ∧
        (s.closeWindow a duration final).bau = some ⟨r, s.now⟩) ∧
    (∀ before w rest, s.arithmeticQueue = before ++ w :: rest → w.arm = a → (∀ x ∈ before ++ rest, x.arm ≠ a) →
      s.bau.isSome = true →
      (s.closeWindow a duration final).bau = s.bau ∧
        (s.closeWindow a duration final).arithmeticQueue = before ++ w.merge r :: rest) := by
  dsimp only
  obtain ⟨r, hr⟩ : ∃ r, r = s.closingRequest a duration final := ⟨_, rfl⟩
  have arm_r : r.arm = a := by rw [hr]; rfl
  obtain ⟨-, -, only⟩ := s.handOver_spec a
  obtain ⟨t, ht⟩ : ∃ t, t = s.handOver a := ⟨_, rfl⟩
  obtain ⟨-, same⟩ := only (fun q => match q with | .arm b => b == a | .port _ => true | _ => false) (by simp) fun _ => rfl
  rw [← ht] at same
  have queue : t.arithmeticQueue = s.arithmeticQueue := same .arithmeticQueue rfl
  have bau : t.bau = s.bau := same .bau rfl
  have now : t.now = s.now := same .clock rfl
  have closed : s.closeWindow a duration final = (t.place r).bauTake := by rw [ht, hr]; rfl
  rw [closed, ← hr]
  have apart (h : ∀ w ∈ s.arithmeticQueue, w.arm ≠ a) :
      t.place r = { t with arithmeticQueue := t.arithmeticQueue ++ [r] } :=
    State.place_of_none (State.waitingRequest_eq_none_iff.mpr (by rw [queue, arm_r]; exact h))
  refine ⟨fun h hb => ?_, fun hq hb => ?_, fun before w rest hq hw h hb => ?_⟩
  · rw [apart h, State.bauTake_of_busy (by rw [← bau] at hb; exact hb)]
    exact ⟨bau, congrArg (· ++ [r]) queue⟩
  · have front : t.arithmeticQueue ++ [r] = [r] := by rw [queue, hq]; rfl
    rw [apart (by rw [hq]; exact nofun),
      State.bauTake_of_front (s := { t with arithmeticQueue := t.arithmeticQueue ++ [r] }) (bau.trans hb) front]
    exact ⟨rfl, by rw [← now]⟩
  · have one : t.waitingRequest r.arm = some w := by
      rw [arm_r]; exact State.waitingRequest_of_one (queue.trans hq) hw h
    obtain ⟨v, hv⟩ : ∃ v, v = t.place r := ⟨_, rfl⟩
    have placed := State.place_of_some one
    have bau' : v.bau = s.bau := by rw [hv, placed]; exact bau
    rw [← hv, State.bauTake_of_busy (by rw [bau']; exact hb)]
    refine ⟨bau', ?_⟩
    rw [hv, placed]
    refine Eq.trans ?_ (map_merge_of_one (hw.trans arm_r.symm) (by rw [arm_r]; exact h))
    rw [← hq, ← queue]
    rfl

/-! ## The window's expiry and the drain's -/

theorem exec_windowExpiry {s : State} {a : ArmId} {d p : Nat} (ht : (s.arm a).windowTimer = some d)
    (hp : (s.arm a).windowPeriod = some p) :
    exec (.windowExpiry a) s =
      .next (((s.reach d).closeWindow a p false).setArm a (·.startWindow (s.reach d).now p)) := by
  refine congrArg Host.Outcome.next ?_
  unfold State.windowExpires
  rw [ht, hp]

theorem exec_drainExpiry {s : State} {a : ArmId} {d : Nat} (hs : (s.arm a).state = .closing)
    (ht : (s.arm a).drainTimer = some d) :
    exec (.drainExpiry a) s =
      .next (((s.reach d).closeWindow a ((s.reach d).finalDuration a) true).setArm a Arm.drained) := by
  refine congrArg Host.Outcome.next ?_
  unfold State.drainExpires
  rw [hs, ht]

/-- What the hand-over leaves of an arm's meters, whatever it does to the arm's state. -/
theorem State.windowClosed_meter (s : State) (a : ArmId) (r : TrimRequest) (c : Component) :
    (s.windowClosed a r).meter c = ((s.arm a).meter c).handOver := by
  obtain ⟨g, e, -⟩ := Arm.placed_kept ((s.arm a).handedOver s.now) (s.waitingRequest a) r
  obtain ⟨g', e', -⟩ := Arm.takesCauseIf_kept ((s.arm a).setMeters Meter.handOver)
    ((s.arm a).meterG.faults || (s.arm a).meterE.faults) .meter s.now
  cases c with
  | gasoline => exact g.trans g'
  | ethanol => exact e.trans e'

theorem State.windowClosed_state (s : State) (a : ArmId) (r : TrimRequest) :
    (s.windowClosed a r).state = ((s.arm a).handedOver s.now).state ∧
      (s.windowClosed a r).causes = ((s.arm a).handedOver s.now).causes := by
  obtain ⟨-, -, state, causes, -⟩ := Arm.placed_kept ((s.arm a).handedOver s.now) (s.waitingRequest a) r
  exact ⟨state, causes⟩

theorem Arm.handedOver_overrun (arm : Arm) (now : Nat) : (arm.handedOver now).overrun = arm.overrun := by
  obtain ⟨-, -, overrun, -⟩ := Arm.takesCauseIf_kept (arm.setMeters Meter.handOver)
    (arm.meterG.faults || arm.meterE.faults) .meter now
  exact overrun

theorem Arm.handedOver_of_sound {arm : Arm} (now : Nat) (hg : arm.meterG.faults = false) (he : arm.meterE.faults = false) :
    arm.handedOver now = arm.setMeters Meter.handOver := by
  unfold Arm.handedOver
  rw [hg, he]
  rfl

theorem Arm.handedOver_of_fault {arm : Arm} (now : Nat) (h : arm.meterG.faults = true ∨ arm.meterE.faults = true) :
    arm.handedOver now = (arm.setMeters Meter.handOver).takesCause .meter now := by
  unfold Arm.handedOver
  rw [Bool.or_eq_true_iff.mpr h]
  rfl

theorem Arm.handedOver_of_closing {arm : Arm} (now : Nat) (h : arm.state = .closing) :
    arm.handedOver now = arm.setMeters Meter.handOver := by
  unfold Arm.handedOver Arm.takesCauseIf
  split
  · exact Arm.takesCause_of_closing (arm := arm.setMeters Meter.handOver) h .meter now
  · rfl

/-- Settles O45: what the expiry does to meters, arm and ports, and then to queue and BAU. -/
theorem windowExpiryFormsTheRequest : Obligations.WindowExpiryFormsTheRequest := by
  unfold Obligations.WindowExpiryFormsTheRequest
  refine ⟨fun a d p s ht hp => ?judged, fun a d p s ht hp => ?placed⟩
  case judged =>
    obtain ⟨armClosed, raised, only⟩ := (s.reach d).closeWindow_spec a p false
    obtain ⟨r, hr⟩ : ∃ r, r = (s.reach d).closingRequest a p false := ⟨_, rfl⟩
    obtain ⟨v, hv⟩ : ∃ v, v = (s.reach d).closeWindow a p false := ⟨_, rfl⟩
    rw [← hr, ← hv] at armClosed
    rw [← hv] at raised only
    obtain ⟨t, htt⟩ : ∃ t, t = v.setArm a (·.startWindow (s.reach d).now p) := ⟨_, rfl⟩
    have arm : t.arm a = (((s.reach d).windowClosed a r).withFlags (v.arm a).flags).startWindow (s.reach d).now p := by
      rw [htt, State.arm_setArm_self, armClosed]
      rfl
    have flags : (t.arm a).flags = (v.arm a).flags := by rw [arm]; rfl
    obtain ⟨state, causes⟩ := (s.reach d).windowClosed_state a r
    have meter (c : Component) : (t.arm a).meter c = ((s.arm a).meter c).handOver := by
      rw [arm]
      refine Eq.trans ?_ ((s.reach d).windowClosed_meter a r c)
      cases c <;> rfl
    have fault_flag (x : Flag) (h : (s.arm a).meterFaults x) : FlagSet.has (t.arm a).flags x = true := by
      rw [flags, raised.flags]
      exact .inr (.inl h)
    refine ⟨t, ?_, ?_, by rw [arm]; rfl, by rw [arm]; rfl, fun c => ?_, fun hg => ?_, fun he => ?_, fun hf hu => ?_,
      fun hg he => ?_, ?_⟩
    · rw [exec_windowExpiry ht hp, htt, hv]
    · rw [htt]
      exact only.2 .clock rfl
    · rw [meter c]
      exact Meter.handOver_spec _
    · exact fault_flag _ (.inl ⟨(Meter.faults_iff _).mpr hg, rfl⟩)
    · exact fault_flag _ (.inr ⟨(Meter.faults_iff _).mpr he, rfl⟩)
    · have held := Arm.takesCause_of_underway (arm := (s.arm a).setMeters Meter.handOver) hu .meter (s.reach d).now
      rw [← Arm.handedOver_of_fault _ (hf.imp (Meter.faults_iff _).mpr (Meter.faults_iff _).mpr)] at held
      rw [arm]
      exact ⟨by rw [← held.1]; exact congrArg ArmState.isHeld state, by rw [← held.2]; exact congrArg (HoldSet.has · _) causes⟩
    · have sound := Arm.handedOver_of_sound (arm := s.arm a) (s.reach d).now
        (Bool.eq_false_iff.mpr (mt (Meter.faults_iff _).mp hg)) (Bool.eq_false_iff.mpr (mt (Meter.faults_iff _).mp he))
      rw [arm]
      exact ⟨state.trans (by rw [show (s.reach d).arm a = s.arm a from rfl, sound]; rfl),
        causes.trans (by rw [show (s.reach d).arm a = s.arm a from rfl, sound]; rfl)⟩
    · rw [htt]
      exact ((s.changesOnly_reach d (by simp)).trans (only.mono fun q hq => by simp only [Bool.or_eq_true] at hq ⊢; tauto)).trans
        (State.changesOnly_setArm v a _ (by simp))
  case placed =>
    intro r
    obtain ⟨busy, idle, merges⟩ := (s.reach d).closeWindow_queue a p false
    obtain ⟨armClosed, raised, -⟩ := (s.reach d).closeWindow_spec a p false
    have arm : (((s.reach d).closeWindow a p false).setArm a (·.startWindow (s.reach d).now p)).arm a =
        ((((s.reach d).windowClosed a r).withFlags ((s.reach d).closeWindow a p false |>.arm a).flags).startWindow
          (s.reach d).now p) := by
      rw [State.arm_setArm_self, armClosed]
      rfl
    refine ⟨fun h hb => ?_, fun hq hb => ?_, fun before w rest hq hw h hb => ?_⟩
    · obtain ⟨bau, queue⟩ := busy h hb
      refine ⟨_, exec_windowExpiry ht hp, bau, queue, ?_⟩
      rw [arm]
      have none_waits : (s.reach d).waitingRequest a = none := State.waitingRequest_eq_none_iff.mpr h
      show ((s.reach d).windowClosed a r).overrun = _
      unfold State.windowClosed
      rw [none_waits]
      exact Arm.handedOver_overrun _ _
    · obtain ⟨queue, bau⟩ := idle hq hb
      exact ⟨_, exec_windowExpiry ht hp, queue, bau⟩
    · obtain ⟨bau, queue⟩ := merges before w rest hq hw h hb
      have one : (s.reach d).waitingRequest a = some w := State.waitingRequest_of_one hq hw h
      refine ⟨_, exec_windowExpiry ht hp, bau, ?_, ?_, ?_, fun hsat b hb => ?_⟩
      · exact queue.trans (congrArg (fun q => before ++ q :: rest) (TrimRequest.merge_of_not_final w rfl))
      · rw [arm]
        show ((s.reach d).windowClosed a r).overrun = _
        unfold State.windowClosed
        rw [one]
        exact congrArg (fun n => hold16 (n + 1)) (Arm.handedOver_overrun _ _)
      · rw [State.arm_setArm_self]
        exact (raised.flags _).mpr (.inr (.inr ⟨rfl, by rw [one]; rfl⟩))
      · rw [arm] at hb
        have saturates : w.saturates r = true := by
          unfold TrimRequest.saturates
          rw [Bool.or_eq_true, decide_eq_true_eq, decide_eq_true_eq]
          exact hsat
        have marked : (((s.arm a).handedOver (s.reach d).now).markSaturated).batch = some b := by
          rw [← hb]
          show _ = ((s.reach d).windowClosed a r).batch
          unfold State.windowClosed
          rw [one]
          unfold Arm.placed
          dsimp only
          rw [saturates]
          rfl
        obtain ⟨b', -, rfl⟩ := Option.map_eq_some_iff.mp marked
        rfl

theorem State.finalDuration_of_start {s : State} {a : ArmId} {start : Nat} (h : (s.arm a).windowStart = some start) :
    s.finalDuration a = (s.now - start) / 1000 := by
  unfold State.finalDuration
  rw [h]

theorem Arm.meter_drained (arm : Arm) (c : Component) : arm.drained.meter c = (arm.meter c).toIdleCount := by
  cases c <;> rfl

theorem State.windowFlags_iff (s : State) (a : ArmId) (x : Flag) :
    s.windowFlags a x ↔ x = .meterG ∧ (s.arm a).meterG.bad ∧ 2 ≤ (s.arm a).meterG.mismatch ∨
      x = .meterE ∧ (s.arm a).meterE.bad ∧ 2 ≤ (s.arm a).meterE.mismatch ∨
        x = .trimOverrun ∧ ∃ w ∈ s.arithmeticQueue, w.arm = a := by
  unfold State.windowFlags Arm.meterFaults
  rw [State.waitingRequest_isSome_iff, Meter.faults_iff, Meter.faults_iff]
  tauto

/-- Settles O46: the final window closes as any window does, and the arm then drains. -/
theorem drainExpiryClosesTheFinalWindow : Obligations.DrainExpiryClosesTheFinalWindow := by
  unfold Obligations.DrainExpiryClosesTheFinalWindow
  intro a d start s hs hd hstart now r bad merged raised
  have duration : (s.reach d).finalDuration a = (now - start) / 1000 := State.finalDuration_of_start hstart
  obtain ⟨busy, idle, merges⟩ := (s.reach d).closeWindow_queue a ((now - start) / 1000) true
  obtain ⟨armClosed, flagged, only⟩ := (s.reach d).closeWindow_spec a ((now - start) / 1000) true
  obtain ⟨v, hv⟩ : ∃ v, v = (s.reach d).closeWindow a ((now - start) / 1000) true := ⟨_, rfl⟩
  rw [← hv] at armClosed flagged only busy idle merges
  obtain ⟨t, ht⟩ : ∃ t, t = v.setArm a Arm.drained := ⟨_, rfl⟩
  have handed : (s.reach d).windowClosed a r = ((s.arm a).setMeters Meter.handOver).placed ((s.reach d).waitingRequest a) r :=
    congrArg (fun arm : Arm => arm.placed ((s.reach d).waitingRequest a) r) (Arm.handedOver_of_closing _ hs)
  have arm : t.arm a = (((((s.arm a).setMeters Meter.handOver).placed ((s.reach d).waitingRequest a) r)).withFlags
      (v.arm a).flags).drained := by
    rw [ht, State.arm_setArm_self, armClosed, ← handed]
    rfl
  obtain ⟨-, -, state, causes, holdTimer⟩ :=
    Arm.placed_kept ((s.arm a).setMeters Meter.handOver) ((s.reach d).waitingRequest a) r
  have meter (c : Component) : (t.arm a).meter c = ((s.arm a).meter c).handOver.toIdleCount := by
    rw [arm, Arm.meter_drained]
    refine congrArg Meter.toIdleCount (Eq.trans ?_ ((s.reach d).windowClosed_meter a r c))
    rw [handed]
    cases c <;> rfl
  have waits : ((s.reach d).waitingRequest a).isSome = true ↔ merged := State.waitingRequest_isSome_iff
  have raises : s.raises t a raised := by
    have before : s.raises (s.reach d) a fun _ => False := State.raises_none rfl rfl
    have after : v.raises t a fun _ => False := ht ▸ v.raises_setArm a Arm.drained fun _ => rfl
    refine ((before.trans flagged).trans after).congr fun x => ?_
    rw [false_or, or_false]
    exact State.windowFlags_iff (s.reach d) a x
  refine ⟨t, ?_, ?_, ?_, by rw [arm]; rfl, by rw [arm]; rfl, by rw [arm]; rfl, fun c => ?_, ?_, ?_, raises.flags,
    fun p => ⟨raises.ports p, raises.seen p⟩, fun h => ?_, fun h => ?_, fun h hb => ?_, fun hq hb => ?_,
    fun before w rest hq hw h hb => ?_, ?_⟩
  case refine_1 => rw [exec_drainExpiry hs hd, duration, ht, hv]
  case refine_2 => rw [ht]; exact only.2 .clock rfl
  case refine_3 => rw [arm]; exact state.trans hs
  case refine_4 =>
    obtain ⟨zeroA, zeroB, clean, third, early⟩ := Meter.handOver_spec ((s.arm a).meter c)
    rw [meter c]
    exact ⟨rfl, rfl, zeroA, zeroB, rfl, clean, third, early⟩
  case refine_5 => rw [arm]; exact causes
  case refine_6 => rw [arm]; exact holdTimer
  case refine_7 =>
    rw [arm, Option.not_isSome_iff_eq_none.mp (mt waits.mp h)]
    exact ⟨rfl, rfl⟩
  case refine_8 =>
    obtain ⟨w, hw⟩ := Option.isSome_iff_exists.mp (waits.mpr h)
    rw [arm, hw]
    rfl
  case refine_9 => rw [ht]; exact busy h hb
  case refine_10 => rw [ht]; exact idle hq hb
  case refine_11 =>
    rw [ht]
    exact ⟨(merges before w rest hq hw h hb).2, Bool.or_true _⟩
  case refine_12 =>
    rw [ht]
    exact ((s.changesOnly_reach d (by simp)).trans (only.mono fun q hq => by simp only [Bool.or_eq_true] at hq ⊢; tauto)).trans
      (State.changesOnly_setArm v a _ (by simp))

end Sys2Proof.Machine
end

section
/-! PROOFS. The stroke cycle, and the close of an arm. -/

namespace Sys2Proof.Machine
open Sys2Proof

/-! ## What a command may change of lanes and store -/

theorem State.changesOnly_setLane (s : State) (l : LaneId) (f : Lane → Lane) {parts : Part → Bool}
    (hl : parts (.lane l) = true) : s.changesOnly (s.setLane l f) parts := by
  refine ⟨rfl, fun q hout => ?_⟩
  cases q with
  | lane m =>
    exact State.lane_setLane_of_ne s f fun e => Bool.false_ne_true ((hout.symm.trans (congrArg (fun l => parts (.lane l)) e)).trans hl)
  | _ => rfl

theorem State.changesOnly_storeOps (s : State) (queue : List QueuedOp) (current : Option CurrentOp)
    (walks : List WalkEntry) {parts : Part → Bool} (hq : parts .storeQueue = true) (hc : parts .current = true)
    (hw : parts .walks = true) :
    s.changesOnly { s with storeQueue := queue, current := current, walks := walks } parts := by
  refine ⟨rfl, fun q hout => ?_⟩
  cases q with
  | storeQueue => exact absurd (hout.symm.trans hq) Bool.false_ne_true
  | current => exact absurd (hout.symm.trans hc) Bool.false_ne_true
  | walks => exact absurd (hout.symm.trans hw) Bool.false_ne_true
  | _ => rfl

/-- An operation asked for waits or is the current one. -/
theorem State.askOp_asked (s : State) (op : StoreOp) (h : s.restartPending = false) :
    ∃ queue current walks, s.askOp op = { s with storeQueue := queue, current := current, walks := walks } ∧
      (⟨op, false⟩ ∈ queue ∨ current.map (·.op) = some op) := by
  have asked : (⟨op, false⟩ : QueuedOp) ∈ s.storeQueue ++ [⟨op, false⟩] := by simp
  rcases State.advanceStore_cases { s with storeQueue := s.storeQueue ++ [⟨op, false⟩] } with
    he | ⟨hr, -⟩ | ⟨w, rest, -, -, hq, -, he⟩
  · exact ⟨_, _, _, he, .inl asked⟩
  · rw [show s.restartPending = true from hr] at h
    cases h
  · refine ⟨rest, some ⟨w.op, s.now, none⟩, markCurrent w.op s.walks, he, ?_⟩
    rw [show s.storeQueue ++ [⟨op, false⟩] = w :: rest from hq] at asked
    rcases List.mem_cons.mp asked with hw | hw
    · exact .inr (by rw [← hw]; rfl)
    · exact .inl hw

/-! ## The close of an arm (R47, R157) -/

/-- A close posts the record, asks for its CLOSE and leaves the arm IDLE; nothing else changes. -/
theorem State.close_spec (s : State) (a : ArmId) (r : BatchRecord) (h : s.restartPending = false) :
    ∃ queue current walks,
      s.close a r = State.setArm { s.setLane (laneOf a) (·.post r) with
        storeQueue := queue, current := current, walks := walks } a Arm.toIdle ∧
      (⟨.close a s.lanes[laneOf a].freeSlot (s.lanes[laneOf a].posting r).record (s.arm a).figures, false⟩ ∈ queue ∨
        current.map (·.op) =
          some (.close a s.lanes[laneOf a].freeSlot (s.lanes[laneOf a].posting r).record (s.arm a).figures)) := by
  obtain ⟨queue, current, walks, run, asked⟩ := State.askOp_asked (s.setLane (laneOf a) (·.post r))
    (.close a s.lanes[laneOf a].freeSlot (s.lanes[laneOf a].posting r).record (s.arm a).figures) h
  exact ⟨queue, current, walks, congrArg (fun t : State => t.setArm a Arm.toIdle) run, asked⟩

theorem State.changesOnly_close {s : State} (a : ArmId) (r : BatchRecord) (h : s.restartPending = false)
    {parts : Part → Bool} (ha : parts (.arm a) = true) (hl : parts (.lane (laneOf a)) = true)
    (hq : parts .storeQueue = true) (hc : parts .current = true) (hw : parts .walks = true) :
    s.changesOnly (s.close a r) parts := by
  obtain ⟨queue, current, walks, run, -⟩ := s.close_spec a r h
  rw [run]
  exact ((s.changesOnly_setLane (laneOf a) _ hl).trans
    (State.changesOnly_storeOps _ queue current walks hq hc hw)).trans (State.changesOnly_setArm _ a _ ha)

/-- A CLOSING arm's batch is complete: its final computation is done and every slot is READY (R47). -/
def Arm.complete (arm : Arm) : Prop :=
  arm.state = .closing ∧ arm.finalDone = true ∧ ∀ i : SlotId, arm.slots[i].phase = .ready

theorem State.tryClose_of_incomplete {s : State} {a : ArmId} (h : ¬ (s.arm a).complete) : s.tryClose a = s := by
  unfold State.tryClose
  dsimp only
  rw [if_neg]
  rw [Arm.slotsReady_iff]
  exact h

theorem State.tryClose_of_complete {s : State} {a : ArmId} {b : Batch} {snap : Snapshot} {c : ArmConfig}
    (h : (s.arm a).complete) (hb : (s.arm a).batch = some b) (hs : b.snapshot = some snap)
    (hc : (s.arm a).config = some c) : s.tryClose a = s.close a ((s.arm a).record a b snap c) := by
  have snapshot : (s.arm a).snapshot = some snap := by unfold Arm.snapshot; rw [hb]; exact hs
  unfold State.tryClose
  dsimp only
  rw [if_pos (by rw [Arm.slotsReady_iff]; exact h), hb, snapshot, hc]

/-! ## The end of a stroke's cycle (R128) -/

theorem State.cycleEnds_of_due {s : State} {a : ArmId} {i : SlotId} {c : ArmConfig} {snap : Snapshot}
    (hc : (s.arm a).config = some c) (hs : (s.arm a).snapshot = some snap)
    (h : (s.arm a).strokeDue s.inService c snap i) :
    s.cycleEnds a i = s.setArm a (·.setSlot i fun x => x.struck c.slots[i] s.now) := by
  have strikes : s.tryStroke a i = s.setArm a (·.setSlot i fun x => x.struck c.slots[i] s.now) := by
    rw [State.tryStroke_eq, (State.strokeTried_spec i hc hs).1 h]
    exact State.setArm_congr s a _ _ rfl
  unfold State.cycleEnds
  rw [strikes]
  refine State.tryClose_of_incomplete ?_
  rintro ⟨-, -, ready⟩
  have phase := ready i
  rw [State.arm_setArm_self] at phase
  simp [Arm.setSlot, Slot.struck] at phase

theorem State.tryStroke_of_not_due {s : State} {a : ArmId} {i : SlotId} (h : s.canStroke a i = false) :
    s.tryStroke a i = s := by
  unfold State.tryStroke
  rw [h]

theorem State.canStroke_of_not_due {s : State} {a : ArmId} {i : SlotId} {c : ArmConfig} {snap : Snapshot}
    (hc : (s.arm a).config = some c) (hs : (s.arm a).snapshot = some snap)
    (h : ¬ (s.arm a).strokeDue s.inService c snap i) : s.canStroke a i = false :=
  Bool.eq_false_iff.mpr (mt (State.canStroke_iff i hc hs).mp h)

theorem State.canStroke_of_held {s : State} {a : ArmId} (i : SlotId) (h : (s.arm a).state.isHeld = true) :
    s.canStroke a i = false := by
  have closed : (s.arm a).strokesAllowed = false := by
    unfold Arm.strokesAllowed
    cases hs : (s.arm a).state <;> rw [hs] at h <;> first | rfl | cases h
  unfold State.canStroke
  rw [closed]
  split <;> simp

theorem State.cycleEnds_of_incomplete {s : State} {a : ArmId} {i : SlotId} (h : s.canStroke a i = false)
    (hc : ¬ (s.arm a).complete) : s.cycleEnds a i = s := by
  unfold State.cycleEnds
  rw [State.tryStroke_of_not_due h, State.tryClose_of_incomplete hc]

theorem State.cycleEnds_of_complete {s : State} {a : ArmId} {i : SlotId} {b : Batch} {snap : Snapshot} {c : ArmConfig}
    (h : s.canStroke a i = false) (hd : (s.arm a).complete) (hb : (s.arm a).batch = some b)
    (hs : b.snapshot = some snap) (hc : (s.arm a).config = some c) :
    s.cycleEnds a i = s.close a ((s.arm a).record a b snap c) := by
  unfold State.cycleEnds
  rw [State.tryStroke_of_not_due h, State.tryClose_of_complete hd hb hs hc]

theorem Arm.getElem_setSlot_self (arm : Arm) (i : SlotId) (f : Slot → Slot) : (arm.setSlot i f).slots[i] = f arm.slots[i] := by
  simp [Arm.setSlot]

theorem Arm.getElem_setSlot_of_ne (arm : Arm) {i j : SlotId} (f : Slot → Slot) (h : j ≠ i) :
    (arm.setSlot i f).slots[j] = arm.slots[j] :=
  Vector.getElem_set_ne i.isLt j.isLt fun e => h (Fin.ext e.symm)

/-- With slot `i` READY, a CLOSING arm is complete when its final computation is done and its other slots are READY. -/
theorem Arm.complete_setSlot_iff (arm : Arm) {i : SlotId} {x : Slot} (hx : x.phase = .ready) :
    (arm.setSlot i fun _ => x).complete ↔
      arm.state = .closing ∧ arm.finalDone = true ∧ ∀ j : SlotId, j ≠ i → arm.slots[j].phase = .ready := by
  refine and_congr_right fun _ => and_congr_right fun _ => ⟨fun h j hj => ?_, fun h j => ?_⟩
  · rw [← Arm.getElem_setSlot_of_ne arm (fun _ => x) hj]
    exact h j
  · by_cases hj : j = i
    · rw [hj, Arm.getElem_setSlot_self]
      exact hx
    · rw [Arm.getElem_setSlot_of_ne arm _ hj]
      exact h j hj

/-! ## Verified and missed strokes (R129 to R132) -/

theorem Arm.limitReached_iff {arm : Arm} {i : SlotId} {snap : Snapshot} (h : arm.snapshot = some snap) :
    arm.limitReached i = true ↔ snap.params.missLimit ≤ arm.slots[i].consecutive + 1 := by
  unfold Arm.limitReached Arm.missLimit
  rw [h, decide_eq_true_eq]
  rfl

theorem Slot.miss_of_reached (slot : Slot) :
    slot.miss true = { slot with missed := slot.missed + 1, consecutive := 0, verifyTimer := none } := rfl

theorem Slot.miss_of_below (slot : Slot) :
    slot.miss false = { slot with missed := slot.missed + 1, consecutive := slot.consecutive + 1, verifyTimer := none } := rfl

theorem Arm.takesCauseIf_of_not_underway {arm : Arm} (h : arm.state.underway = false) (b : Bool) (c : HoldCause) (now : Nat) :
    arm.takesCauseIf b c now = arm := by
  cases b with
  | true => exact Arm.takesCause_of_not_underway h c now
  | false => rfl

/-- An arm with other slots takes a hold cause as it would with its own. -/
theorem Arm.takesCauseIf_withSlots (arm : Arm) (slots : Vector Slot 3) (b : Bool) (c : HoldCause) (now : Nat) :
    ({ arm with slots := slots } : Arm).takesCauseIf b c now = { arm.takesCauseIf b c now with slots := slots } := by
  cases b with
  | true => obtain ⟨state⟩ := arm; cases state <;> rfl
  | false => rfl

/-- An injector fault of an arm: its flag, and the hold cause where the snapshot asks for it (R132). -/
theorem State.injectorFault_spec {s : State} {a : ArmId} {snap : Snapshot} (hs : (s.arm a).snapshot = some snap) :
    (s.injectorFault a).arm a = ((s.arm a).takesCauseIf (decide (snap.faultAction = .hold)) .additive s.now).withFlags
        (FlagSet.add (s.arm a).flags .additive) ∧
      s.changesOnly (s.injectorFault a) (fun q => q == .arm a || match q with | .port _ => true | _ => false) := by
  have run : s.injectorFault a =
      (s.setFlag a .additive).setArm a (·.takesCauseIf (decide (snap.faultAction = .hold)) .additive s.now) := by
    have action : decide (((s.setFlag a .additive).arm a).snapshot.map (·.faultAction) = some .hold) =
        decide (snap.faultAction = .hold) := by
      have snapshot : ((s.setFlag a .additive).arm a).snapshot = some snap := by rw [State.arm_setFlag_self]; exact hs
      rw [snapshot]
      simp
    unfold State.injectorFault
    dsimp only
    rw [State.addCauseIf_eq, action]
    rfl
  rw [run]
  refine ⟨?_, (State.changesOnly_setFlag s a .additive (by simp) fun _ => rfl).trans (State.changesOnly_setArm _ a _ (by simp))⟩
  rw [State.arm_setArm_self, State.arm_setFlag_self]
  exact Arm.takesCauseIf_withFlags (s.arm a) _ _ _ _

theorem Arm.takesCauseIf_of_not (arm : Arm) {p : Prop} [Decidable p] (c : HoldCause) (now : Nat)
    (h : ¬ (p ∧ arm.state.underway = true)) : arm.takesCauseIf (decide p) c now = arm := by
  by_cases hp : p
  · exact Arm.takesCauseIf_of_not_underway (Bool.eq_false_iff.mpr fun hu => h ⟨hp, hu⟩) _ c now
  · rw [decide_eq_false hp]
    rfl

theorem exec_verifyTimeout_of_stroking {s : State} {a : ArmId} {i : SlotId} {d : Nat}
    (hp : (s.arm a).slots[i].phase = .stroking .unresolved) (hd : (s.arm a).slots[i].verifyTimer = some d) :
    exec (.verifyTimeout a i) s = .next (((s.reach d).setArm a (·.setSlot i fun x =>
      { x.miss ((s.arm a).limitReached i) with phase := .stroking .missed })).injectorFaultIf
        ((s.arm a).limitReached i) a) := by
  refine congrArg Host.Outcome.next ?_
  unfold State.verifyExpires
  dsimp only
  rw [hp, hd]

theorem exec_verifyTimeout_of_awaiting {s : State} {a : ArmId} {i : SlotId} {d : Nat}
    (hp : (s.arm a).slots[i].phase = .awaitVerify) (hd : (s.arm a).slots[i].verifyTimer = some d) :
    exec (.verifyTimeout a i) s = .next ((((s.reach d).setArm a (·.setSlot i fun x =>
      (x.miss ((s.arm a).limitReached i)).toReady)).injectorFaultIf ((s.arm a).limitReached i) a).cycleEnds a i) := by
  refine congrArg Host.Outcome.next ?_
  unfold State.verifyExpires
  dsimp only
  rw [hp, hd]

theorem exec_pulseEnd_of_resolved {s : State} {a : ArmId} {i : SlotId} {d : Nat} {o : StrokeOutcome}
    (hp : (s.arm a).slots[i].phase = .stroking o) (ho : o ≠ .unresolved) (hd : (s.arm a).slots[i].pulseTimer = some d) :
    exec (.pulseEnd a i) s = .next (((s.reach d).setArm a (·.setSlot i Slot.toReady)).cycleEnds a i) := by
  refine congrArg Host.Outcome.next ?_
  unfold State.pulseEnds
  rw [hp, hd]
  cases o with
  | unresolved => exact absurd rfl ho
  | verified => rfl
  | missed => rfl

theorem exec_verifyEdge_of_awaiting {s : State} {a : ArmId} {i : SlotId} (hp : (s.arm a).slots[i].phase = .awaitVerify) :
    exec (.verifyEdge a i) s = .next ((s.setArm a (·.setSlot i fun x => x.verify.toReady)).cycleEnds a i) := by
  refine congrArg Host.Outcome.next ?_
  unfold State.verifyEdge
  rw [hp]

/-- A missed stroke at the limit: the slot as given, and the injector fault. -/
theorem State.faulted_spec {s : State} {a : ArmId} {i : SlotId} {d : Nat} {x : Slot} {snap : Snapshot}
    (hs : (s.arm a).snapshot = some snap) :
    let t := State.injectorFault ((s.reach d).setArm a (·.setSlot i fun _ => x)) a
    t.arm a = { (s.arm a).takesCauseIf (decide (snap.faultAction = .hold)) .additive (max s.now d) with
        flags := FlagSet.add (s.arm a).flags .additive, slots := (s.arm a).slots.set i x } ∧
      t.now = max s.now d ∧ t.inService = s.inService ∧ t.restartPending = s.restartPending := by
  obtain ⟨v, hv⟩ : ∃ v, v = (s.reach d).setArm a (·.setSlot i fun _ => x) := ⟨_, rfl⟩
  have armSet : v.arm a = { s.arm a with slots := (s.arm a).slots.set i x } := by
    rw [hv, State.arm_setArm_self]
    rfl
  obtain ⟨arm, -, same⟩ := State.injectorFault_spec (s := v) (a := a) (snap := snap) (by rw [armSet]; exact hs)
  dsimp only
  rw [← hv]
  refine ⟨?_, (same .clock rfl).trans (by rw [hv]; rfl), (same .inService rfl).trans (by rw [hv]; rfl),
    (same .restartPending rfl).trans (by rw [hv]; rfl)⟩
  rw [arm, armSet, Arm.takesCauseIf_withSlots, show v.now = max s.now d by rw [hv]; rfl]
  rfl

/-- A slot changed by a function is the slot set to that function's value. -/
theorem State.setSlot_congr {s : State} {a : ArmId} {i : SlotId} {f : Slot → Slot} {x : Slot}
    (h : f (s.arm a).slots[i] = x) : s.setArm a (·.setSlot i f) = s.setArm a (·.setSlot i fun _ => x) := by
  refine State.setArm_congr s a _ _ ?_
  unfold Arm.setSlot
  rw [h]

/-- Settles O52: a stroke's outcome, a fault at the miss limit, and the end of the cycle. -/
theorem strokesRunTheirCycle : Obligations.StrokesRunTheirCycle := by
  unfold Obligations.StrokesRunTheirCycle
  refine ⟨?_, ?_, ?_⟩
  case refine_1 =>
    intro a i s slot hp
    refine ⟨?edge, fun d hd => ?pulse, fun d snap hd hs hmiss => ?timeout⟩
    case edge =>
      refine congrArg Host.Outcome.next ?_
      unfold State.verifyEdge
      rw [show (s.arm a).slots[i].phase = _ from hp]
      rfl
    case pulse =>
      refine congrArg Host.Outcome.next ?_
      unfold State.pulseEnds
      rw [show (s.arm a).slots[i].phase = _ from hp, show (s.arm a).slots[i].pulseTimer = _ from hd]
      rfl
    case timeout =>
      have below : (s.arm a).limitReached i = false :=
        Bool.eq_false_iff.mpr fun h => absurd ((Arm.limitReached_iff hs).mp h) (Nat.not_le.mpr hmiss)
      rw [exec_verifyTimeout_of_stroking hp hd, below]
      rfl
  case refine_2 =>
    intro a i d b snap config s slot hp hd hb hs hc hlimit hrestart now held counted ended starts complete
    have snapshot : (s.arm a).snapshot = some snap := by unfold Arm.snapshot; rw [hb]; exact hs
    have reached : (s.arm a).limitReached i = true := (Arm.limitReached_iff snapshot).mpr hlimit
    obtain ⟨H, hH⟩ : ∃ H, H = (s.arm a).takesCauseIf (decide (snap.faultAction = .hold)) .additive now := ⟨_, rfl⟩
    have unheld (h : ¬ held) : H = s.arm a := hH.trans (Arm.takesCauseIf_of_not _ _ _ h)
    have isHeld (h : held) : H = (s.arm a).takesCause .additive now := by
      rw [hH, decide_eq_true h.1]; rfl
    have not_closing (h : held) : (s.arm a).state ≠ .closing := fun e => by
      have underway := h.2
      rw [e] at underway
      cases underway
    have key : ∃ (t : State) (y : Slot), exec (.verifyTimeout a i) s = .next t ∧ t.now = now ∧
        (t.arm a).slots = (s.arm a).slots.set i y ∧ (t.arm a).flags = FlagSet.add (s.arm a).flags .additive ∧
        (starts ∨ ¬ complete → t.arm a = { H with flags := (t.arm a).flags, slots := (t.arm a).slots }) ∧
        (¬ starts → complete → (t.arm a).state = .idle ∧ (t.arm a).batch = none) ∧
        (slot.phase = .stroking .unresolved → y = { counted with phase := .stroking .missed }) ∧
        (slot.phase = .awaitVerify → starts → y = ended.struck config.slots[i] now) ∧
        (slot.phase = .awaitVerify → ¬ starts → y = ended) := by
      rcases hp with hp | hp
      · obtain ⟨arm, hnow, -, -⟩ := State.faulted_spec (i := i) (d := d) (x := { counted with phase := .stroking .missed }) snapshot
        refine ⟨_, { counted with phase := .stroking .missed }, ?_, hnow, by rw [arm], by rw [arm], fun _ => ?_, fun _ hcomplete => ?_,
          fun _ => rfl, fun h => ?_, fun h => ?_⟩
        · rw [exec_verifyTimeout_of_stroking hp hd, reached, State.setSlot_congr (s := s.reach d) rfl]
          rfl
        · rw [arm, hH]
        · exact absurd (hp.symm.trans hcomplete.1) nofun
        · exact absurd (hp.symm.trans h) nofun
        · exact absurd (hp.symm.trans h) nofun
      · obtain ⟨arm, hnow, service, restart⟩ := State.faulted_spec (i := i) (d := d) (x := ended) snapshot
        obtain ⟨u, hu⟩ : ∃ u, u = State.injectorFault ((s.reach d).setArm a (·.setSlot i fun _ => ended)) a := ⟨_, rfl⟩
        rw [← hu] at arm hnow service restart
        rw [← hH] at arm
        have run : exec (.verifyTimeout a i) s = .next (u.cycleEnds a i) := by
          rw [exec_verifyTimeout_of_awaiting hp hd, reached, State.setSlot_congr (s := s.reach d) rfl, hu]
          rfl
        by_cases h : held
        · obtain ⟨inHeld, -⟩ := Arm.takesCause_of_underway h.2 .additive now
          have inHeld' : (u.arm a).state.isHeld = true := by rw [arm, isHeld h]; exact inHeld
          have incomplete : ¬ (u.arm a).complete := fun hdone => by
            rw [hdone.1] at inHeld'
            cases inHeld'
          rw [State.cycleEnds_of_incomplete (State.canStroke_of_held i inHeld') incomplete] at run
          refine ⟨u, ended, run, hnow, by rw [arm], by rw [arm], fun _ => by rw [arm],
            fun _ hcomplete => absurd hcomplete.2.1 (not_closing h), fun hs => absurd (hs.symm.trans hp) nofun,
            fun _ hst => absurd h hst.1, fun _ _ => rfl⟩
        · rw [unheld h] at arm
          have config' : (u.arm a).config = some config := by rw [arm]; exact hc
          have batch' : (u.arm a).batch = some b := by rw [arm]; exact hb
          have snapshot' : (u.arm a).snapshot = some snap := by rw [arm]; exact snapshot
          have due_iff : (u.arm a).strokeDue u.inService config snap i ↔ starts := by
            rw [arm, service]
            exact ⟨fun hdue => ⟨h, hdue⟩, fun hst => hst.2⟩
          have complete_iff : (u.arm a).complete ↔ complete := by
            rw [arm]
            exact (Arm.complete_setSlot_iff (s.arm a) (x := ended) rfl).trans ⟨fun hdone => ⟨hp, hdone⟩, fun hdone => hdone.2⟩
          by_cases hst : starts
          · rw [State.cycleEnds_of_due config' snapshot' (due_iff.mpr hst)] at run
            refine ⟨_, ended.struck config.slots[i] now, run, hnow, ?_, ?_, fun _ => ?_, fun hno => absurd hst hno,
              fun hs => absurd (hs.symm.trans hp) nofun, fun _ _ => rfl, fun _ hno => absurd hst hno⟩
            all_goals rw [State.arm_setArm_self, arm]
            · simp [Arm.setSlot, show u.now = now from hnow]
            · rfl
            · rw [unheld h]
              rfl
          · have stands := State.canStroke_of_not_due config' snapshot' (mt due_iff.mp hst)
            by_cases hdone : complete
            · have hrest : u.restartPending = false :=
                restart.trans (hrestart.resolve_left (not_not.mpr hdone.2.1))
              rw [State.cycleEnds_of_complete stands (complete_iff.mpr hdone) batch' hs config'] at run
              obtain ⟨queue, current, walks, closed, -⟩ := u.close_spec a ((u.arm a).record a b snap config) hrest
              have armClosed : (u.close a ((u.arm a).record a b snap config)).arm a = (u.arm a).toIdle := by
                rw [closed, State.arm_setArm_self]
                rfl
              refine ⟨_, ended, run, by rw [closed]; exact hnow, by rw [armClosed, arm]; rfl, by rw [armClosed, arm]; rfl,
                fun hor => absurd hor (not_or.mpr ⟨hst, not_not.mpr hdone⟩), fun _ _ => by rw [armClosed]; exact ⟨rfl, rfl⟩,
                fun hs => absurd (hs.symm.trans hp) nofun, fun _ hs => absurd hs hst, fun _ _ => rfl⟩
            · rw [State.cycleEnds_of_incomplete stands (mt complete_iff.mp hdone)] at run
              exact ⟨u, ended, run, hnow, by rw [arm], by rw [arm], fun _ => by rw [arm, unheld h], fun _ hd => absurd hd hdone,
                fun hs => absurd (hs.symm.trans hp) nofun, fun _ hs => absurd hs hst, fun _ _ => rfl⟩
    obtain ⟨t, y, run, hnow, hslots, hflags, stays, closes, missed, struck, finished⟩ := key
    have self : (t.arm a).slots[i] = y := by rw [hslots]; simp
    refine ⟨t, run, hnow, fun j hj => ?_, fun h => self.trans (missed h), fun h hst => self.trans (struck h hst),
      fun h hst => self.trans (finished h hst), hflags, fun h => ?_, fun h hst => ?_, closes⟩
    · rw [hslots]
      exact Vector.getElem_set_ne i.isLt j.isLt fun e => hj (Fin.ext e.symm)
    · rw [← isHeld h]
      exact stays (.inr fun hcomplete => not_closing h hcomplete.2.1)
    · rw [← unheld h]
      exact stays hst
  case refine_3 =>
    intro a i b snap config s c now ended hb hs hc slot hcase idle starts complete
    have run : exec c s = .next (idle.cycleEnds a i) := by
      rcases hcase with ⟨rfl, ⟨d, o, hp, ho, hd, rfl⟩, rfl⟩ | ⟨rfl, hp, rfl, rfl⟩ | ⟨rfl, hp, ⟨d, hd, rfl⟩, hmiss, rfl⟩
      · rw [exec_pulseEnd_of_resolved hp ho hd, State.setSlot_congr (s := s.reach d) rfl]
        rfl
      · rw [exec_verifyEdge_of_awaiting hp, State.setSlot_congr (s := s) rfl]
        rfl
      · have snapshot : (s.arm a).snapshot = some snap := by unfold Arm.snapshot; rw [hb]; exact hs
        have below : (s.arm a).limitReached i = false :=
          Bool.eq_false_iff.mpr fun h => absurd ((Arm.limitReached_iff snapshot).mp h) (Nat.not_le.mpr hmiss)
        rw [exec_verifyTimeout_of_awaiting hp hd, below, State.setSlot_congr (s := s.reach d) rfl]
        rfl
    have arm : idle.arm a = (s.arm a).setSlot i fun _ => ended := State.arm_setArm_self _ a _
    have ready : ended.phase = .ready := by
      rcases hcase with ⟨-, -, rfl⟩ | ⟨-, -, -, rfl⟩ | ⟨-, -, -, -, rfl⟩ <;> rfl
    have batch' : (idle.arm a).batch = some b := by rw [arm]; exact hb
    have config' : (idle.arm a).config = some config := by rw [arm]; exact hc
    have snapshot' : (idle.arm a).snapshot = some snap := by unfold Arm.snapshot; rw [batch']; exact hs
    have complete_iff : (idle.arm a).complete ↔ complete := by rw [arm]; exact Arm.complete_setSlot_iff _ ready
    refine ⟨fun h => ?_, fun h hi => ?_, ?_⟩
    · rw [run, State.cycleEnds_of_due config' snapshot' h]
      rfl
    · rw [run, State.cycleEnds_of_incomplete (State.canStroke_of_not_due config' snapshot' h) (mt complete_iff.mp hi)]
    · intro h hd hrestart lane
      rw [run, State.cycleEnds_of_complete (State.canStroke_of_not_due config' snapshot' h) (complete_iff.mpr hd) batch' hs
        config']
      obtain ⟨rec, hrec⟩ : ∃ rec, rec = (idle.arm a).record a b snap config := ⟨_, rfl⟩
      obtain ⟨queue, current, walks, closed, asked⟩ := idle.close_spec a rec hrestart
      have only : s.changesOnly (idle.close a rec) fun q => q == .clock || q == .arm a || q == .lane (laneOf a) ||
          q == .storeQueue || q == .current || q == .walks := by
        refine State.changesOnly.trans (t := idle) ?_ (State.changesOnly_close (s := idle) a rec hrestart (by simp) (by simp) (by simp)
          (by simp) (by simp))
        refine State.changesOnly.trans (t := { s with now := now }) ⟨rfl, fun q hq => ?_⟩ (State.changesOnly_setArm _ a _ (by simp))
        cases q with
        | clock => cases hq
        | _ => rfl
      have armClosed : (idle.close a rec).arm a = (idle.arm a).toIdle := by
        rw [closed, State.arm_setArm_self]
        rfl
      have laneClosed : (idle.close a rec).lanes[laneOf a] = lane.post rec := by
        rw [closed]
        exact State.lane_setLane_self idle (laneOf a) fun l => l.post rec
      rw [← hrec]
      refine ⟨idle.close a rec, (lane.posting rec).record, (idle.arm a).figures, rfl, by rw [closed]; rfl,
        by rw [armClosed]; rfl, by rw [armClosed]; rfl, by rw [armClosed]; rfl, by rw [armClosed, arm]; rfl, laneClosed, rfl,
        by rw [hrec]; rfl, by rw [hrec]; rfl, by rw [hrec]; rfl, by rw [hrec]; rfl, by rw [hrec]; rfl, by rw [hrec]; rfl,
        by rw [hrec]; rfl, by rw [hrec]; rfl, by rw [arm]; rfl, ?_, only⟩
      rw [closed]
      exact asked

end Sys2Proof.Machine
end

section
/-! PROOFS. The bus item by item, and the custody operations. -/

namespace Sys2Proof.Machine
open Sys2Proof

/-! ## The bus, item by item (R89) -/

theorem Bus.read_sound {α : Type} (st : Store) (n : Nat) (view : Option StoreCell → Option α) (at' : Nat) :
    (⟨st, n, none, none⟩ : Bus).read view at' = (view (Store.read st at'), ⟨st, n + 1, none, none⟩) := rfl

theorem Bus.write_sound (st : Store) (n at' : Nat) (c : StoreItem) :
    (⟨st, n, none, none⟩ : Bus).write at' c = (true, ⟨Store.save st at' c, n + 1, none, none⟩) := rfl

theorem Bus.failure_here (st : Store) (n : Nat) (shows : ReadBack) :
    (⟨st, n, some ⟨n, shows⟩, none⟩ : Bus).failure = some shows := if_pos rfl

theorem Bus.failure_later (st : Store) {n i : Nat} (shows : ReadBack) (h : i ≠ n) :
    (⟨st, n, some ⟨i, shows⟩, none⟩ : Bus).failure = none := if_neg h

theorem Bus.read_failing {α : Type} (st : Store) (n : Nat) (shows : ReadBack) (view : Option StoreCell → Option α)
    (at' : Nat) : (⟨st, n, some ⟨n, shows⟩, none⟩ : Bus).read view at' = (none, ⟨st, n + 1, some ⟨n, shows⟩, none⟩) := by
  unfold Bus.read
  rw [Bus.failure_here]
  rfl

theorem Bus.read_before {α : Type} (st : Store) {n i : Nat} (shows : ReadBack) (h : i ≠ n)
    (view : Option StoreCell → Option α) (at' : Nat) :
    (⟨st, n, some ⟨i, shows⟩, none⟩ : Bus).read view at' =
      (view (Store.read st at'), ⟨st, n + 1, some ⟨i, shows⟩, none⟩) := by
  unfold Bus.read
  rw [Bus.failure_later st shows h]
  rfl

/-- A failing write whose read-back is blank leaves the item blank. -/
theorem Bus.write_blank (st : Store) (n at' : Nat) (c : StoreItem) :
    (⟨st, n, some ⟨n, .blank⟩, none⟩ : Bus).write at' c =
      (false, ⟨Store.erase st at', n + 1, some ⟨n, .blank⟩, none⟩) := by
  unfold Bus.write
  rw [Bus.failure_here]
  rfl

/-- A failing write whose read-back shows the item before it leaves a canonical store as it was. -/
theorem Bus.write_unchanged {st : Store} (n : Nat) {at' : Nat} {c : StoreItem} (hw : Store.wf st = true)
    (h : Store.read st at' ≠ some (formed c)) :
    (⟨st, n, some ⟨n, .unchanged⟩, none⟩ : Bus).write at' c = (false, ⟨st, n + 1, some ⟨n, .unchanged⟩, none⟩) := by
  unfold Bus.write
  rw [Bus.failure_here]
  show (decide (Store.read st at' = some (formed c)),
    (⟨Store.put st at' (Store.read st at'), n + 1, some ⟨n, .unchanged⟩, none⟩ : Bus)) = _
  rw [decide_eq_false h, Store.put_read_self st at' hw]

theorem Bus.writeAll_sound (items : List (Nat × StoreItem)) (st : Store) (n : Nat) :
    (⟨st, n, none, none⟩ : Bus).writeAll items =
      (true, ⟨items.foldl (fun st x => Store.save st x.1 x.2) st, n + items.length, none, none⟩) := by
  induction items generalizing st n with
  | nil => rfl
  | cons x rest ih =>
    obtain ⟨at', c⟩ := x
    unfold Bus.writeAll
    rw [Bus.write_sound]
    dsimp only
    rw [ih, List.length_cons, Nat.add_right_comm, Nat.add_assoc]
    rfl

theorem Bus.writeAll_of_failing {b b' : Bus} {at' : Nat} {c : StoreItem} {rest : List (Nat × StoreItem)}
    (h : b.write at' c = (false, b')) : b.writeAll ((at', c) :: rest) = (false, b') := by
  unfold Bus.writeAll
  rw [h]

theorem State.bus_sound (s : State) : s.bus none = ⟨s.store, 0, none, none⟩ := rfl

theorem State.bus_failing (s : State) (i : Nat) (shows : ReadBack) :
    s.bus (some ⟨i, shows⟩) = ⟨s.store, 0, some ⟨i, shows⟩, none⟩ := rfl

/-- The machine after an operation of `n` items. -/
theorem State.leaveBus_items {s : State} {started n ms : Nat} {st : Store} {f : Option StoreFault} {p : Option Nat}
    (h : n * 1000 = ms) :
    s.leaveBus started ⟨st, n, f, p⟩ = { s with now := max s.now (started + ms), current := none, store := st } := by
  unfold State.leaveBus
  rw [h]
  rfl

theorem State.setLane_congr {s : State} {l : LaneId} {f g : Lane → Lane} (h : f s.lanes[l] = g s.lanes[l]) :
    s.setLane l f = s.setLane l g := by
  unfold State.setLane
  rw [h]

/-! ## Completions, by what the bus made of their items -/

theorem exec_checkpointCompletion_open {s : State} {a : ArmId} {m : OpenMarker} {started : Nat} {n : Option Nat}
    {fault : Option StoreFault} {ok : Bool} {b : Bus} (h : s.current = some ⟨.checkpointOpen a m, started, n⟩)
    (run : runCheckpointOpen a m (n.getD s.batchCounter) (s.bus fault) = (ok, b)) :
    exec (.checkpointCompletion fault) s = .next ((s.leaveBus started b).checkpointDone a ok).advanceStore := by
  show execCheckpointCompletion fault s = _
  unfold execCheckpointCompletion
  rw [h]
  dsimp only
  rw [run]

theorem exec_checkpointCompletion_idle {s : State} {a : ArmId} {x : TotalsBlock} {started : Nat} {n : Option Nat}
    {fault : Option StoreFault} {ok : Bool} {b : Bus} (h : s.current = some ⟨.checkpointIdle a x, started, n⟩)
    (run : runCheckpointIdle a x (s.bus fault) = (ok, b)) :
    exec (.checkpointCompletion fault) s = .next ((s.leaveBus started b).checkpointDone a ok).advanceStore := by
  show execCheckpointCompletion fault s = _
  unfold execCheckpointCompletion
  rw [h]
  dsimp only
  rw [run]

theorem exec_closeCompletion {s : State} {a : ArmId} {slot : Nat} {r : BatchRecord} {x : TotalsBlock} {started : Nat}
    {n : Option Nat} {fault : Option StoreFault} {ok : Bool} {b : Bus}
    (h : s.current = some ⟨.close a slot r x, started, n⟩)
    (run : runClose a slot r x (n.getD s.batchCounter) (s.bus fault) = (ok, b)) :
    exec (.closeCompletion fault) s =
      .next (if ok then s.leaveBus started b else (s.leaveBus started b).closeFailed a slot).advanceStore := by
  show execCloseCompletion fault s = _
  unfold execCloseCompletion
  rw [h]
  dsimp only
  rw [run]

theorem exec_recordFreeCompletion {s : State} {l : LaneId} {slot started : Nat} {n : Option Nat}
    {fault : Option StoreFault} {ok : Bool} {b : Bus} (h : s.current = some ⟨.recordFree l slot, started, n⟩)
    (run : runRecordFree l slot (s.unsavedIn l slot) (s.bus fault) = (ok, b)) :
    exec (.recordFreeCompletion fault) s = .next ((s.leaveBus started b).releaseDone l ok).advanceStore := by
  show execRecordFreeCompletion fault s = _
  unfold execRecordFreeCompletion
  rw [h]
  dsimp only
  rw [run]

theorem exec_dispensedCompletion {s : State} {page package started : Nat} {askers : List Key} {n : Option Nat}
    {fault : Option StoreFault} {ok : Bool} {b : Bus} (h : s.current = some ⟨.dispensed page package askers, started, n⟩)
    (run : runDispensed page package (s.bus fault) = (ok, b)) :
    exec (.dispensedCompletion fault) s =
      .next (if ok then s.leaveBus started b else (s.leaveBus started b).dispensedFailed askers).advanceStore := by
  show execDispensedCompletion fault s = _
  unfold execDispensedCompletion
  rw [h]
  dsimp only
  rw [run]

/-! ## The dispensed copies of a failed DISPENSED (R106, R115) -/

/-- A cache entry whose dispensed copy is cleared when its key asked. -/
def CacheEntry.clearedFor (askers : List Key) (e : CacheEntry) : CacheEntry :=
  if e.key ∈ askers then { e with dispensed := false } else e

theorem CacheEntry.key_clearedFor (askers : List Key) (e : CacheEntry) : (e.clearedFor askers).key = e.key := by
  unfold CacheEntry.clearedFor
  split <;> rfl

/-- No key twice in the cache, and each entry in the set of its key (R111, R120). -/
def State.CacheApart (s : State) : Prop :=
  (∀ (i j : Fin 32) (e f : CacheEntry), s.cache[i] = some e → s.cache[j] = some f → e.key = f.key → i = j) ∧
    ∀ (i : Fin 32) (e : CacheEntry), s.cache[i] = some e → i ∈ waysOf e.key

theorem State.cacheApart_of_keysDistinct {s : State} (h : s.keysDistinct) : s.CacheApart := by
  have apart := (State.keysDistinct_iff s).mp h
  exact ⟨(State.nodup_cachedKeys s).mp (List.nodup_append.mp h.1).1,
    fun i e he => (mem_waysOf e.key i).mpr (apart.inSet i e he)⟩

/-- Clearing the dispensed copy of a key changes the one entry of that key, if there is one. -/
theorem State.setDispensedCopy_spec {s : State} (h : s.CacheApart) (key : Key) :
    ∃ cache : Vector (Option CacheEntry) 32, s.setDispensedCopy key false = { s with cache := cache } ∧
      ∀ i : Fin 32, cache[i] = s.cache[i].map (·.clearedFor [key]) := by
  obtain ⟨apart, inSet⟩ := h
  have stands (e : CacheEntry) (he : e.key ≠ key) : e.clearedFor [key] = e :=
    if_neg fun hmem => he (List.mem_singleton.mp hmem)
  unfold State.setDispensedCopy
  cases hf : s.findEntry key with
  | none =>
    refine ⟨s.cache, rfl, fun i => ?_⟩
    cases hi : s.cache[i] with
    | none => rfl
    | some e =>
      have other : e.key ≠ key := fun hk => by
        have miss := List.find?_eq_none.mp hf i (hk ▸ inSet i e hi)
        rw [hi] at miss
        exact miss (decide_eq_true hk)
      rw [Option.map_some, stands e other]
  | some j =>
    refine ⟨s.cache.set j (s.cache[j].map fun e => { e with dispensed := false }), rfl, fun i => ?_⟩
    have found := List.find?_some hf
    obtain ⟨f, hj⟩ : ∃ f, s.cache[j] = some f := by
      cases hj : s.cache[j] with
      | none => rw [hj] at found; cases found
      | some f => exact ⟨f, rfl⟩
    rw [hj] at found
    have keyf : f.key = key := of_decide_eq_true found
    by_cases hij : i = j
    · subst hij
      rw [Fin.getElem_fin, Vector.getElem_set_self, hj, Option.map_some, Option.map_some]
      exact congrArg some (if_pos (List.mem_singleton.mpr keyf)).symm
    · rw [Fin.getElem_fin, Vector.getElem_set_ne _ _ fun e => hij (Fin.ext e.symm), ← Fin.getElem_fin]
      cases hi : s.cache[i] with
      | none => rfl
      | some e => rw [Option.map_some, stands e fun hk => hij (apart i j e f hi hj (hk.trans keyf.symm))]

theorem CacheEntry.clearedFor_cons (key : Key) (askers : List Key) (e : CacheEntry) :
    (e.clearedFor [key]).clearedFor askers = e.clearedFor (key :: askers) := by
  by_cases hk : e.key = key
  · have first : e.clearedFor [key] = { e with dispensed := false } := if_pos (List.mem_singleton.mpr hk)
    rw [first]
    unfold CacheEntry.clearedFor
    rw [if_pos (List.mem_cons.mpr (.inl hk))]
    split <;> rfl
  · have first : e.clearedFor [key] = e := if_neg fun h => hk (List.mem_singleton.mp h)
    rw [first]
    unfold CacheEntry.clearedFor
    simp only [List.mem_cons, hk, false_or]

theorem State.dispensedFailed_spec (askers : List Key) : ∀ {s : State}, s.CacheApart →
    ∃ cache : Vector (Option CacheEntry) 32, s.dispensedFailed askers = { s with cache := cache } ∧
      ∀ i : Fin 32, cache[i] = s.cache[i].map (·.clearedFor askers) := by
  induction askers with
  | nil =>
    intro s _
    refine ⟨s.cache, rfl, fun i => ?_⟩
    cases s.cache[i] <;> rfl
  | cons key askers ih =>
    intro s h
    obtain ⟨cache, first, cleared⟩ := State.setDispensedCopy_spec h key
    have apart : State.CacheApart { s with cache := cache } := by
      have back (i : Fin 32) (e : CacheEntry) (he : cache[i] = some e) : ∃ e', s.cache[i] = some e' ∧ e.key = e'.key := by
        rw [cleared i] at he
        obtain ⟨e', he', rfl⟩ := Option.map_eq_some_iff.mp he
        exact ⟨e', he', CacheEntry.key_clearedFor _ _⟩
      refine ⟨fun i j e f he hf hk => ?_, fun i e he => ?_⟩
      · obtain ⟨e', he', ke⟩ := back i e he
        obtain ⟨f', hf', kf⟩ := back j f hf
        exact h.1 i j e' f' he' hf' (by rw [← ke, ← kf, hk])
      · obtain ⟨e', he', ke⟩ := back i e he
        rw [ke]
        exact h.2 i e' he'
    obtain ⟨cache', rest, cleared'⟩ := ih apart
    refine ⟨cache', ?_, fun i => ?_⟩
    · show State.dispensedFailed (s.setDispensedCopy key false) askers = _
      rw [first, rest]
    · rw [cleared' i, cleared i, Option.map_map]
      exact congrArg (fun f => Option.map f s.cache[i]) (funext fun e => CacheEntry.clearedFor_cons key askers e)

/-! ## The custody operations (Table 6-6) -/

theorem runDispensed_of_failed {page package : Nat} {b b' : Bus} (h : b.read asRecipe (recipeAt page package) = (none, b')) :
    runDispensed page package b = (false, b') := by
  unfold runDispensed
  rw [h]

theorem runDispensed_of_read {page package : Nat} {b b' : Bus} {r : RecipeRecord}
    (h : b.read asRecipe (recipeAt page package) = (some r, b')) :
    runDispensed page package b = if r.valid && !r.dispensed then
      b'.write (recipeAt page package) (.recipe { r with dispensed := true }) else (true, b') := by
  unfold runDispensed
  rw [h]

theorem runRecordFree_of_failed {l : LaneId} {slot : Nat} {unsaved : Option (ArmId × Nat)} {b b' : Bus}
    (h : b.write (slotAt l slot) (.slot none) = (false, b')) : runRecordFree l slot unsaved b = (false, b') := by
  unfold runRecordFree
  rw [h]

theorem State.unsavedIn_of_saved {s : State} {l : LaneId} {slot : Nat}
    (h : ∀ q ∈ s.lanes[l].records, q.slot = slot → q.record.unsaved = false) : s.unsavedIn l slot = none := by
  unfold State.unsavedIn
  split
  · next q hq =>
    have place := List.find?_some (p := fun q : QueuedRecord => decide (q.slot = slot)) hq
    rw [h q (List.mem_of_find?_eq_some hq) (of_decide_eq_true place)]
    rfl
  · rfl

theorem State.unsavedIn_of_first {s : State} {l : LaneId} {q : QueuedRecord} {rest : List QueuedRecord}
    (hq : s.lanes[l].records = q :: rest) (hu : q.record.unsaved = true) :
    s.unsavedIn l q.slot = some (q.record.arm, q.record.number) := by
  unfold State.unsavedIn
  rw [hq, List.find?_cons_of_pos (p := fun x : QueuedRecord => decide (x.slot = q.slot)) (decide_eq_true rfl)]
  exact if_pos hu

theorem CurrentOp.noteCounter_of_past {k : CurrentOp} {value now : Nat} (h : k.counterPast now = true)
    (hn : k.counter = none) : k.noteCounter value now = { k with counter := some value } := by
  unfold CurrentOp.noteCounter
  rw [h, hn]
  rfl

theorem CurrentOp.noteCounter_of_before {k : CurrentOp} {value now : Nat}
    (h : k.counterPast now = false ∨ k.counter ≠ none) : k.noteCounter value now = k := by
  unfold CurrentOp.noteCounter
  refine if_neg fun hand => ?_
  obtain ⟨unset, past⟩ := Bool.and_eq_true_iff.mp hand
  rcases h with h | h
  · rw [h] at past; cases past
  · exact h (Option.isNone_iff_eq_none.mp unset)

/-- Settles O56, operation by operation. -/
theorem custodyOperationsWriteTheirItems : Obligations.CustodyOperationsWriteTheirItems := by
  unfold Obligations.CustodyOperationsWriteTheirItems
  refine ⟨⟨fun c => ⟨rfl, isBlank_formed c⟩, fun k value now => ⟨fun h hn => ?past, fun h => ?before⟩⟩,
    fun a m started counter n s h hcounter => ⟨?opens, fun hw hr => ?openFails⟩, fun a x started n s h => ?idle,
    fun a slot r x started counter n s h hcounter => ⟨?close, ?closeFails⟩,
    fun l slot started n s h => ⟨fun hsaved => ?free, fun hw hr => ?freeFails⟩,
    fun l q rest m started n s h hq hu hslot hm hnumber => ?unsaved,
    fun page package askers started n f s h hd hf => ?lost,
    fun page package askers started n r s h hr => ⟨fun hv hd hkeys => ?lostWrite, fun hv hd => ?sets, fun hor => ?stands⟩⟩
  case past =>
    refine CurrentOp.noteCounter_of_past ?_ hn
    unfold CurrentOp.counterPast
    rcases h with ⟨a, m, hop, ht⟩ | ⟨a, slot, r, x, hop, ht⟩ <;> rw [hop] <;> exact decide_eq_true ht
  case before =>
    refine CurrentOp.noteCounter_of_before ?_
    unfold CurrentOp.counterPast
    rcases h with ⟨a, m, hop, ht⟩ | ⟨a, slot, r, x, hop, ht⟩ | h
    · rw [hop]; exact .inl (decide_eq_false (Nat.not_le.mpr ht))
    · rw [hop]; exact .inl (decide_eq_false (Nat.not_le.mpr ht))
    · exact .inr h
  case opens =>
    have value : n.getD s.batchCounter = counter := by
      rcases hcounter with ⟨rfl, rfl⟩ | rfl <;> rfl
    have run : runCheckpointOpen a m (n.getD s.batchCounter) (s.bus none) = (true, ⟨Store.save (Store.save s.store 1320
        (.counter counter)) (1288 + a.val) (.marker (some m)), 2, none, none⟩) := by
      rw [value]
      exact Bus.writeAll_sound _ s.store 0
    rw [exec_checkpointCompletion_open h run, State.leaveBus_items (ms := 2000) rfl]
    rfl
  case openFails =>
    have value : n.getD s.batchCounter = counter := by
      rcases hcounter with ⟨rfl, rfl⟩ | rfl <;> rfl
    have run : runCheckpointOpen a m (n.getD s.batchCounter) (s.bus (some ⟨0, .unchanged⟩)) =
        (false, ⟨s.store, 1, some ⟨0, .unchanged⟩, none⟩) := by
      rw [value]
      exact Bus.writeAll_of_failing (Bus.write_unchanged 0 hw hr)
    rw [exec_checkpointCompletion_open h run, State.leaveBus_items (ms := 1000) rfl]
    rfl
  case idle =>
    have run : runCheckpointIdle a x (s.bus none) =
        (true, ⟨Store.save s.store (1280 + a.val) (.totals x), 1, none, none⟩) := Bus.writeAll_sound _ s.store 0
    rw [exec_checkpointCompletion_idle h run, State.leaveBus_items (ms := 1000) rfl]
    rfl
  case close =>
    have value : n.getD s.batchCounter = counter := by
      rcases hcounter with ⟨rfl, rfl⟩ | rfl <;> rfl
    have run : runClose a slot r x (n.getD s.batchCounter) (s.bus none) =
        (true, ⟨Store.save (Store.save (Store.save (Store.save s.store (1280 + a.val) (.totals x))
          1320 (.counter counter)) (1296 + a.val / 2 * 6 + slot) (.slot (some r))) (1288 + a.val) (.marker none),
          4, none, none⟩) := by
      rw [value]
      exact Bus.writeAll_sound _ s.store 0
    rw [exec_closeCompletion h run, State.leaveBus_items (ms := 4000) rfl]
    rfl
  case closeFails =>
    have run : runClose a slot r x (n.getD s.batchCounter) (s.bus (some ⟨0, .blank⟩)) =
        (false, ⟨Store.erase s.store (1280 + a.val), 1, some ⟨0, .blank⟩, none⟩) :=
      Bus.writeAll_of_failing (Bus.write_blank s.store 0 _ _)
    rw [exec_closeCompletion h run, State.leaveBus_items (ms := 1000) rfl]
    rfl
  case free =>
    have run : runRecordFree l slot (s.unsavedIn l slot) (s.bus none) =
        (true, ⟨Store.save s.store (1296 + l.val * 6 + slot) (.slot none), 1, none, none⟩) := by
      rw [State.unsavedIn_of_saved hsaved]
      rfl
    rw [exec_recordFreeCompletion h run, State.leaveBus_items (ms := 1000) rfl]
    rfl
  case freeFails =>
    have run : runRecordFree l slot (s.unsavedIn l slot) (s.bus (some ⟨0, .unchanged⟩)) =
        (false, ⟨s.store, 1, some ⟨0, .unchanged⟩, none⟩) :=
      runRecordFree_of_failed (Bus.write_unchanged 0 hw hr)
    rw [exec_recordFreeCompletion h run, State.leaveBus_items (ms := 1000) rfl]
    rfl
  case unsaved =>
    have apart : markerAt q.record.arm ≠ slotAt l q.slot := by
      unfold markerAt slotAt
      omega
    have marker : asMarker (Store.read (Store.save s.store (slotAt l q.slot) (.slot none)) (markerAt q.record.arm)) =
        some (some m) := by
      rw [Store.read_save, if_neg apart]
      exact hm
    have run : runRecordFree l q.slot (s.unsavedIn l q.slot) (s.bus none) =
        (true, ⟨Store.save (Store.save s.store (1296 + l.val * 6 + q.slot) (.slot none)) (1288 + q.record.arm.val)
          (.marker none), 3, none, none⟩) := by
      rw [State.unsavedIn_of_first hq hu, State.bus_sound]
      unfold runRecordFree
      rw [Bus.write_sound]
      dsimp only
      rw [Bus.read_sound, marker]
      exact if_pos (congrArg some hnumber)
    rw [exec_recordFreeCompletion h run, State.leaveBus_items (ms := 3000) rfl]
    unfold State.releaseDone
    dsimp only
    rw [State.setLane_congr (g := fun lane => { lane with records := rest, releasePending := false })]
    · rfl
    · dsimp only
      rw [hq]
      rfl
  case lost =>
    obtain ⟨b, run, left⟩ : ∃ b : Bus, runDispensed page package (s.bus f) = (false, b) ∧
        s.leaveBus started b = { s with now := max s.now (started + 1000), current := none } := by
      rcases hf with ⟨rfl, hbad⟩ | ⟨shows, rfl⟩
      · have bad : asRecipe (Store.read s.store (recipeAt page package)) = none := hbad
        refine ⟨⟨s.store, 1, none, none⟩, runDispensed_of_failed ?_, State.leaveBus_items (ms := 1000) rfl⟩
        rw [State.bus_sound, Bus.read_sound, bad]
      · exact ⟨⟨s.store, 1, some ⟨0, shows⟩, none⟩, runDispensed_of_failed (Bus.read_failing s.store 0 shows asRecipe _),
          State.leaveBus_items (ms := 1000) rfl⟩
    have apart := State.cacheApart_of_keysDistinct hd
    obtain ⟨cache, failed, cleared⟩ := State.dispensedFailed_spec askers
      (s := { s with now := max s.now (started + 1000), current := none }) apart
    refine ⟨cache, cleared, ?_⟩
    rw [exec_dispensedCompletion h run, left, if_neg Bool.false_ne_true, failed]
  case lostWrite =>
    have hr' : asRecipe (Store.read s.store (recipeAt page package)) = some r := hr
    have run : runDispensed page package (s.bus (some ⟨1, .blank⟩)) =
        (false, ⟨Store.erase s.store (256 + page * 16 + package), 2, some ⟨1, .blank⟩, none⟩) := by
      have read : (s.bus (some ⟨1, .blank⟩)).read asRecipe (recipeAt page package) =
          (some r, ⟨s.store, 1, some ⟨1, .blank⟩, none⟩) := by
        rw [State.bus_failing, Bus.read_before s.store .blank (by decide), hr']
      rw [runDispensed_of_read read, if_pos (by rw [hv, hd]; rfl), Bus.write_blank]
      rfl
    have apart := State.cacheApart_of_keysDistinct hkeys
    obtain ⟨cache, failed, cleared⟩ := State.dispensedFailed_spec askers
      (s := { s with
        now := max s.now (started + 2000), current := none, store := Store.erase s.store (256 + page * 16 + package) }) apart
    refine ⟨cache, cleared, ?_⟩
    rw [exec_dispensedCompletion h run, State.leaveBus_items (ms := 2000) rfl, if_neg Bool.false_ne_true, failed]
  case sets =>
    have hr' : asRecipe (Store.read s.store (recipeAt page package)) = some r := hr
    have run : runDispensed page package (s.bus none) = (true, ⟨Store.save s.store (256 + page * 16 + package)
        (.recipe { r with dispensed := true }), 2, none, none⟩) := by
      have read : (s.bus none).read asRecipe (recipeAt page package) = (some r, ⟨s.store, 1, none, none⟩) := by
        rw [State.bus_sound, Bus.read_sound, hr']
      rw [runDispensed_of_read read, if_pos (by rw [hv, hd]; rfl), Bus.write_sound]
      rfl
    rw [exec_dispensedCompletion h run, State.leaveBus_items (ms := 2000) rfl, if_pos rfl]
  case stands =>
    have hr' : asRecipe (Store.read s.store (recipeAt page package)) = some r := hr
    have run : runDispensed page package (s.bus none) = (true, ⟨s.store, 1, none, none⟩) := by
      have read : (s.bus none).read asRecipe (recipeAt page package) = (some r, ⟨s.store, 1, none, none⟩) := by
        rw [State.bus_sound, Bus.read_sound, hr']
      rw [runDispensed_of_read read, if_neg]
      rcases hor with hor | hor <;> rw [hor] <;> simp
    rw [exec_dispensedCompletion h run, State.leaveBus_items (ms := 1000) rfl, if_pos rfl]

end Sys2Proof.Machine
end

section
/-! PROOFS. The supervisor's store operations. -/

namespace Sys2Proof.Machine
open Sys2Proof

/-! ## Completions of the supervisor's operations -/

theorem exec_supReadCompletion_entry {s : State} {product started : Nat} {n : Option Nat} {fault : Option StoreFault}
    {e : Option DirectoryEntry} {b : Bus} (h : s.current = some ⟨.readEntry product, started, n⟩)
    (run : (s.bus fault).read asEntry (directoryAt product) = (e, b)) :
    exec (.supReadCompletion fault) s = .next ((s.leaveBus started b).answerRead (e.map Body.entry)).advanceStore := by
  show execSupReadCompletion fault s = _
  unfold execSupReadCompletion
  rw [h]
  dsimp only
  rw [run]

theorem exec_supReadCompletion_recipe {s : State} {page package started : Nat} {n : Option Nat}
    {fault : Option StoreFault} {r : Option RecipeRecord} {b : Bus}
    (h : s.current = some ⟨.readRecipe page package, started, n⟩)
    (run : (s.bus fault).read asRecipe (recipeAt page package) = (r, b)) :
    exec (.supReadCompletion fault) s = .next ((s.leaveBus started b).answerRead (r.map Body.recipeRecord)).advanceStore := by
  show execSupReadCompletion fault s = _
  unfold execSupReadCompletion
  rw [h]
  dsimp only
  rw [run]

theorem exec_supWriteCompletion_entry {s : State} {product started : Nat} {n : Option Nat} {fault : Option StoreFault}
    {e : DirectoryEntry} {ok : Bool} {b : Bus} (h : s.current = some ⟨.writeEntry product e, started, n⟩)
    (run : (s.bus fault).write (directoryAt product) (.entry e) = (ok, b)) :
    exec (.supWriteCompletion fault) s = .next (((s.leaveBus started b).invalidate
      (affectedByEntry product e.page (Store.pageOf s.store product))).answerWrite ok).advanceStore := by
  show execSupWriteCompletion fault s = _
  unfold execSupWriteCompletion
  rw [h]
  dsimp only
  rw [run]

theorem exec_supWriteCompletion_recipe {s : State} {page package started : Nat} {n : Option Nat}
    {fault : Option StoreFault} {r : RecipeRecord} {ok : Bool} {b : Bus}
    (h : s.current = some ⟨.writeRecipe page package r, started, n⟩)
    (run : (s.bus fault).write (recipeAt page package) (.recipe r) = (ok, b)) :
    exec (.supWriteCompletion fault) s =
      .next (((s.leaveBus started b).invalidate (affectedBy page package)).answerWrite ok).advanceStore := by
  show execSupWriteCompletion fault s = _
  unfold execSupWriteCompletion
  rw [h]
  dsimp only
  rw [run]

theorem exec_usageClearCompletion {s : State} {product started : Nat} {n : Option Nat} {fault : Option StoreFault}
    {o : UsageOutcome} {b : Bus} (h : s.current = some ⟨.usageClear product, started, n⟩)
    (run : runUsageClear product (s.bus fault) = (o, b)) :
    exec (.usageClearCompletion fault) s =
      .next (((s.leaveBus started b).flushProduct product).answerStore (usageResult o) .nothing).advanceStore := by
  show execUsageClearCompletion fault s = _
  unfold execUsageClearCompletion
  rw [h]
  dsimp only
  rw [run]

/-! ## Check words that do not match -/

theorem asEntry_of_mismatch {c : StoreCell} (h : c.check ≠ crc16 (itemBytes c.contents)) : asEntry (some c) = none := by
  unfold asEntry
  rw [checked_of_mismatch h]

theorem asRecipe_of_mismatch {c : StoreCell} (h : c.check ≠ crc16 (itemBytes c.contents)) : asRecipe (some c) = none := by
  unfold asRecipe
  rw [checked_of_mismatch h]

/-- An item that holds a valid directory entry is no recipe record. -/
theorem asRecipe_of_entry {c : Option StoreCell} {e : DirectoryEntry} (h : asEntry c = some e) (hv : e.valid = true) :
    asRecipe c = none := by
  unfold asEntry at h
  unfold asRecipe
  cases hc : checked c with
  | none => rfl
  | some item =>
    rw [hc] at h
    cases item with
    | none =>
      have blank : blankEntry = e := Option.some.inj h
      rw [← blank] at hv
      cases hv
    | some item => cases item <;> first | rfl | cases h

/-! ## Invalidation -/

/-- The cache after every entry that `f` picks has become invalid. -/
def State.invalidated (s : State) (f : CacheEntry → Bool) : Vector (Option CacheEntry) 32 := (s.invalidate f).cache

theorem State.invalidate_eq (s : State) (f : CacheEntry → Bool) : s.invalidate f = { s with cache := s.invalidated f } := rfl

theorem State.invalidated_eq_filter (s : State) (f : CacheEntry → Bool) (i : Fin 32) :
    (s.invalidated f)[i] = s.cache[i].filter fun e => !f e := by
  unfold State.invalidated
  rw [State.cache_invalidate]
  cases s.cache[i] with
  | none => rfl
  | some e => cases hf : f e <;> simp [hf, Option.filter]

theorem State.invalidated_eq_some_iff {s : State} {f : CacheEntry → Bool} {i : Fin 32} {e : CacheEntry} :
    (s.invalidated f)[i] = some e ↔ s.cache[i] = some e ∧ f e = false := by
  rw [State.invalidated_eq_filter, Option.filter_eq_some_iff, Bool.not_eq_true']

/-- The page that a product pointed to, and that the write leaves (R117, log entry 27). -/
theorem affectedByEntry_eq_false_iff {st : Store} {product page : Nat} {x : CacheEntry} :
    affectedByEntry product page (Store.pageOf st product) x = false ↔
      x.key.product ≠ product ∧ ¬ ∃ old, asEntry (Store.read st product) = some old ∧ old.valid = true ∧
        old.page ≠ page ∧ x.page = old.page := by
  unfold affectedByEntry Store.pageOf
  rw [Bool.or_eq_false_iff, beq_eq_false_iff_ne]
  refine and_congr_right fun _ => ?_
  cases he : asEntry (Store.read st product) with
  | none => simp [directoryAt, he]
  | some old => cases hv : old.valid <;> simp [directoryAt, he, hv]

/-! ## USAGE_CLEAR (R102) -/

/-- A record with its dispensed flag cleared where it is valid (R102). -/
def usageCleared (r : RecipeRecord) : RecipeRecord := if r.valid then { r with dispensed := false } else r

theorem usageCleared_of_used {r : RecipeRecord} (h : (r.valid && r.dispensed) = true) :
    usageCleared r = { r with dispensed := false } :=
  if_pos (Bool.and_eq_true_iff.mp h).1

theorem usageCleared_of_unused {r : RecipeRecord} (h : (r.valid && r.dispensed) = false) :
    usageCleared r = r := by
  unfold usageCleared
  split
  · next hv =>
    have clear : r.dispensed = false := by simpa [hv] using h
    rw [← clear]
  · rfl

/-- Clearing the records of a page from a package on: one item read for each, one more written for each that was
used; the records read back cleared and nothing else changes. -/
theorem clearDispensed_spec (page n : Nat) : ∀ (package count : Nat) (st : Store),
    (∀ k < n, ∃ r, asRecipe (Store.read st (recipeAt page (package + k))) = some r) →
    ∃ (st' : Store) (w : Nat), w ≤ n ∧
      clearDispensed page n package ⟨st, count, none, none⟩ = (true, ⟨st', count + n + w, none, none⟩) ∧
      (∀ k < n, ∀ r, asRecipe (Store.read st (recipeAt page (package + k))) = some r →
        asRecipe (Store.read st' (recipeAt page (package + k))) = some (usageCleared r)) ∧
      ∀ x, x < recipeAt page package ∨ recipeAt page (package + n) ≤ x → Store.read st' x = Store.read st x := by
  induction n with
  | zero => exact fun package count st _ => ⟨st, 0, Nat.le_refl 0, rfl, fun k hk => absurd hk (Nat.not_lt_zero k), fun _ _ => rfl⟩
  | succ n ih =>
    intro package count st h
    obtain ⟨r, hr⟩ := h 0 (Nat.succ_pos n)
    rw [Nat.add_zero] at hr
    obtain ⟨st₁, used, one, step, first, apart⟩ : ∃ (st₁ : Store) (used : Nat), used ≤ 1 ∧
        clearDispensed page (n + 1) package ⟨st, count, none, none⟩ =
          clearDispensed page n (package + 1) ⟨st₁, count + 1 + used, none, none⟩ ∧
        asRecipe (Store.read st₁ (recipeAt page package)) = some (usageCleared r) ∧
        ∀ x, x ≠ recipeAt page package → Store.read st₁ x = Store.read st x := by
      cases hu : r.valid && r.dispensed with
      | true =>
        refine ⟨Store.save st (recipeAt page package) (.recipe { r with dispensed := false }), 1, Nat.le_refl 1, ?_, ?_,
          fun x hx => by rw [Store.read_save, if_neg hx]⟩
        · rw [clearDispensed, Bus.read_sound, hr]
          dsimp only
          rw [if_pos hu, Bus.write_sound]
        · rw [Store.read_save, if_pos rfl, asRecipe_formed, usageCleared_of_used hu]
      | false =>
        refine ⟨st, 0, Nat.zero_le 1, ?_, by rw [usageCleared_of_unused hu]; exact hr, fun _ _ => rfl⟩
        rw [clearDispensed, Bus.read_sound, hr]
        dsimp only
        rw [if_neg (by rw [hu]; exact Bool.false_ne_true)]
    have later (k : Nat) : Store.read st₁ (recipeAt page (package + 1 + k)) = Store.read st (recipeAt page (package + (k + 1))) := by
      rw [show package + (k + 1) = package + 1 + k by omega]
      exact apart _ (by unfold recipeAt; omega)
    obtain ⟨st', w, hw, run, cleared, rest⟩ := ih (package + 1) (count + 1 + used) st₁
      fun k hk => by rw [later]; exact h (k + 1) (Nat.succ_lt_succ hk)
    refine ⟨st', used + w, by omega, ?_, fun k hk q hq => ?_, fun x hx => ?_⟩
    · rw [step, run, show count + 1 + used + n + w = count + (n + 1) + (used + w) by omega]
    · cases k with
      | zero =>
        rw [Nat.add_zero] at hq ⊢
        rw [rest _ (.inl (by unfold recipeAt; omega)), first, ← Option.some.inj (hr.symm.trans hq)]
      | succ k =>
        rw [show package + (k + 1) = package + 1 + k by omega] at hq ⊢
        refine cleared k (Nat.lt_of_succ_lt_succ hk) q ?_
        rw [later, show package + (k + 1) = package + 1 + k by omega]
        exact hq
    · rw [rest x (by unfold recipeAt at hx ⊢; omega), apart x (by unfold recipeAt at hx ⊢; omega)]

theorem runUsageClear_of_invalid {product : Nat} {b b' : Bus} {e : DirectoryEntry}
    (h : b.read asEntry (directoryAt product) = (some e, b')) (hv : e.valid = false) :
    runUsageClear product b = (.unknownProduct, b') := by
  unfold runUsageClear
  rw [h]
  dsimp only
  rw [hv]
  rfl

theorem runUsageClear_of_valid {product : Nat} {b b₁ b₂ b₃ : Bus} {e : DirectoryEntry}
    (h : b.read asEntry (directoryAt product) = (some e, b₁)) (hv : e.valid = true)
    (hw : b₁.write (directoryAt product) (.entry { e with used := false }) = (true, b₂))
    (hc : clearDispensed e.page 16 0 b₂ = (true, b₃)) : runUsageClear product b = (.cleared, b₃) := by
  unfold runUsageClear
  rw [h]
  dsimp only
  rw [if_neg (by rw [hv]; decide), hw]
  dsimp only
  rw [hc]

/-- Settles O57, operation by operation. -/
theorem supervisorOperationsAnswer : Obligations.SupervisorOperationsAnswer := by
  unfold Obligations.SupervisorOperationsAnswer
  refine ⟨?_, ?_, ?_, ?_, ?_⟩
  case refine_1 =>
    intro product started n s h t
    have left (f : Option StoreFault) : s.leaveBus started ⟨s.store, 1, f, none⟩ = t := State.leaveBus_items (ms := 1000) rfl
    refine ⟨fun e he => ?_, fun shows => ?_, fun c hc hbad => ?_⟩
    · have he' : asEntry (Store.read s.store (directoryAt product)) = some e := he
      rw [exec_supReadCompletion_entry h (by rw [State.bus_sound, Bus.read_sound, he']), left]
      rfl
    · rw [exec_supReadCompletion_entry h (Bus.read_failing s.store 0 shows asEntry _), left]
      rfl
    · have bad : asEntry (Store.read s.store (directoryAt product)) = none := by
        rw [show Store.read s.store (directoryAt product) = some c from hc]
        exact asEntry_of_mismatch hbad
      rw [exec_supReadCompletion_entry h (by rw [State.bus_sound, Bus.read_sound, bad]), left]
      rfl
  case refine_2 =>
    intro page package started n s h t
    have left : s.leaveBus started ⟨s.store, 1, none, none⟩ = t := State.leaveBus_items (ms := 1000) rfl
    refine ⟨fun r hr => ?_, fun c hc hbad => ?_⟩
    · have hr' : asRecipe (Store.read s.store (recipeAt page package)) = some r := hr
      rw [exec_supReadCompletion_recipe h (by rw [State.bus_sound, Bus.read_sound, hr']), left]
      rfl
    · have bad : asRecipe (Store.read s.store (recipeAt page package)) = none := by
        rw [show Store.read s.store (recipeAt page package) = some c from hc]
        exact asRecipe_of_mismatch hbad
      rw [exec_supReadCompletion_recipe h (by rw [State.bus_sound, Bus.read_sound, bad]), left]
      rfl
  case refine_3 =>
    intro product started n e s h left invalidated
    have picked : invalidated (s.invalidated (affectedByEntry product e.page (Store.pageOf s.store product))) :=
      fun i x => State.invalidated_eq_some_iff.trans (and_congr_right fun _ => affectedByEntry_eq_false_iff)
    refine ⟨⟨_, picked, ?_⟩, ⟨_, picked, ?_⟩⟩
    · rw [exec_supWriteCompletion_entry h (Bus.write_sound s.store 0 _ _), State.leaveBus_items (ms := 1000) rfl]
      rfl
    · rw [exec_supWriteCompletion_entry h (Bus.write_blank s.store 0 _ _), State.leaveBus_items (ms := 1000) rfl]
      rfl
  case refine_4 =>
    intro page package started n r s h
    refine ⟨s.invalidated (affectedBy page package), fun i => ?_, ?_, ?_⟩
    · rw [State.invalidated_eq_filter]
      refine congrArg (fun f => s.cache[i].filter f) (funext fun x => ?_)
      unfold affectedBy
      by_cases hp : x.page = page <;> by_cases hk : x.key.package = package <;> simp [hp, hk]
    · rw [exec_supWriteCompletion_recipe h (Bus.write_sound s.store 0 _ _), State.leaveBus_items (ms := 1000) rfl]
      rfl
    · rw [exec_supWriteCompletion_recipe h (Bus.write_blank s.store 0 _ _), State.leaveBus_items (ms := 1000) rfl]
      rfl
  case refine_5 =>
    intro product started n s h
    refine ⟨s.invalidated fun e => e.key.product == product, fun i => ?_, fun e he hv => ?_, fun e he hv hall => ?_⟩
    · rw [State.invalidated_eq_filter]
      refine congrArg (fun f => s.cache[i].filter f) (funext fun x => ?_)
      by_cases hp : x.key.product = product <;> simp [hp]
    · have he' : asEntry (Store.read s.store (directoryAt product)) = some e := he
      have read : (s.bus none).read asEntry (directoryAt product) = (some e, ⟨s.store, 1, none, none⟩) := by
        rw [State.bus_sound, Bus.read_sound, he']
      rw [exec_usageClearCompletion h (runUsageClear_of_invalid read hv), State.leaveBus_items (ms := 1000) rfl]
      rfl
    · have he' : asEntry (Store.read s.store (directoryAt product)) = some e := he
      have read : (s.bus none).read asEntry (directoryAt product) = (some e, ⟨s.store, 1, none, none⟩) := by
        rw [State.bus_sound, Bus.read_sound, he']
      have apart (k : Nat) (hk : k < 16) : recipeAt e.page k ≠ directoryAt product := fun heq => by
        obtain ⟨r, hr⟩ := hall ⟨k, hk⟩
        rw [show 256 + e.page * 16 + k = directoryAt product from heq, asRecipe_of_entry he' hv] at hr
        cases hr
      obtain ⟨st, hst⟩ : ∃ st, st = Store.save s.store (directoryAt product) (.entry { e with used := false }) := ⟨_, rfl⟩
      have before (k : Nat) (hk : k < 16) : Store.read st (recipeAt e.page k) = Store.read s.store (recipeAt e.page k) := by
        rw [hst, Store.read_save, if_neg (apart k hk)]
      obtain ⟨store, w, hw, run, cleared, rest⟩ := clearDispensed_spec e.page 16 0 2 st fun k hk => by
        rw [Nat.zero_add, before k hk]
        exact hall ⟨k, hk⟩
      have write : (⟨s.store, 1, none, none⟩ : Bus).write (directoryAt product) (.entry { e with used := false }) =
          (true, ⟨st, 2, none, none⟩) := by rw [Bus.write_sound, hst]
      refine ⟨2 + 16 + w, store, by omega, by omega, ?_, ?_, fun k r hr => ?_, fun x hx hout => ?_⟩
      · rw [exec_usageClearCompletion h (runUsageClear_of_valid read hv write run), State.leaveBus_items rfl]
        rfl
      · rw [rest product ?_, hst]
        · exact (Store.read_save _ _ _ _).trans (if_pos rfl)
        · by_contra hin
          rw [not_or, Nat.not_lt, Nat.not_le] at hin
          unfold recipeAt at hin
          refine apart (product - recipeAt e.page 0) ?_ ?_
          · unfold recipeAt; omega
          · unfold recipeAt directoryAt; omega
      · have clearedAt := cleared k.val k.isLt r (by rw [Nat.zero_add, before k.val k.isLt]; exact hr)
        rw [Nat.zero_add] at clearedAt
        exact clearedAt
      · rw [rest x (by unfold recipeAt; omega), hst, Store.read_save, if_neg (show x ≠ directoryAt product from hx)]

end Sys2Proof.Machine
end

section
/-! PROOFS. The completion of a walk. -/

namespace Sys2Proof.Machine
open Sys2Proof

/-! ## A port but for its seen sets -/

/-- A port with other seen sets. -/
def LinkPort.withSeen (lp : LinkPort) (seen : Vector FlagSet 8) : LinkPort := { lp with seen := seen }

theorem LinkPort.form_withSeen (lp : LinkPort) (seen : Vector FlagSet 8) (r : Response) :
    (lp.withSeen seen).form r = (lp.form r).withSeen seen := by
  unfold LinkPort.form LinkPort.withSeen
  dsimp only
  split
  · split <;> rfl
  · rfl

theorem LinkPort.settle_withSeen (lp : LinkPort) (seen : Vector FlagSet 8) (w : Work) (r : Result) (body : Body) :
    (lp.withSeen seen).settle w r body = (lp.settle w r body).withSeen seen := by
  unfold LinkPort.settle
  rw [show (lp.withSeen seen).outstanding = lp.outstanding from rfl]
  split
  · split
    · exact LinkPort.form_withSeen { lp with outstanding := none } seen _
    · rfl
  · rfl

/-- Two ports alike but for their seen sets. -/
def LinkPort.alike (x y : LinkPort) : Prop := ∃ seen, y = x.withSeen seen

theorem LinkPort.alike_refl (x : LinkPort) : x.alike x := ⟨x.seen, rfl⟩

theorem LinkPort.alike.trans {x y z : LinkPort} (h : x.alike y) (h' : y.alike z) : x.alike z := by
  obtain ⟨_, rfl⟩ := h
  obtain ⟨seen, rfl⟩ := h'
  exact ⟨seen, rfl⟩

theorem LinkPort.alike.settle {x y : LinkPort} (h : x.alike y) (w : Work) (r : Result) (body : Body) :
    (x.settle w r body).alike (y.settle w r body) := by
  obtain ⟨seen, rfl⟩ := h
  exact ⟨seen, LinkPort.settle_withSeen x seen w r body⟩

theorem LinkPort.alike.outstanding {x y : LinkPort} (h : x.alike y) : y.outstanding = x.outstanding := by
  obtain ⟨seen, rfl⟩ := h
  rfl

/-- A port alike to one that has just formed a response. -/
theorem LinkPort.alike.form_eq {x y : LinkPort} {r : Response} (h : (x.form r).alike y) :
    y = LinkPort.form { x with seen := y.seen } r := by
  obtain ⟨seen, rfl⟩ := h
  exact (LinkPort.form_withSeen x seen r).symm

/-! ## An outcome handed to an arm -/

/-- What an outcome handed to an arm may change: the arm, and the ports. -/
def handedParts (ws : List ArmId) : Part → Bool
  | .arm x => ws.contains x
  | .port _ => true
  | _ => false

theorem handedParts_arm {ws : List ArmId} {a : ArmId} : handedParts ws (.arm a) = true ↔ a ∈ ws := List.contains_iff_mem

theorem handedParts_mono {ws xs : List ArmId} (h : ws ⊆ xs) (q : Part) (hq : handedParts ws q = true) :
    handedParts xs q = true := by
  cases q with
  | arm x => exact handedParts_arm.mpr (h (handedParts_arm.mp hq))
  | port => rfl
  | _ => exact hq

/-- From `s` to `t` arm `a` becomes `after` and its lane link answers the AUTHORIZE that waits for it, if one does; of
the ports nothing else changes but the seen sets (R28, R171). -/
structure State.hands (s t : State) (a : ArmId) (after : Arm) (r : Result) (body : Body) : Prop where
  arm : t.arm a = after
  rest : s.changesOnly t (handedParts [a])
  link : ((s.port (.lane (laneOf a))).settle (.authorize a) r body).alike (t.port (.lane (laneOf a)))
  others : ∀ p, p ≠ .lane (laneOf a) → (s.port p).alike (t.port p)

theorem State.hands_of_settle {s : State} {a : ArmId} (f : Arm → Arm) (r : Result) (body : Body) :
    s.hands ((s.setArm a f).settle (.lane (laneOf a)) (.authorize a) r body) a (f (s.arm a)) r body where
  arm := State.arm_setArm_self s a f
  rest := (s.changesOnly_setArm a f (handedParts_arm.mpr List.mem_cons_self)).trans (State.changesOnly_setPort _ _ _ rfl)
  link := by rw [State.settle, State.port_setPort_self]; exact LinkPort.alike_refl _
  others p hp := by rw [State.settle, State.port_setPort_of_ne _ _ hp]; exact LinkPort.alike_refl _

theorem State.hands_failArm (s : State) (a : ArmId) (r : Result) :
    s.hands (s.failArm a r) a (s.arm a).toIdle r .nothing := State.hands_of_settle Arm.toIdle r .nothing

/-- An arm handed a store failure: its STORE flag is set first (R106). -/
theorem State.hands_storeFault (s : State) (a : ArmId) :
    s.hands ((s.setFlag a .store).failArm a .storeFault) a
      { (s.arm a).toIdle with flags := FlagSet.add (s.arm a).flags .store } .storeFault .nothing := by
  obtain ⟨arm, rest, link, others⟩ := (s.setFlag a .store).hands_failArm a .storeFault
  have forgotten (p : Port) : (s.port p).alike ((s.setFlag a .store).port p) := by
    rw [State.port_setFlag]
    exact ⟨_, rfl⟩
  refine ⟨?_, (s.changesOnly_setFlag a .store (handedParts_arm.mpr List.mem_cons_self) fun _ => rfl).trans rest,
    ((forgotten _).settle _ _ _).trans link, fun p hp => (forgotten p).trans (others p hp)⟩
  rw [arm, State.arm_setFlag_self]
  rfl

theorem State.hands_authorizeArm (s : State) (a : ArmId) (restricted : Bool) (snap : Snapshot) (page : Option Nat) :
    s.hands ((s.setArm a (·.useRelease restricted)).authorizeArm a snap page) a
      (((s.arm a).resolve ((s.arm a).useRelease restricted).release snap page).toAuthorized
        (s.now + s.authorizeTimeout * 1000 * 1000)) .ok (.recipe snap) := by
  rw [State.authorizeArm_eq, State.setArm_setArm]
  exact State.hands_of_settle _ .ok (.recipe snap)

theorem State.handOutcome_hands (o : WalkOutcome) (s : State) (a : ArmId) :
    ∃ after r body, s.hands (s.handOutcome o a) a after r body := by
  unfold State.handOutcome
  split
  · next rec page restricted =>
    cases failure : s.stepFourFailure a (snapshotOf rec) restricted with
    | some r => exact ⟨_, _, _, State.stepFour_of_failure page failure ▸ s.hands_failArm a r⟩
    | none => exact ⟨_, _, _, State.stepFour_of_pass page failure ▸ s.hands_authorizeArm a restricted _ _⟩
  · exact ⟨_, _, _, s.hands_failArm a _⟩
  · exact ⟨_, _, _, s.hands_failArm a _⟩
  · exact ⟨_, _, _, s.hands_storeFault a⟩

/-! ## An outcome handed to every waiter -/

/-- From `s` to `t` nothing changes that an outcome handed to arm `a` turns on. -/
structure State.spares (s t : State) (a : ArmId) : Prop where
  arm : t.arm a = s.arm a
  now : t.now = s.now
  inService : t.inService = s.inService
  timeout : t.authorizeTimeout = s.authorizeTimeout
  link : (∀ x code tag, (s.port (.lane (laneOf a))).outstanding = some ⟨code, tag, .authorize x⟩ → x = a) →
    (s.port (.lane (laneOf a))).alike (t.port (.lane (laneOf a)))

theorem State.spares_refl (s : State) (a : ArmId) : s.spares s a := ⟨rfl, rfl, rfl, rfl, fun _ => LinkPort.alike_refl _⟩

theorem State.spares.trans {s t u : State} {a : ArmId} (h : s.spares t a) (h' : t.spares u a) : s.spares u a :=
  ⟨h'.arm.trans h.arm, h'.now.trans h.now, h'.inService.trans h.inService, h'.timeout.trans h.timeout, fun only =>
    (h.link only).trans (h'.link (by rw [(h.link only).outstanding]; exact only))⟩

theorem State.hands.spares {s t : State} {a b : ArmId} {after : Arm} {r : Result} {body : Body}
    (h : s.hands t b after r body) (hne : b ≠ a) : s.spares t a := by
  obtain ⟨-, rest, link, others⟩ := h
  refine ⟨rest.2 (.arm a) ?_, rest.2 .clock rfl, rest.2 .inService rfl, rest.2 .authorizeTimeout rfl, fun only => ?_⟩
  · rw [Bool.eq_false_iff, Ne, handedParts_arm, List.mem_singleton]
    exact Ne.symm hne
  · by_cases hlane : Port.lane (laneOf a) = .lane (laneOf b)
    · rw [← hlane, LinkPort.settle_of_other _ _ fun code tag hout => hne (only b code tag hout)] at link
      exact link
    · exact others _ hlane

theorem State.handOutcomes_rest (o : WalkOutcome) (ws : List ArmId) (s : State) :
    s.changesOnly (ws.foldl (State.handOutcome o) s) (handedParts ws) := by
  induction ws generalizing s with
  | nil => exact s.changesOnly_refl _
  | cons a ws ih =>
    obtain ⟨_, _, _, hands⟩ := s.handOutcome_hands o a
    exact (hands.rest.mono (handedParts_mono (by simp))).trans ((ih _).mono (handedParts_mono (by simp)))

theorem State.handOutcomes_spares (o : WalkOutcome) {ws : List ArmId} {a : ArmId} (s : State) (h : a ∉ ws) :
    s.spares (ws.foldl (State.handOutcome o) s) a := by
  induction ws generalizing s with
  | nil => exact s.spares_refl a
  | cons b ws ih =>
    obtain ⟨hne, hout⟩ := not_or.mp (mt List.mem_cons.mpr h)
    obtain ⟨_, _, _, hands⟩ := s.handOutcome_hands o b
    exact (hands.spares (Ne.symm hne)).trans (ih _ hout)

/-- What becomes of a waiter, once every waiter has been handed the outcome: what becomes of it when it is handed the
outcome with its own state and link unchanged. -/
theorem State.handOutcomes_waiter {o : WalkOutcome} {ws : List ArmId} {a : ArmId} {s : State} {after : Arm} {r : Result}
    {body : Body} (hd : ws.Nodup) (ha : a ∈ ws)
    (h : ∀ u : State, s.spares u a → u.hands (u.handOutcome o a) a after r body) :
    (ws.foldl (State.handOutcome o) s).arm a = after ∧ s.walkAnswers (ws.foldl (State.handOutcome o) s) a r body := by
  obtain ⟨before, behind, rfl⟩ := List.append_of_mem ha
  obtain ⟨-, hcons, hapart⟩ := List.nodup_append.mp hd
  obtain ⟨houtBehind, -⟩ := List.nodup_cons.mp hcons
  have houtBefore : a ∉ before := fun hin => hapart a hin a List.mem_cons_self rfl
  rw [List.foldl_append, List.foldl_cons]
  obtain ⟨u, hu⟩ : ∃ u, u = before.foldl (State.handOutcome o) s := ⟨_, rfl⟩
  have earlier : s.spares u a := hu ▸ s.handOutcomes_spares o houtBefore
  rw [← hu]
  have handed := h u earlier
  have later := (u.handOutcome o a).handOutcomes_spares o houtBehind
  refine ⟨later.arm.trans handed.arm, fun code tag hout => ?_⟩
  have mine := earlier.link fun x code' tag' hx => by
    rw [hout] at hx
    cases hx
    rfl
  have answered := (mine.settle (.authorize a) r body).trans handed.link
  rw [LinkPort.settle_of_outstanding r body hout] at answered
  refine (answered.trans (later.link fun x code' tag' hx => ?_)).form_eq
  rw [answered.outstanding, LinkPort.form_outstanding] at hx
  cases hx

/-! ## The end of a walk -/

theorem State.waitersOf_of_mem {s : State} {w : WalkEntry} (hw : w ∈ s.walks) (hd : s.walkKeys.Nodup) :
    s.waitersOf w.key = w.waiters := by
  unfold State.waitersOf
  split
  · next v hv =>
    have hkey := List.find?_some (p := fun x : WalkEntry => decide (x.key = w.key)) hv
    rw [List.inj_on_of_nodup_map hd (List.mem_of_find?_eq_some hv) hw (of_decide_eq_true hkey)]
  · next hnone =>
    exact absurd (decide_eq_true rfl) (List.find?_eq_none.mp hnone w hw)

theorem State.changesOnly_walkEnd (s : State) (now : Nat) (walks : List WalkEntry) (store : Store)
    (cache : Vector (Option CacheEntry) 32) {parts : Part → Bool} (hclock : parts .clock = true)
    (hwalks : parts .walks = true) (hcurrent : parts .current = true) (hstore : parts .store = true)
    (hcache : parts .cache = true) :
    s.changesOnly { s with now := now, current := none, store := store, cache := cache, walks := walks } parts := by
  refine ⟨rfl, fun q hout => ?_⟩
  cases q with
  | clock => exact absurd (hout.symm.trans hclock) Bool.false_ne_true
  | walks => exact absurd (hout.symm.trans hwalks) Bool.false_ne_true
  | current => exact absurd (hout.symm.trans hcurrent) Bool.false_ne_true
  | store => exact absurd (hout.symm.trans hstore) Bool.false_ne_true
  | cache => exact absurd (hout.symm.trans hcache) Bool.false_ne_true
  | _ => rfl

/-- A WALK's completion: what its bus run leaves, and what becomes of each waiter (R97, R106, R114, R122). -/
theorem State.walk_spec {s : State} {key : Key} {started ms items : Nat} {n : Option Nat} {w : WalkEntry}
    {f g : Option StoreFault} {o : WalkOutcome} {st : Store} (h : s.current = some ⟨.walk key, started, n⟩)
    (hw : w ∈ s.walks) (hkey : w.key = key) (hd : s.walkKeys.Nodup) (hwaiters : w.waiters.Nodup)
    (run : runWalk key (s.bus f) = (o, ⟨st, items, g, none⟩)) (hms : items * 1000 = ms) :
    ∃ t : State, exec (.walkCompletion f) s = .next t.advanceStore ∧ t.now = max s.now (started + ms) ∧
      s.walkEnds t key w ∧ t.store = st ∧ t.cache = (s.fillFrom key o).cache ∧
      ∀ a ∈ w.waiters, ∀ after r body,
        (∀ u : State, u.arm a = s.arm a → u.now = t.now → u.inService = s.inService →
          u.authorizeTimeout = s.authorizeTimeout → u.hands (u.handOutcome o a) a after r body) →
        t.arm a = after ∧ s.walkAnswers t a r body := by
  subst hkey
  obtain ⟨v, hv⟩ : ∃ v : State, v = { s with
    now := max s.now (started + ms), current := none, store := st, cache := (s.fillFrom w.key o).cache,
    walks := s.walks.filter fun x => decide (x.key ≠ w.key) } := ⟨_, rfl⟩
  have finish : (s.leaveBus started ⟨st, items, g, none⟩).finishWalk w.key o = w.waiters.foldl (State.handOutcome o) v := by
    rw [State.leaveBus_items hms]
    unfold State.finishWalk
    dsimp only
    rw [show State.waitersOf { s with now := max s.now (started + ms), current := none, store := st } w.key =
      s.waitersOf w.key from rfl, State.waitersOf_of_mem hw hd, hv]
    cases o <;> rfl
  have rest := v.handOutcomes_rest o w.waiters
  have same (q : Part) (hq : handedParts w.waiters q = false) := rest.2 q hq
  refine ⟨w.waiters.foldl (State.handOutcome o) v, ?_, ?_, ⟨?_, ?_, ?_⟩, ?_, ?_, fun a ha after r body handed => ?_⟩
  · rw [← finish]
    show execWalkCompletion f s = _
    unfold execWalkCompletion
    rw [h]
    dsimp only
    rw [run]
  · exact (same .clock rfl).trans (by rw [hv])
  · exact (same .walks rfl).trans (by rw [hv])
  · exact (same .current rfl).trans (by rw [hv])
  · refine State.changesOnly.trans (t := v) ?_ (rest.mono fun q hq => ?_)
    · exact hv ▸ s.changesOnly_walkEnd _ _ _ _ rfl rfl rfl rfl rfl
    · cases q with
      | arm x => exact hq
      | port => rfl
      | _ => cases hq
  · exact (same .store rfl).trans (by rw [hv])
  · exact (same .cache rfl).trans (by rw [hv])
  · have sv : v.arm a = s.arm a ∧ v.inService = s.inService ∧ v.authorizeTimeout = s.authorizeTimeout ∧ v.ports = s.ports := by
      rw [hv]
      exact ⟨rfl, rfl, rfl, rfl⟩
    obtain ⟨arm, service, timeout, ports⟩ := sv
    have port : s.port (.lane (laneOf a)) = v.port (.lane (laneOf a)) := by unfold State.port; rw [ports]
    have outcome := State.handOutcomes_waiter hwaiters ha fun u spared => handed u (spared.arm.trans arm)
      (spared.now.trans (same .clock rfl).symm) (spared.inService.trans service) (spared.timeout.trans timeout)
    unfold State.walkAnswers at outcome ⊢
    rw [port]
    exact outcome

/-- A WALK that ends in a store failure (R106). -/
theorem State.walkFails_of_run {s : State} {key : Key} {started ms items : Nat} {n : Option Nat} {w : WalkEntry}
    {f g : Option StoreFault} {st : Store} (h : s.current = some ⟨.walk key, started, n⟩)
    (hw : w ∈ s.walks) (hkey : w.key = key) (hd : s.walkKeys.Nodup) (hwaiters : w.waiters.Nodup)
    (run : runWalk key (s.bus f) = (.storeFault, ⟨st, items, g, none⟩)) (hms : items * 1000 = ms) :
    ∃ t : State, exec (.walkCompletion f) s = .next t.advanceStore ∧ s.walkFails t key w (started + ms) ∧
      t.store = st := by
  obtain ⟨t, run, clock, ends, store, cache, waiter⟩ := State.walk_spec h hw hkey hd hwaiters run hms
  refine ⟨t, run, ⟨clock, ends, cache, fun a ha => waiter a ha _ _ _ fun u arm _ _ _ => ?_⟩, store⟩
  rw [← arm]
  exact u.hands_storeFault a

/-- A WALK that finds no valid entry or record: every waiter is IDLE again, answered `r` (R97). -/
theorem State.walkMisses_of_run {s : State} {key : Key} {started ms items : Nat} {n : Option Nat} {w : WalkEntry}
    {o : WalkOutcome} {r : Result} (h : s.current = some ⟨.walk key, started, n⟩)
    (hw : w ∈ s.walks) (hkey : w.key = key) (hd : s.walkKeys.Nodup) (hwaiters : w.waiters.Nodup)
    (run : runWalk key (s.bus none) = (o, ⟨s.store, items, none, none⟩)) (hms : items * 1000 = ms)
    (ho : ∀ (u : State) a, u.handOutcome o a = u.failArm a r) (hfill : s.fillFrom key o = s) :
    ∃ t : State, exec (.walkCompletion none) s = .next t.advanceStore ∧ t.now = max s.now (started + ms) ∧
      s.walkEnds t key w ∧ t.store = s.store ∧ t.cache = s.cache ∧
      ∀ a ∈ w.waiters, t.arm a = (s.arm a).toIdle ∧ s.walkAnswers t a r .nothing := by
  obtain ⟨t, run, clock, ends, store, cache, waiter⟩ := State.walk_spec h hw hkey hd hwaiters run hms
  refine ⟨t, run, clock, ends, store, cache.trans (by rw [hfill]), fun a ha => waiter a ha _ _ _ fun u arm _ _ _ => ?_⟩
  rw [← arm, ho]
  exact u.hands_failArm a r

/-! ## The items of a WALK -/

theorem runWalk_of_unread {key : Key} {b b' : Bus} (h : b.read asEntry (directoryAt key.product) = (none, b')) :
    runWalk key b = (.storeFault, b') := by
  unfold runWalk
  rw [h]

theorem runWalk_of_unknown {key : Key} {b b' : Bus} {e : DirectoryEntry}
    (h : b.read asEntry (directoryAt key.product) = (some e, b')) (hv : e.valid = false) :
    runWalk key b = (.unknownProduct, b') := by
  unfold runWalk
  rw [h]
  dsimp only
  rw [hv]
  rfl

/-- With a valid entry a WALK goes on with the record. -/
theorem runWalk_of_entry {key : Key} {b b' : Bus} {e : DirectoryEntry}
    (h : b.read asEntry (directoryAt key.product) = (some e, b')) (hv : e.valid = true) :
    runWalk key b =
      match b'.read asRecipe (recipeAt e.page key.package) with
      | (none, b) => (.storeFault, b)
      | (some r, b) =>
        if !r.valid then (.noRecipe, b)
        else if e.used then (.record r e.page (e.restricted || r.restricted), b)
        else
          match b.write (directoryAt key.product) (.entry { e with used := true }) with
          | (true, b) => (.record r e.page (e.restricted || r.restricted), b)
          | (false, b) => (.storeFault, b) := by
  unfold runWalk
  rw [h]
  dsimp only
  rw [hv]
  rfl

theorem runWalk_of_unread_record {key : Key} {b b₁ b₂ : Bus} {e : DirectoryEntry}
    (h : b.read asEntry (directoryAt key.product) = (some e, b₁)) (hv : e.valid = true)
    (hr : b₁.read asRecipe (recipeAt e.page key.package) = (none, b₂)) : runWalk key b = (.storeFault, b₂) := by
  rw [runWalk_of_entry h hv, hr]

theorem runWalk_of_no_record {key : Key} {b b₁ b₂ : Bus} {e : DirectoryEntry} {r : RecipeRecord}
    (h : b.read asEntry (directoryAt key.product) = (some e, b₁)) (hv : e.valid = true)
    (hr : b₁.read asRecipe (recipeAt e.page key.package) = (some r, b₂)) (hrv : r.valid = false) :
    runWalk key b = (.noRecipe, b₂) := by
  rw [runWalk_of_entry h hv, hr]
  dsimp only
  rw [hrv]
  rfl

theorem runWalk_of_used {key : Key} {b b₁ b₂ : Bus} {e : DirectoryEntry} {r : RecipeRecord}
    (h : b.read asEntry (directoryAt key.product) = (some e, b₁)) (hv : e.valid = true)
    (hr : b₁.read asRecipe (recipeAt e.page key.package) = (some r, b₂)) (hrv : r.valid = true) (hu : e.used = true) :
    runWalk key b = (.record r e.page (e.restricted || r.restricted), b₂) := by
  rw [runWalk_of_entry h hv, hr]
  dsimp only
  rw [if_neg (by rw [hrv]; decide), if_pos hu]

theorem runWalk_of_unused {key : Key} {b b₁ b₂ b₃ : Bus} {e : DirectoryEntry} {r : RecipeRecord} {ok : Bool}
    (h : b.read asEntry (directoryAt key.product) = (some e, b₁)) (hv : e.valid = true)
    (hr : b₁.read asRecipe (recipeAt e.page key.package) = (some r, b₂)) (hrv : r.valid = true) (hu : e.used = false)
    (hw : b₂.write (directoryAt key.product) (.entry { e with used := true }) = (ok, b₃)) :
    runWalk key b = (if ok then .record r e.page (e.restricted || r.restricted) else .storeFault, b₃) := by
  rw [runWalk_of_entry h hv, hr]
  dsimp only
  rw [if_neg (by rw [hrv]; decide), if_neg (by rw [hu]; decide), hw]
  cases ok <;> rfl

/-! ## A walk that finds a recipe -/

/-- What a waiter of a found recipe becomes, by its release and the recipe's additives (R98, R100). -/
theorem State.waiter_of_record {s t : State} {a : ArmId} {r : RecipeRecord} {page : Nat} {restricted : Bool}
    {config : ArmConfig} (hc : (s.arm a).config = some config)
    (waiter : ∀ after res body, (∀ u : State, u.arm a = s.arm a → u.now = t.now → u.inService = s.inService →
        u.authorizeTimeout = s.authorizeTimeout → u.hands (u.handOutcome (.record r page restricted) a) a after res body) →
      t.arm a = after ∧ s.walkAnswers t a res body) :
    (restricted = true ∧ (s.arm a).release = none →
      t.arm a = (s.arm a).toIdle ∧ s.walkAnswers t a .restricted .nothing) ∧
    ((restricted = true → (s.arm a).release ≠ none) →
      (∀ res, s.additiveFailure config r.params.additives.toList = some res →
        t.arm a = (s.arm a).toIdle ∧ s.walkAnswers t a res .nothing) ∧
      (s.additiveFailure config r.params.additives.toList = none →
        t.arm a = (((s.arm a).resolve ((s.arm a).useRelease restricted).release (snapshotOf r) (some page)).toAuthorized
          (t.now + s.authorizeTimeout * 1000 * 1000)) ∧
        s.walkAnswers t a .ok (.recipe (snapshotOf r)))) := by
  have same (u : State) (service : u.inService = s.inService) (l : List Additive) :
      u.additiveFailure config l = s.additiveFailure config l := by
    induction l with
    | nil => rfl
    | cons ad rest ih => rw [State.additiveFailure, State.additiveFailure, ih, State.codeInService, State.codeInService, service]
  refine ⟨fun ⟨hr, hnone⟩ => waiter _ _ _ fun u arm _ _ _ => ?_, fun hr => ⟨fun res hres => waiter _ _ _
    fun u arm _ service _ => ?_, fun hpass => waiter _ _ _ fun u arm now service timeout => ?_⟩⟩
  · subst hr
    rw [State.handOutcome, State.stepFour_of_unreleased _ _ (by rw [arm]; exact hnone), ← arm]
    exact u.hands_failArm a _
  · have decided := State.stepFourFailure_of_released (s := u) (snapshotOf r) (by rw [arm]; exact hr) (by rw [arm]; exact hc)
    rw [State.handOutcome, State.stepFour_of_failure _ (decided.trans ((same u service _).trans hres)), ← arm]
    exact u.hands_failArm a _
  · have decided := State.stepFourFailure_of_released (s := u) (snapshotOf r) (by rw [arm]; exact hr) (by rw [arm]; exact hc)
    rw [State.handOutcome, State.stepFour_of_pass _ (decided.trans ((same u service _).trans hpass)), ← arm, ← now, ← timeout]
    exact u.hands_authorizeArm a restricted _ _

/-- Settles O55: the bus run gives the outcome, and each waiter takes it with its own arm and link as they stood. -/
theorem walkCompletionServesItsWaiters : Obligations.WalkCompletionServesItsWaiters := by
  unfold Obligations.WalkCompletionServesItsWaiters
  intro key started n w s h hw hkey hd hwaiters item
  refine ⟨fun e he => ?_, fun f hf => ?_⟩
  case refine_2 =>
    rcases hf with ⟨rfl, hbad⟩ | ⟨shows, rfl⟩
    · have bad : asEntry (Store.read s.store (directoryAt key.product)) = none := hbad
      refine State.walkFails_of_run (g := none) (items := 1) h hw hkey hd hwaiters (runWalk_of_unread ?_) rfl
      rw [State.bus_sound, Bus.read_sound, bad]
    · exact State.walkFails_of_run (items := 1) h hw hkey hd hwaiters
        (runWalk_of_unread (Bus.read_failing s.store 0 shows asEntry _)) rfl
  case refine_1 =>
    have entry : asEntry (Store.read s.store (directoryAt key.product)) = some e := he
    have read : (s.bus none).read asEntry (directoryAt key.product) = (some e, ⟨s.store, 1, none, none⟩) := by
      rw [State.bus_sound, Bus.read_sound, entry]
    have readBefore (i : Nat) (shows : ReadBack) (hi : i ≠ 0) : (s.bus (some ⟨i, shows⟩)).read asEntry
        (directoryAt key.product) = (some e, ⟨s.store, 1, some ⟨i, shows⟩, none⟩) := by
      rw [State.bus_failing, Bus.read_before s.store shows hi, entry]
    refine ⟨fun hv => ?_, fun r hv hr => ?_, fun hv f hf => ?_⟩
    case refine_1 =>
      exact State.walkMisses_of_run h hw hkey hd hwaiters (runWalk_of_unknown read hv) rfl (fun _ _ => rfl) rfl
    case refine_3 =>
      rcases hf with ⟨rfl, hbad⟩ | ⟨shows, rfl⟩
      · have bad : asRecipe (Store.read s.store (recipeAt e.page key.package)) = none := hbad
        refine State.walkFails_of_run (g := none) (items := 2) h hw hkey hd hwaiters
          (runWalk_of_unread_record read hv ?_) rfl
        rw [Bus.read_sound, bad]
      · exact State.walkFails_of_run (items := 2) h hw hkey hd hwaiters
          (runWalk_of_unread_record (readBefore 1 shows (by decide)) hv (Bus.read_failing s.store 1 shows asRecipe _)) rfl
    case refine_2 =>
      have record : asRecipe (Store.read s.store (recipeAt e.page key.package)) = some r := hr
      have readRecord : (⟨s.store, 1, none, none⟩ : Bus).read asRecipe (recipeAt e.page key.package) =
          (some r, ⟨s.store, 2, none, none⟩) := by
        rw [Bus.read_sound, record]
      have readRecordBefore (shows : ReadBack) : (⟨s.store, 1, some ⟨2, shows⟩, none⟩ : Bus).read asRecipe
          (recipeAt e.page key.package) = (some r, ⟨s.store, 2, some ⟨2, shows⟩, none⟩) := by
        rw [Bus.read_before s.store shows (by decide), record]
      refine ⟨fun hrv => ?_, fun hrv => ?_, fun hrv hu => ⟨?_, fun hcanon hne => ?_⟩⟩
      · exact State.walkMisses_of_run h hw hkey hd hwaiters (runWalk_of_no_record read hv readRecord hrv) rfl
          (fun _ _ => rfl) rfl
      · obtain ⟨t, run, clock, ends, store, cache, waiter⟩ : ∃ t : State, exec (.walkCompletion none) s = .next t.advanceStore ∧
            t.now = max s.now (started + if e.used then 2000 else 3000) ∧ s.walkEnds t key w ∧
            t.store = (if e.used then s.store else Store.save s.store key.product (.entry { e with used := true })) ∧
            t.cache = (s.fillFrom key (.record r e.page (e.restricted || r.restricted))).cache ∧
            ∀ a ∈ w.waiters, ∀ after res body,
              (∀ u : State, u.arm a = s.arm a → u.now = t.now → u.inService = s.inService →
                u.authorizeTimeout = s.authorizeTimeout →
                u.hands (u.handOutcome (.record r e.page (e.restricted || r.restricted)) a) a after res body) →
              t.arm a = after ∧ s.walkAnswers t a res body := by
          cases hu : e.used with
          | true => exact State.walk_spec h hw hkey hd hwaiters (runWalk_of_used read hv readRecord hrv hu) rfl
          | false =>
            exact State.walk_spec h hw hkey hd hwaiters (runWalk_of_unused read hv readRecord hrv hu (Bus.write_sound _ _ _ _)) rfl
        refine ⟨t, run, clock, ends, store, cache, fun a ha config hc => ?_⟩
        have restricted : (e.restricted || r.restricted) = true ↔ e.restricted = true ∨ r.restricted = true := Bool.or_eq_true_iff
        obtain ⟨unreleased, decided⟩ := State.waiter_of_record hc (waiter a ha)
        refine ⟨fun ⟨hr, hnone⟩ => unreleased ⟨restricted.mpr hr, hnone⟩, fun hr hpass => ?_,
          fun hr before ad rest hlist hbefore hcode => ⟨fun hslot => ?_, fun hslot hout => ?_⟩⟩
        · obtain ⟨arm, answers⟩ := (decided fun h => hr (restricted.mp h)).2 (State.additiveFailure_of_pass hpass)
          refine ⟨?_, ?_, ?_, ?_, answers⟩
          · rw [arm]; rfl
          · rw [arm]; rfl
          · rw [arm]; rfl
          · rw [arm]
            exact Option.bind_map.trans Option.map_eq_bind.symm
        · refine (decided fun h => hr (restricted.mp h)).1 _ ?_
          rw [hlist, State.additiveFailure_append hbefore, State.additiveFailure_of_no_slot hcode hslot]
        · refine (decided fun h => hr (restricted.mp h)).1 _ ?_
          rw [hlist, State.additiveFailure_append hbefore, State.additiveFailure_of_out hcode hslot hout]
      · exact State.walkFails_of_run (items := 3) h hw hkey hd hwaiters (runWalk_of_unused (readBefore 2 .blank (by decide)) hv
          (readRecordBefore .blank) hrv hu (Bus.write_blank s.store 2 _ _)) rfl
      · exact State.walkFails_of_run (items := 3) h hw hkey hd hwaiters (runWalk_of_unused (readBefore 2 .unchanged (by decide)) hv
          (readRecordBefore .unchanged) hrv hu (Bus.write_unchanged 2 hcanon hne)) rfl

end Sys2Proof.Machine
end

section
/-! PROOFS. The stages of a computation. -/

namespace Sys2Proof.Machine
open Sys2Proof

/-! ## The checks of a computation (R11, R18) -/

/-- An arm as the checks of a computation leave it, but for its flags. -/
def Arm.checkedBy (arm : Arm) (k : Computed) (now : Nat) : Arm :=
  ((arm.takesCauseIf k.excursion .ratio now).takesCauseIf k.overspeed .overspeed now).takesCauseIf k.ethanolOnly
    .ethanolOnly now

/-- The flags a computation raises. -/
def Computed.raised (k : Computed) (x : Flag) : Prop :=
  x = .ratio ∧ (k.saturated = true ∨ k.excursion = true) ∨ x = .overspeed ∧ k.overspeed = true ∨
    x = .ethanolOnly ∧ k.ethanolOnly = true

/-- The parts that the checks of arm `a`'s computation may change. -/
def checkParts (a : ArmId) : Part → Bool
  | .arm x => x == a
  | .port _ => true
  | _ => false

theorem checkParts_self (a : ArmId) : checkParts a (.arm a) = true := decide_eq_true rfl

theorem State.raiseChecks_spec (s : State) (a : ArmId) (k : Computed) :
    s.raises (s.raiseChecks a k) a k.raised ∧
      (s.raiseChecks a k).arm a = ((s.arm a).checkedBy k s.now).withFlags ((s.raiseChecks a k).arm a).flags ∧
      s.changesOnly (s.raiseChecks a k) (checkParts a) := by
  obtain ⟨t, ht⟩ : ∃ t, t = ((s.setFlagIf (k.saturated || k.excursion) a .ratio).setFlagIf k.overspeed a
    .overspeed).setFlagIf k.ethanolOnly a .ethanolOnly := ⟨_, rfl⟩
  have raised : s.raises t a k.raised := by
    rw [ht]
    refine (((s.raises_setFlagIf _ a _).trans (State.raises_setFlagIf _ _ a _)).trans
      (State.raises_setFlagIf _ _ a _)).congr fun x => ?_
    unfold Computed.raised
    rw [Bool.or_eq_true]
    tauto
  have arm : t.arm a = (s.arm a).withFlags (t.arm a).flags := by
    rw [ht, State.arm_setFlagIf_self, State.arm_setFlagIf_self, State.arm_setFlagIf_self s]
    rfl
  have only : s.changesOnly t (checkParts a) := by
    rw [ht]
    exact ((s.changesOnly_setFlagIf _ a _ (checkParts_self a) fun _ => rfl).trans
      (State.changesOnly_setFlagIf _ _ a _ (checkParts_self a) fun _ => rfl)).trans
      (State.changesOnly_setFlagIf _ _ a _ (checkParts_self a) fun _ => rfl)
  have run : s.raiseChecks a k = t.setArm a (·.checkedBy k s.now) := by
    unfold State.raiseChecks
    dsimp only
    rw [State.addCauseIf_eq, State.addCauseIf_eq, State.addCauseIf_eq, ← ht, State.setArm_setArm, State.setArm_setArm,
      ← only.2 .clock rfl]
    rfl
  have after : (s.raiseChecks a k).arm a = ((s.arm a).checkedBy k s.now).withFlags (t.arm a).flags := by
    rw [run, State.arm_setArm_self, arm]
    unfold Arm.checkedBy
    rw [Arm.takesCauseIf_withFlags, Arm.takesCauseIf_withFlags, Arm.takesCauseIf_withFlags]
    rfl
  have flags : ((s.raiseChecks a k).arm a).flags = (t.arm a).flags := by rw [after]; rfl
  refine ⟨?_, by rw [flags]; exact after, ?_⟩
  · refine (raised.trans (State.raises_none flags (by rw [run]; rfl))).congr fun x => by rw [or_false]
  · rw [run]
    exact only.trans (t.changesOnly_setArm a _ (checkParts_self a))

/-! ## What a computation asks of the store (R21, R22) -/

/-- The CHECKPOINT and the DISPENSED that a computation asks for. -/
def State.posts (s : State) (a : ArmId) (b : Batch) (gross : Nat) : State :=
  let t := s.checkpointIfCrossed a (b.figures.vg + b.figures.ve) gross
  if b.figures.firstLitre = false ∧ 1000 ≤ gross then t.firstLitre b.key b.page else t

/-- The parts that a computation's requests to the store may change. -/
def postParts : Part → Bool
  | .cache => true
  | .storeQueue => true
  | .current => true
  | .walks => true
  | _ => false

theorem State.setDispensedCopy_frame (s : State) (key : Key) (b : Bool) :
    ∃ cache, s.setDispensedCopy key b = { s with cache := cache } := by
  unfold State.setDispensedCopy
  split
  · exact ⟨_, rfl⟩
  · exact ⟨s.cache, rfl⟩

theorem State.askDispensed_frame (s : State) (page package : Nat) (key : Key) (h : s.restartPending = false) :
    ∃ q c w, s.askDispensed page package key = { s with storeQueue := q, current := c, walks := w } := by
  unfold State.askDispensed
  split
  · exact ⟨_, _, s.walks, rfl⟩
  · exact State.askOp_frame s _ h

theorem State.checkpointIfCrossed_frame (s : State) (a : ArmId) (before after : Nat) (h : s.restartPending = false) :
    ∃ q c w, s.checkpointIfCrossed a before after = { s with storeQueue := q, current := c, walks := w } := by
  unfold State.checkpointIfCrossed
  split
  · exact State.askCheckpoint_frame s a h
  · exact ⟨s.storeQueue, s.current, s.walks, rfl⟩

theorem State.firstLitre_frame (s : State) (key : Key) (page : Option Nat) (h : s.restartPending = false) :
    ∃ cache q c w, s.firstLitre key page = { s with cache := cache, storeQueue := q, current := c, walks := w } := by
  unfold State.firstLitre
  split
  · exact ⟨s.cache, s.storeQueue, s.current, s.walks, rfl⟩
  · split
    · split
      · exact ⟨s.cache, s.storeQueue, s.current, s.walks, rfl⟩
      · obtain ⟨cache, copied⟩ := s.setDispensedCopy_frame key true
        obtain ⟨q, c, w, asked⟩ := (s.setDispensedCopy key true).askDispensed_frame _ key.package key (by rw [copied]; exact h)
        exact ⟨cache, q, c, w, by rw [asked, copied]⟩
    · obtain ⟨q, c, w, asked⟩ := s.askDispensed_frame _ key.package key h
      exact ⟨s.cache, q, c, w, asked⟩

theorem State.posts_frame (s : State) (a : ArmId) (b : Batch) (gross : Nat) (h : s.restartPending = false) :
    ∃ cache q c w, s.posts a b gross = { s with cache := cache, storeQueue := q, current := c, walks := w } := by
  obtain ⟨q, c, w, crossed⟩ := s.checkpointIfCrossed_frame a (b.figures.vg + b.figures.ve) gross h
  unfold State.posts
  dsimp only
  rw [crossed]
  split
  · obtain ⟨cache, q', c', w', first⟩ := State.firstLitre_frame { s with storeQueue := q, current := c, walks := w } b.key b.page h
    exact ⟨cache, q', c', w', first⟩
  · exact ⟨s.cache, q, c, w, rfl⟩

theorem State.changesOnly_posted (s : State) (cache : Vector (Option CacheEntry) 32) (queue : List QueuedOp)
    (current : Option CurrentOp) (walks : List WalkEntry) :
    s.changesOnly { s with cache := cache, storeQueue := queue, current := current, walks := walks } postParts := by
  refine ⟨rfl, fun q hout => ?_⟩
  cases q with
  | cache => cases hout
  | storeQueue => cases hout
  | current => cases hout
  | walks => cases hout
  | _ => rfl

theorem State.changesOnly_posts (s : State) (a : ArmId) (b : Batch) (gross : Nat) (h : s.restartPending = false) :
    s.changesOnly (s.posts a b gross) postParts := by
  obtain ⟨cache, q, c, w, run⟩ := s.posts_frame a b gross h
  rw [run]
  exact s.changesOnly_posted cache q c w

/-! ## The computation up to its triggers, and its end -/

/-- The machine with a computation's figures entered, its checks raised and its requests to the store made. -/
def State.enters (s : State) (r : TrimRequest) (b : Batch) (k : Computed) : State :=
  ((s.setArm r.arm (·.enter k)).raiseChecks r.arm k).posts r.arm b (k.figures.vg + k.figures.ve)

/-- The end of a computation: the packet, the final report, strokes and close (R24, R127, R182). -/
def State.reports (s : State) (r : TrimRequest) (rate : Option Nat) : State :=
  (((s.monitorTrim r.arm r.final rate).reportFinal r.arm r.final).tryStrokes r.arm).tryClose r.arm

theorem State.applyComputed_eq (s : State) (r : TrimRequest) (b : Batch) (k : Computed) :
    s.applyComputed r b k = ((s.enters r b k).triggers r.arm).reports r k.rate := by
  unfold State.applyComputed State.enters State.posts State.reports
  rfl

/-- The state in which a completed computation takes effect: the clock at its instant, the BAU idle (R84). -/
def State.computed (s : State) (started : Nat) : State := { s with now := max s.now (started + 200), bau := none }

theorem Arm.compute_of_batch {arm : Arm} {b : Batch} {snap : Snapshot} {fx : Fixed} {c : ArmConfig}
    (limit : Option Nat) (r : TrimRequest) (hb : arm.batch = some b) (hs : b.snapshot = some snap)
    (hf : b.fixed = some fx) (hc : arm.config = some c) (ha : arm.state.admitted = true) :
    arm.compute limit r = some (computeStages arm.state b snap fx c limit r) := by
  unfold Arm.compute
  rw [hb, hc]
  dsimp only
  rw [hs, hf]
  exact if_pos ha

theorem exec_computationComplete {s : State} {r : TrimRequest} {started : Nat} {b : Batch} {snap : Snapshot} {fx : Fixed}
    {c : ArmConfig} (h : s.bau = some ⟨r, started⟩) (ha : (s.arm r.arm).state.admitted = true)
    (hb : (s.arm r.arm).batch = some b) (hs : b.snapshot = some snap) (hf : b.fixed = some fx)
    (hc : (s.arm r.arm).config = some c) :
    exec .computationComplete s = .next (State.bauTake
      (((s.computed started).enters r b
          (computeStages (s.arm r.arm).state b snap fx c s.header.grants[r.arm].limit r)).triggers r.arm |>.reports r
        (computeStages (s.arm r.arm).state b snap fx c s.header.grants[r.arm].limit r).rate)) := by
  have taken : (s.computed started).finishComputation r = (s.computed started).applyComputed r b
      (computeStages (s.arm r.arm).state b snap fx c s.header.grants[r.arm].limit r) := by
    unfold State.finishComputation
    rw [show ((s.computed started).arm r.arm).batch = some b from hb,
      show ((s.computed started).arm r.arm).compute (s.computed started).header.grants[r.arm].limit r = some _ from
        Arm.compute_of_batch s.header.grants[r.arm].limit r hb hs hf hc ha]
    rfl
  rw [← State.applyComputed_eq, ← taken]
  show Host.Outcome.next s.computationCompletes = _
  unfold State.computationCompletes
  rw [h]
  rfl

/-- What the computation's figures, checks and requests to the store leave of the machine. -/
theorem State.enters_spec {s : State} {r : TrimRequest} {b : Batch} {k : Computed} (h : s.restartPending = false) :
    s.raises (s.enters r b k) r.arm k.raised ∧
      (s.enters r b k).arm r.arm =
        (((s.arm r.arm).enter k).checkedBy k s.now).withFlags ((s.enters r b k).arm r.arm).flags ∧
      s.changesOnly (s.enters r b k) fun q => checkParts r.arm q || postParts q := by
  obtain ⟨raised, arm, only⟩ := (s.setArm r.arm (·.enter k)).raiseChecks_spec r.arm k
  obtain ⟨v, hv⟩ : ∃ v, v = (s.setArm r.arm (·.enter k)).raiseChecks r.arm k := ⟨_, rfl⟩
  rw [State.arm_setArm_self] at arm
  rw [← hv] at raised arm only
  have running : v.restartPending = false := (only.2 .restartPending rfl).trans h
  have posted := v.changesOnly_posts r.arm b (k.figures.vg + k.figures.ve) running
  obtain ⟨cache, queue, current, walks, frame⟩ := v.posts_frame r.arm b (k.figures.vg + k.figures.ve) running
  have run : s.enters r b k = v.posts r.arm b (k.figures.vg + k.figures.ve) := by rw [hv]; rfl
  have after : (s.enters r b k).arm r.arm = v.arm r.arm := by rw [run, frame]; rfl
  refine ⟨?_, by rw [after]; exact arm, ?_⟩
  · have entered : s.raises (s.setArm r.arm (·.enter k)) r.arm fun _ => False := by
      refine s.raises_setArm r.arm _ fun arm => ?_
      unfold Arm.enter
      split <;> rfl
    refine ((entered.trans raised).trans (State.raises_none (t := s.enters r b k) (by rw [after]) (by rw [run, frame]))).congr
      fun x => by rw [or_false, false_or]
  · rw [run]
    exact (((s.changesOnly_setArm r.arm _ (checkParts_self r.arm)).trans only).mono fun q hq => by simp [hq]).trans
      (posted.mono fun q hq => by simp [hq])

theorem State.monitorTrim_frame (s : State) (a : ArmId) (final : Bool) (rate : Option Nat) :
    s.monitorTrim a final rate = { s with monitor := (s.monitorTrim a final rate).monitor } := by
  unfold State.monitorTrim
  split <;> rfl

/-- The end of a computation that is not final, on an arm whose final computation is not done. -/
theorem State.reports_of_open {s : State} {r : TrimRequest} {rate : Option Nat} (hr : r.final = false)
    (hd : (s.arm r.arm).finalDone = false) :
    ∃ slots, (s.arm r.arm).startsStrokes s.inService s.now slots ∧
      s.reports r rate = { s.setArm r.arm (fun arm => { arm with slots := slots }) with
        monitor := (s.monitorTrim r.arm false rate).monitor } := by
  obtain ⟨v, hv⟩ : ∃ v, v = s.monitorTrim r.arm false rate := ⟨_, rfl⟩
  have arm : v.arm r.arm = s.arm r.arm := by rw [hv, State.monitorTrim_frame]; rfl
  obtain ⟨slots, run, starts⟩ := v.tryStrokes_spec r.arm
  refine ⟨slots, ?_, ?_⟩
  · rw [arm] at starts
    rw [hv, State.monitorTrim_frame] at starts
    exact starts
  · have undone : ¬ ((v.tryStrokes r.arm).arm r.arm).complete := fun hc => by
      obtain ⟨-, done, -⟩ := hc
      rw [run, State.arm_setArm_self, arm] at done
      exact Bool.false_ne_true (hd.symm.trans done)
    unfold State.reports State.reportFinal
    rw [hr, if_neg Bool.false_ne_true, ← hv, State.tryClose_of_incomplete undone, run, hv, State.monitorTrim_frame]
    rfl

/-- The end of the final computation of a CLOSING arm whose slots are READY and start no stroke: its batch closes. -/
theorem State.reports_of_final {s : State} {r : TrimRequest} {rate : Option Nat} {b : Batch} {snap : Snapshot}
    {c : ArmConfig} (hr : r.final = true) (hstate : (s.arm r.arm).state = .closing)
    (hready : ∀ i : SlotId, (s.arm r.arm).slots[i].phase = .ready) (hdrain : (s.arm r.arm).drainTimer = none)
    (hb : (s.arm r.arm).batch = some b) (hs : b.snapshot = some snap) (hc : (s.arm r.arm).config = some c) :
    s.reports r rate = State.close (State.setArm { s with monitor := (s.monitorTrim r.arm true rate).monitor } r.arm
      fun arm => { arm with finalDone := true }) r.arm ((s.arm r.arm).record r.arm b snap c) := by
  obtain ⟨v, hv⟩ : ∃ v, v = State.setArm { s with monitor := (s.monitorTrim r.arm true rate).monitor } r.arm
    fun arm => { arm with finalDone := true } := ⟨_, rfl⟩
  have arm : v.arm r.arm = { s.arm r.arm with finalDone := true } := by rw [hv, State.arm_setArm_self]; rfl
  have config : (v.arm r.arm).config = some c := by rw [arm]; exact hc
  have snapshot : (v.arm r.arm).snapshot = some snap := by
    unfold Arm.snapshot
    rw [show (v.arm r.arm).batch = some b by rw [arm]; exact hb]
    exact hs
  have complete : (v.arm r.arm).complete := by
    rw [arm]
    exact ⟨hstate, rfl, hready⟩
  have still (i : SlotId) : v.canStroke r.arm i = false := by
    refine State.canStroke_of_not_due config snapshot ?_
    rintro ⟨-, -, delivers | flushes | ⟨-, drains⟩, -⟩
    · rw [complete.1] at delivers; cases delivers
    · rw [complete.1] at flushes; cases flushes
    · rw [arm] at drains
      rw [show ({ s.arm r.arm with finalDone := true } : Arm).drainTimer = none from hdrain] at drains
      cases drains
  unfold State.reports State.reportFinal
  rw [hr, if_pos rfl, State.monitorTrim_frame, ← hv]
  unfold State.tryStrokes
  rw [State.tryStroke_of_not_due (still 0), State.tryStroke_of_not_due (still 1), State.tryStroke_of_not_due (still 2),
    State.tryClose_of_complete complete (by rw [arm]; exact hb) hs config, arm]
  rfl

end Sys2Proof.Machine
end

section
/-! PROOFS. The final computation of a batch. -/

namespace Sys2Proof.Machine
open Sys2Proof

/-! ## A computation of a CLOSING arm -/

theorem computeStages_of_closing (b : Batch) (snap : Snapshot) (fx : Fixed) (c : ArmConfig) (limit : Option Nat)
    (r : TrimRequest) :
    computeStages .closing b snap fx c limit r =
      { volumes := windowVolumes b.figures snap.params c r
        figures := b.figures.measure snap.params c fx r
        rate := none
        trimmed := false
        saturated := false
        overspeed := false
        excursion := false
        ethanolOnly := false } := rfl

theorem State.triggers_of_closing {s : State} {a : ArmId} (h : (s.arm a).state = .closing) : s.triggers a = s := by
  unfold State.triggers
  split
  · dsimp only
    rw [if_neg (by rw [h]; exact fun hand => Bool.false_ne_true hand.2)]
    split
    · rw [if_neg (by rw [h]; rintro ⟨-, hd, -⟩; cases hd)]
    · rfl
  · rfl

theorem mem_slotIds (i : SlotId) : i ∈ ([0, 1, 2] : List SlotId) := by
  revert i
  decide

theorem lagging_iff {snap : Snapshot} {c : ArmConfig} {slots : Vector Slot 3} :
    lagging snap c slots = true ↔
      ∃ i : SlotId, (servedAdditive snap c.slots[i]).isSome = true ∧ slots[i].issued + 20 < slots[i].due := by
  unfold lagging
  rw [List.any_eq_true]
  constructor
  · rintro ⟨i, -, hi⟩
    obtain ⟨served, late⟩ := Bool.and_eq_true_iff.mp hi
    exact ⟨i, served, of_decide_eq_true late⟩
  · rintro ⟨i, served, late⟩
    exact ⟨i, mem_slotIds i, Bool.and_eq_true_iff.mpr ⟨served, decide_eq_true late⟩⟩

theorem Slot.pace_of_served {slot : Slot} {snap : Snapshot} {sc : SlotConfig} {ad : Additive} (gross : Nat)
    (h : servedAdditive snap sc = some ad) :
    slot.pace snap sc gross = { slot with due := gross * ad.rate / (1000 * sc.strokeVolume) } := by
  unfold Slot.pace
  rw [h]
  rfl

/-- The slots of an arm at gross blend `gross` lag where one's strokes due exceed those issued by more than 20 (R134). -/
theorem lagging_pace_iff {arm : Arm} {snap : Snapshot} {c : ArmConfig} {gross : Nat} :
    lagging snap c (arm.pace snap c gross) = true ↔
      ∃ i : SlotId, ∃ ad, servedAdditive snap c.slots[i] = some ad ∧
        arm.slots[i].issued + 20 < gross * ad.rate / (1000 * c.slots[i].strokeVolume) := by
  rw [lagging_iff]
  refine exists_congr fun i => ⟨fun ⟨served, late⟩ => ?_, fun ⟨ad, served, late⟩ => ?_⟩
  · obtain ⟨ad, had⟩ := Option.isSome_iff_exists.mp served
    rw [Arm.getElem_pace, Slot.pace_of_served gross had] at late
    exact ⟨ad, had, late⟩
  · rw [Arm.getElem_pace, Slot.pace_of_served gross served]
    exact ⟨by rw [served]; rfl, late⟩

theorem Slot.phase_pace (slot : Slot) (snap : Snapshot) (sc : SlotConfig) (gross : Nat) :
    (slot.pace snap sc gross).phase = slot.phase := by
  unfold Slot.pace
  split <;> rfl

/-- The slot for a code is the first that carries it (R100). -/
theorem slotFor_of_first {c : ArmConfig} {code : Nat} {i : SlotId} (h : c.slots[i].code = code)
    (hfirst : ∀ j : SlotId, j < i → c.slots[j].code ≠ code) : slotFor c code = some i := by
  unfold slotFor
  have apart (j : SlotId) (hj : j < i) : (c.slots[j].code == code) = false := beq_false_of_ne (hfirst j hj)
  have here : (c.slots[i].code == code) = true := beq_iff_eq.mpr h
  fin_cases i
  · exact List.find?_cons_of_pos here
  · rw [List.find?_cons_of_neg (by rw [apart 0 (by decide)]; exact Bool.false_ne_true)]
    exact List.find?_cons_of_pos here
  · rw [List.find?_cons_of_neg (by rw [apart 0 (by decide)]; exact Bool.false_ne_true),
      List.find?_cons_of_neg (by rw [apart 1 (by decide)]; exact Bool.false_ne_true)]
    exact List.find?_cons_of_pos here

theorem Arm.code_additiveEntry (arm : Arm) (c : ArmConfig) (f : Figures) (ad : Additive) :
    (arm.additiveEntry c f ad).code = ad.code := by
  unfold Arm.additiveEntry
  dsimp only
  split <;> rfl

theorem Arm.required_additiveEntry (arm : Arm) (c : ArmConfig) (f : Figures) (ad : Additive) :
    (arm.additiveEntry c f ad).required = (f.vg + f.ve) * ad.rate / 1000 := by
  unfold Arm.additiveEntry
  dsimp only
  split <;> rfl

/-- The list entry of an additive that a slot serves has the slot's counts (R50). -/
theorem Arm.additiveEntry_of_slot (arm : Arm) {c : ArmConfig} (f : Figures) {ad : Additive} {i : SlotId}
    (h : slotFor c ad.code = some i) :
    arm.additiveEntry c f ad =
      ⟨ad.code, arm.slots[i].verified, arm.slots[i].missed, (f.vg + f.ve) * ad.rate / 1000,
        arm.slots[i].verified * c.slots[i].strokeVolume, decide ((f.vg + f.ve) * ad.rate / 1000 >
          arm.slots[i].verified * c.slots[i].strokeVolume + c.slots[i].strokeVolume)⟩ := by
  unfold Arm.additiveEntry
  rw [h]

/-- Settles O49: the arm's record is formed from its figures with the window measured into them, and its close posts
it. -/
theorem finalComputationClosesTheBatch : Obligations.FinalComputationClosesTheBatch := by
  unfold Obligations.FinalComputationClosesTheBatch
  intro r started b snap fx config s hbau hstate hb hsnap hfixed hconfig hfinal hready hdrain hrestart ng ne dvg dve vg ve lane
  have run := exec_computationComplete hbau (by rw [hstate]; rfl) hb hsnap hfixed hconfig
  rw [hstate, computeStages_of_closing] at run
  obtain ⟨k, hk⟩ : ∃ k : Computed, k = ⟨windowVolumes b.figures snap.params config r, b.figures.measure snap.params config fx r,
    none, false, false, false, false, false⟩ := ⟨_, rfl⟩
  rw [← hk] at run
  obtain ⟨-, arm, only⟩ := State.enters_spec (s := s.computed started) (r := r) (b := b) (k := k) hrestart
  obtain ⟨y, hy⟩ : ∃ y, y = (s.computed started).enters r b k := ⟨_, rfl⟩
  rw [← hy] at run arm only
  obtain ⟨paced, hpaced⟩ : ∃ paced, paced = (s.arm r.arm).pace snap config (vg + ve) := ⟨_, rfl⟩
  obtain ⟨b', hb'⟩ : ∃ b' : Batch, b' = { b with figures := k.entered (lagging snap config paced) } := ⟨_, rfl⟩
  have after : y.arm r.arm = { s.arm r.arm with
      batch := some b', slots := paced, flags := (y.arm r.arm).flags
      totals := advanceTotals (s.arm r.arm).totals k.volumes.grossG k.volumes.grossE k.volumes.netG k.volumes.netE } := by
    rw [arm, show (s.computed started).arm r.arm = s.arm r.arm from rfl, Arm.enter_eq k hb hsnap hconfig, hb', hpaced, hk]
    rfl
  have ready (i : SlotId) : (y.arm r.arm).slots[i].phase = .ready := by
    rw [after]
    dsimp only
    rw [hpaced, Arm.getElem_pace, Slot.phase_pace]
    exact (Arm.slotsReady_iff _).mp hready i
  have state : (y.arm r.arm).state = .closing := by rw [after]; exact hstate
  have config' : (y.arm r.arm).config = some config := by rw [after]; exact hconfig
  have batch : (y.arm r.arm).batch = some b' := by rw [after]
  have snapshot : b'.snapshot = some snap := by rw [hb']; exact hsnap
  rw [State.triggers_of_closing state,
    State.reports_of_final hfinal state ready (by rw [after]; exact hdrain) batch snapshot config'] at run
  obtain ⟨rec, hrec⟩ : ∃ rec, rec = (y.arm r.arm).record r.arm b' snap config := ⟨_, rfl⟩
  rw [← hrec] at run
  obtain ⟨z, hz⟩ : ∃ z, z = State.setArm { y with monitor := (y.monitorTrim r.arm true k.rate).monitor } r.arm
    fun arm => { arm with finalDone := true } := ⟨_, rfl⟩
  rw [← hz] at run
  have running : z.restartPending = false := by rw [hz]; exact (only.2 .restartPending rfl).trans hrestart
  have lanes : z.lanes[laneOf r.arm] = lane := by rw [hz]; exact only.2 (.lane (laneOf r.arm)) rfl
  obtain ⟨queue, current, walks, closed, asked⟩ := z.close_spec r.arm rec running
  obtain ⟨bau, requests, taken⟩ := (z.close r.arm rec).bauTake_eq
  rw [taken, closed] at run
  obtain ⟨t, ht⟩ : ∃ t : State, t = { State.setArm { z.setLane (laneOf r.arm) (·.post rec) with
    storeQueue := queue, current := current, walks := walks } r.arm Arm.toIdle with bau := bau, arithmeticQueue := requests } :=
    ⟨_, rfl⟩
  rw [← ht] at run
  have idle : t.arm r.arm = (z.arm r.arm).toIdle := by
    rw [ht]
    exact State.arm_setArm_self _ r.arm Arm.toIdle
  have fraction : rec.fraction = finalFraction ng ne := by rw [hrec, hb', hk]; rfl
  rw [lanes] at asked
  have slots : (y.arm r.arm).slots = paced := by rw [after]
  have entries : rec.additives = (snap.params.additives.toList.filter fun x => decide (x.code ≠ 0)).map
      ((y.arm r.arm).additiveEntry config b'.figures) := by rw [hrec]; rfl
  have ending (e : Ending) (he : b.ending = some e) : rec.kind = e.kind ∧ rec.abortCause = e.cause := by
    have he' : b'.ending = some e := by rw [hb']; exact he
    rw [hrec]
    exact ⟨congrArg (fun x : Option Ending => (x.map Ending.kind).getD RecordKind.aborted) he',
      congrArg (fun x : Option Ending => x.bind Ending.cause) he'⟩
  have gross : b'.figures.vg + b'.figures.ve = vg + ve := by rw [hb', hk]; rfl
  have markers : rec.markers = { b.figures.markers with
      uncorrectedG := b.figures.markers.uncorrectedG || r.probeG.uncorrected
      uncorrectedE := b.figures.markers.uncorrectedE || r.probeE.uncorrected
      offRatio := offRatio snap.params ng ne
      additiveLag := b.figures.markers.additiveLag || lagging snap config paced } := by
    rw [hrec, hb', hk]
    rfl
  refine ⟨t, (lane.posting rec).record, run, by rw [idle]; rfl, by rw [idle]; rfl, by rw [idle]; rfl, by rw [idle]; rfl, ?_,
    rfl, ?_⟩
  · rw [ht]
    exact (State.lane_setLane_self z (laneOf r.arm) (·.post rec)).trans (congrArg (Lane.post · rec) lanes)
  · subst hrec hb' hk
    refine ⟨rfl, rfl, rfl, rfl, rfl, rfl, rfl, rfl, rfl, rfl, rfl, rfl, rfl, rfl, fun n hn => ?_, fun e he => ?_, fraction,
      rfl, rfl, ?_, ?_, ?_, fun n ad entry had hentry => ?_, ?_⟩
    · exact congrArg (Option.getD · 0) hn
    · exact ending e he
    · refine markers.trans ?_
      have lag : (lane.posting ((y.arm r.arm).record r.arm _ snap config)).record.markers.additiveLag =
        (b.figures.markers.additiveLag || lagging snap config paced) := congrArg Markers.additiveLag markers
      rw [lag]
      rfl
    · refine (congrArg (fun m : Markers => m.additiveLag = true) markers).to_iff.trans ?_
      rw [Bool.or_eq_true, hpaced, lagging_pace_iff]
    · refine (congrArg (List.map (·.code)) entries).trans ?_
      rw [List.map_map, List.filter_map]
      exact congrArg (List.map · _) (funext fun ad => Arm.code_additiveEntry _ _ _ ad)
    · replace hentry := (congrArg (·[n]?) entries).symm.trans hentry
      dsimp only at hentry
      rw [List.getElem?_map, had] at hentry
      obtain rfl := Option.some.inj hentry
      refine ⟨?_, fun i hcode hfirst => ?_⟩
      · rw [Arm.required_additiveEntry, gross]
      · obtain ⟨verified, missed⟩ : (y.arm r.arm).slots[i].verified = (s.arm r.arm).slots[i].verified ∧
            (y.arm r.arm).slots[i].missed = (s.arm r.arm).slots[i].missed := by
          rw [slots, hpaced, Arm.getElem_pace]
          unfold Slot.pace
          split <;> exact ⟨rfl, rfl⟩
        rw [Arm.additiveEntry_of_slot _ _ (slotFor_of_first hcode hfirst), verified, missed]
        exact ⟨rfl, rfl, rfl, decide_eq_true_iff⟩
    · refine ⟨(z.arm r.arm).figures, by rw [idle]; rfl, ?_⟩
      rw [show t.storeQueue = queue by rw [ht]; rfl, show t.current = current by rw [ht]; rfl]
      exact asked

end Sys2Proof.Machine
end

section
/-! PROOFS. The triggers and the end of a computation. -/

namespace Sys2Proof.Machine
open Sys2Proof

/-! ## Hold causes, several in one event -/

theorem HoldCause.index_lt (c : HoldCause) : c.index < 8 := by cases c <;> decide

theorem HoldCause.index_injective : Function.Injective HoldCause.index := by
  intro c d h
  cases c <;> cases d <;> first | rfl | cases h

theorem HoldSet.has_add (hs : HoldSet) (c d : HoldCause) :
    HoldSet.has (HoldSet.add hs c) d = true ↔ HoldSet.has hs d = true ∨ d = c := by
  simp only [HoldSet.has, HoldSet.add, HoldSet.only, BitVec.getLsbD_or, BitVec.getLsbD_twoPow, Bool.or_eq_true,
    Bool.and_eq_true, decide_eq_true_eq, HoldCause.index_lt, true_and]
  rw [HoldCause.index_injective.eq_iff, @eq_comm _ c d]

/-- A hold cause added when its condition holds. -/
def HoldSet.addIf (hs : HoldSet) (b : Bool) (c : HoldCause) : HoldSet := if b then HoldSet.add hs c else hs

theorem HoldSet.has_addIf (hs : HoldSet) (b : Bool) (c d : HoldCause) :
    HoldSet.has (hs.addIf b c) d = true ↔ HoldSet.has hs d = true ∨ d = c ∧ b = true := by
  cases b with
  | true => simp [HoldSet.addIf, HoldSet.has_add]
  | false => simp [HoldSet.addIf]

theorem HoldSet.add_zero (c : HoldCause) : HoldSet.add 0 c = HoldSet.only c := BitVec.zero_or

/-- An arm held from `o` at instant `now` with a set of causes (R36). -/
def Arm.holding (arm : Arm) (o : HeldFrom) (now : Nat) (causes : HoldSet) : Arm :=
  match o with
  | .delivering =>
    { arm with
      state := .held .delivering
      causes := causes
      holdTimer := some (now + ((arm.snapshot.map (·.params.holdLimit)).getD 0) * 1000 * 1000)
      batch := arm.batch.map fun b => { b with figures := { b.figures with uResume := b.figures.u, u := 0 } }
      valve := { arm.valve with commanded := 0 } }
  | .flushing =>
    { arm with
      state := .held .flushing
      causes := causes
      holdTimer := some (now + ((arm.snapshot.map (·.params.holdLimit)).getD 0) * 1000 * 1000) }

/-- The state that a hold returns to. -/
def HeldFrom.state : HeldFrom → ArmState
  | .delivering => .delivering
  | .flushing => .flushing

theorem Arm.takesCause_eq_holding {arm : Arm} {o : HeldFrom} (h : arm.state = o.state) (c : HoldCause) (now : Nat) :
    arm.takesCause c now = arm.holding o now (HoldSet.add 0 c) := by
  rw [HoldSet.add_zero]
  cases o with
  | delivering => exact Arm.takesCause_of_delivering h
  | flushing => exact Arm.takesCause_of_flushing h

theorem Arm.state_holding (arm : Arm) (o : HeldFrom) (now : Nat) (hs : HoldSet) :
    (arm.holding o now hs).state = .held o := by cases o <;> rfl

theorem Arm.takesCauseIf_held {arm : Arm} {o : HeldFrom} (h : arm.state = .held o) (b : Bool) (c : HoldCause) (now : Nat) :
    arm.takesCauseIf b c now = { arm with causes := arm.causes.addIf b c } := by
  cases b with
  | true => exact Arm.takesCause_of_held h
  | false => rfl

theorem Arm.takesCauseIf_holding (arm : Arm) (o : HeldFrom) (now later : Nat) (hs : HoldSet) (b : Bool) (c : HoldCause) :
    (arm.holding o now hs).takesCauseIf b c later = arm.holding o now (hs.addIf b c) := by
  rw [Arm.takesCauseIf_held (arm.state_holding o now hs)]
  cases o <;> rfl

/-! ## The checks on an arm -/

/-- A set of causes with those that a computation raises. -/
def Computed.causes (k : Computed) (hs : HoldSet) : HoldSet :=
  ((hs.addIf k.excursion .ratio).addIf k.overspeed .overspeed).addIf k.ethanolOnly .ethanolOnly

/-- A check of the computation strikes (R15 to R17). -/
def Computed.strikes (k : Computed) : Prop := k.overspeed = true ∨ k.excursion = true ∨ k.ethanolOnly = true

theorem Computed.has_causes (k : Computed) (hs : HoldSet) (x : HoldCause) :
    HoldSet.has (k.causes hs) x = true ↔ HoldSet.has hs x = true ∨ x = .ratio ∧ k.excursion = true ∨
      x = .overspeed ∧ k.overspeed = true ∨ x = .ethanolOnly ∧ k.ethanolOnly = true := by
  unfold Computed.causes
  rw [HoldSet.has_addIf, HoldSet.has_addIf, HoldSet.has_addIf, or_assoc, or_assoc]

theorem Arm.checkedBy_of_quiet (arm : Arm) {k : Computed} (now : Nat) (h : ¬ k.strikes) : arm.checkedBy k now = arm := by
  obtain ⟨fast, out, only⟩ : k.overspeed = false ∧ k.excursion = false ∧ k.ethanolOnly = false := by
    unfold Computed.strikes at h
    simpa only [not_or, Bool.not_eq_true] using h
  unfold Arm.checkedBy
  rw [fast, out, only]
  rfl

theorem Arm.checkedBy_of_not_underway {arm : Arm} (k : Computed) (now : Nat) (h : arm.state.underway = false) :
    arm.checkedBy k now = arm := by
  unfold Arm.checkedBy
  rw [Arm.takesCauseIf_of_not_underway h, Arm.takesCauseIf_of_not_underway h, Arm.takesCauseIf_of_not_underway h]

theorem Arm.checkedBy_of_held {arm : Arm} {o : HeldFrom} (k : Computed) (now : Nat) (h : arm.state = .held o) :
    arm.checkedBy k now = { arm with causes := k.causes arm.causes } := by
  have step (hs : HoldSet) (b : Bool) (c : HoldCause) :
      ({ arm with causes := hs } : Arm).takesCauseIf b c now = { arm with causes := hs.addIf b c } :=
    Arm.takesCauseIf_held (arm := { arm with causes := hs }) h b c now
  unfold Arm.checkedBy
  rw [Arm.takesCauseIf_held h, step, step]
  rfl

/-- A strike holds an arm that delivers or flushes, with every cause of the computation (R18). -/
theorem Arm.checkedBy_of_strikes {arm : Arm} {o : HeldFrom} {k : Computed} (now : Nat) (h : arm.state = o.state)
    (hk : k.strikes) : arm.checkedBy k now = arm.holding o now (k.causes 0) := by
  have first (c : HoldCause) : arm.takesCauseIf true c now = arm.holding o now (HoldSet.addIf 0 true c) :=
    Arm.takesCause_eq_holding h c now
  have none' (c : HoldCause) : arm.takesCauseIf false c now = arm := rfl
  have skip (hs : HoldSet) (c : HoldCause) : hs.addIf false c = hs := rfl
  unfold Arm.checkedBy Computed.causes
  cases out : k.excursion with
  | true => rw [first, Arm.takesCauseIf_holding, Arm.takesCauseIf_holding]
  | false =>
    rw [none', skip]
    cases fast : k.overspeed with
    | true => rw [first, Arm.takesCauseIf_holding]
    | false =>
      rw [none', skip]
      cases only : k.ethanolOnly with
      | true => rw [first]
      | false =>
        unfold Computed.strikes at hk
        rw [out, fast, only] at hk
        simp at hk

/-! ## The triggers (R23) -/

/-- A state with arm `a` as given and, where its grant goes, the head examination made (R147). -/
def State.withArm (s : State) (a : ArmId) (arm : Arm) (releases : Bool) : State :=
  if releases then ((s.setArm a fun _ => arm).grantGone a).examine else s.setArm a fun _ => arm

/-- What the triggers make of an arm with batch `b`, and whether its grant goes. -/
inductive Arm.Triggered (arm : Arm) (b : Batch) (c : ArmConfig) (fx : Fixed) (inService : Vector Bool 6) (now : Nat) :
    Arm → Bool → Prop
  | full (slots : Vector Slot 3) (hv : b.preset ≤ b.figures.ng + b.figures.ne) (hu : arm.state.underway = true)
      (starts : (arm.closed b c ⟨.complete, none⟩ now).startsStrokes inService now slots) :
      Triggered arm b c fx inService now { arm.closed b c ⟨.complete, none⟩ now with slots := slots } arm.state.holdsGrant
  | flush (hv : b.figures.ng + b.figures.ne < b.preset) (hf : fx.flushStart ≤ b.figures.ng + b.figures.ne)
      (hs : arm.state = .delivering) (hpos : 0 < fx.flush) :
      Triggered arm b c fx inService now { arm.shutValve with state := .flushing } true
  | short (hv : ¬ (b.preset ≤ b.figures.ng + b.figures.ne ∧ arm.state.underway = true))
      (hf : ¬ (fx.flushStart ≤ b.figures.ng + b.figures.ne ∧ arm.state = .delivering ∧ 0 < fx.flush)) :
      Triggered arm b c fx inService now arm false

theorem State.triggers_spec {s : State} {a : ArmId} {b : Batch} {c : ArmConfig} {fx : Fixed}
    (hb : (s.arm a).batch = some b) (hc : (s.arm a).config = some c) (hf : b.fixed = some fx) :
    ∃ arm releases, (s.arm a).Triggered b c fx s.inService s.now arm releases ∧ s.triggers a = s.withArm a arm releases := by
  unfold State.triggers
  rw [hb]
  dsimp only
  by_cases full : b.preset ≤ b.figures.ng + b.figures.ne ∧ (s.arm a).state.underway = true
  · obtain ⟨slots, starts, run⟩ := State.enterClosing_eq hb hc ⟨.complete, none⟩
    refine ⟨_, _, .full slots full.1 full.2 starts, ?_⟩
    rw [if_pos full, run, State.release_eq]
    unfold State.withArm
    rw [State.setArm_congr s a (fun arm => { arm.closed b c ⟨.complete, none⟩ s.now with slots := slots })
      (fun _ => { (s.arm a).closed b c ⟨.complete, none⟩ s.now with slots := slots }) rfl]
  · rw [if_neg full, hf]
    dsimp only
    by_cases flush : fx.flushStart ≤ b.figures.ng + b.figures.ne ∧ (s.arm a).state = .delivering ∧ 0 < fx.flush
    · obtain ⟨hv, hs, hpos⟩ := flush
      rw [if_pos ⟨hv, hs, hpos⟩]
      refine ⟨_, _, .flush (Nat.lt_of_not_le fun h => full ⟨h, by rw [hs]; rfl⟩) hv hs hpos, ?_⟩
      unfold State.enterFlushing State.withArm
      rw [if_pos rfl, State.release_eq, State.setArm_congr s a (fun arm => { arm.shutValve with state := .flushing })
        (fun _ => { (s.arm a).shutValve with state := .flushing }) rfl]
    · rw [if_neg flush]
      refine ⟨_, _, .short full flush, ?_⟩
      unfold State.withArm
      rw [if_neg Bool.false_ne_true, State.setArm_id s a _ rfl]

/-! ## After the triggers -/

/-- What the end of a computation may change after the triggers: the arm's strokes, the monitor, and the BAU with its
queue. -/
def endParts (a : ArmId) : Part → Bool
  | .arm x => x == a
  | .arithmeticQueue => true
  | .bau => true
  | .monitor => true
  | _ => false

theorem endParts_self (a : ArmId) : endParts a (.arm a) = true := decide_eq_true rfl

theorem State.changesOnly_monitor (s : State) (m : Monitor) {parts : Part → Bool} (h : parts .monitor = true) :
    s.changesOnly { s with monitor := m } parts := by
  refine ⟨rfl, fun q hout => ?_⟩
  cases q with
  | monitor => exact absurd (hout.symm.trans h) Bool.false_ne_true
  | _ => rfl

theorem State.withArm_spec {s : State} {a : ArmId} (arm : Arm) (releases : Bool) (hr : s.restartPending = false)
    (ha : a ∉ s.header.queue.map (·.arm)) :
    (s.withArm a arm releases).arm a = arm ∧ s.changesOnly (s.withArm a arm releases) fun q =>
      q == .header || q == .batchCounter || q == .storeQueue || q == .current || q == .walks ||
        match q with | .arm _ => true | _ => false := by
  unfold State.withArm
  cases releases with
  | false => exact ⟨State.arm_setArm_self s a fun _ => arm, s.changesOnly_setArm a (fun _ => arm) rfl⟩
  | true =>
    have examined := State.examine_apart (s := (s.setArm a fun _ => arm).grantGone a) (a := a) hr ha
    refine ⟨examined.1.trans (State.arm_setArm_self s a fun _ => arm), ?_⟩
    refine ((s.changesOnly_setArm a _ (by simp)).trans (State.changesOnly_grantGone _ a (by simp))).trans
      ((State.changesOnly_examine (s := (s.setArm a fun _ => arm).grantGone a) hr).mono fun q hq => ?_)
    cases q <;> simp_all [examinedParts]

theorem State.bauTake_of_idle {s : State} (h : s.bau = none) :
    s.bauTake = { s with
      bau := s.arithmeticQueue.head?.map fun q => ⟨q, s.now⟩, arithmeticQueue := s.arithmeticQueue.tail } := by
  cases hq : s.arithmeticQueue with
  | nil =>
    unfold State.bauTake
    rw [h, hq]
    dsimp only
    show s = { s with bau := none, arithmeticQueue := [] }
    rw [← h, ← hq]
  | cons r rest => exact State.bauTake_of_front h hq

/-- The end of a computation that is not final, after its triggers (R24, R84, R127, R182). -/
theorem State.ends_open {z : State} {r : TrimRequest} {rate : Option Nat} (hr : r.final = false)
    (hd : (z.arm r.arm).finalDone = false) (hbau : z.bau = none) :
    ∃ slots, (z.arm r.arm).startsStrokes z.inService z.now slots ∧
      ((z.reports r rate).bauTake).arm r.arm = { z.arm r.arm with slots := slots } ∧
      ((z.reports r rate).bauTake).bau = z.arithmeticQueue.head?.map (fun q => ⟨q, z.now⟩) ∧
      ((z.reports r rate).bauTake).arithmeticQueue = z.arithmeticQueue.tail ∧
      ((z.reports r rate).bauTake).monitor = (z.monitorTrim r.arm false rate).monitor ∧
      z.changesOnly ((z.reports r rate).bauTake) (endParts r.arm) := by
  obtain ⟨slots, starts, run⟩ := State.reports_of_open (rate := rate) hr hd
  have taken := State.bauTake_of_idle (s := z.reports r rate) (by rw [run]; exact hbau)
  refine ⟨slots, starts, ?_, ?_, ?_, ?_, ?_⟩
  · rw [taken, run]; exact State.arm_setArm_self z r.arm fun arm => { arm with slots := slots }
  · rw [taken, run]; rfl
  · rw [taken, run]; rfl
  · rw [taken, run]
  · rw [taken, run]
    exact ((z.changesOnly_setArm r.arm _ (endParts_self r.arm)).trans (State.changesOnly_monitor _ _ rfl)).trans
      (State.changesOnly_bauQueue _ _ _ rfl rfl)

end Sys2Proof.Machine
end

section
/-! PROOFS. The delivery checks, and a computation that is not final. -/

namespace Sys2Proof.Machine
open Sys2Proof

/-! ## The delivery checks (R15 to R17) -/

theorem checkCount_of_good (n : Nat) : checkCount n false = (0, false) := rfl

theorem checkCount_of_bad (n : Nat) : checkCount n true = if 2 ≤ n then (0, true) else (n + 1, false) := by
  unfold checkCount
  rw [if_pos rfl]
  exact if_congr (by omega) rfl rfl

/-- A check strikes on a bad window that is the third in a row. -/
theorem checkCount_strikes_iff {n : Nat} {bad : Bool} : (checkCount n bad).2 = true ↔ bad = true ∧ 2 ≤ n := by
  cases bad with
  | false => simp [checkCount_of_good]
  | true =>
    rw [checkCount_of_bad]
    split <;> simp_all

/-- The count after a judged window. -/
theorem checkCount_spec (n : Nat) (bad : Bool) :
    (¬ bad = true → (checkCount n bad).1 = 0) ∧ (bad = true → n < 2 → (checkCount n bad).1 = n + 1) ∧
      (bad = true → 2 ≤ n → (checkCount n bad).1 = 0) := by
  cases bad with
  | false => simp [checkCount_of_good]
  | true =>
    rw [checkCount_of_bad]
    split
    · next h => exact ⟨fun hb => absurd rfl hb, fun _ hlt => absurd h (Nat.not_le.mpr hlt), fun _ _ => rfl⟩
    · next h => exact ⟨fun hb => absurd rfl hb, fun _ _ => rfl, fun _ hle => absurd hle h⟩

theorem overspeedCheck_iff (f : Figures) :
    (overspeedCheck f).2 = true ↔ f.flowLimit * 105 / 100 < f.rate ∧ 2 ≤ f.overspeed := by
  unfold overspeedCheck
  rw [checkCount_strikes_iff, decide_eq_true_eq]

theorem excursionCheck_iff (p : Params) (f : Figures) :
    (excursionCheck p f).2 = true ↔ p.excursion < f.error.natAbs ∧ 2 ≤ f.excursion := by
  unfold excursionCheck
  rw [checkCount_strikes_iff, decide_eq_true_eq]

theorem ethanolOnlyWindow_iff (kind : RecipeKind) (w : WindowVolumes) :
    ethanolOnlyWindow kind w = true ↔ 0 < w.grossE ∧ (kind = .blend → w.grossG = 0) := by
  cases kind <;> simp [ethanolOnlyWindow]

theorem ethanolOnlyCheck_iff (kind : RecipeKind) (w : WindowVolumes) (f : Figures) :
    (ethanolOnlyCheck kind w f).2 = true ↔ (0 < w.grossE ∧ (kind = .blend → w.grossG = 0)) ∧ 2 ≤ f.ethanolOnly := by
  unfold ethanolOnlyCheck
  rw [checkCount_strikes_iff, ethanolOnlyWindow_iff]

theorem flowChecked_iff (st : ArmState) : flowChecked st = true ↔ st = .delivering ∨ st = .flushing := by
  cases st <;> simp [flowChecked]

theorem excursionMade_iff (st : ArmState) (snap : Snapshot) (f : Figures) :
    excursionMade st snap f = true ↔ st = .delivering ∧ snap.params.lowStart ≤ f.vg + f.ve ∧ snap.excursionOn = true := by
  unfold excursionMade
  rw [Bool.and_eq_true, Bool.and_eq_true, decide_eq_true_eq, decide_eq_true_eq, and_assoc]

/-- What the three checks read of the figures. -/
structure Figures.checksAlike (f g : Figures) : Prop where
  volume : f.vg + f.ve = g.vg + g.ve
  error : f.error = g.error
  rate : f.rate = g.rate
  flowLimit : f.flowLimit = g.flowLimit
  grace : f.grace = g.grace
  overspeed : f.overspeed = g.overspeed
  excursion : f.excursion = g.excursion
  ethanolOnly : f.ethanolOnly = g.ethanolOnly

theorem Figures.check_congr {f g : Figures} {v w : WindowVolumes} (st : ArmState) (snap : Snapshot) (h : f.checksAlike g)
    (hg : v.grossG = w.grossG) (he : v.grossE = w.grossE) :
    (f.check st snap v).grace = (g.check st snap w).grace ∧ (f.check st snap v).overspeed = (g.check st snap w).overspeed ∧
      (f.check st snap v).excursion = (g.check st snap w).excursion ∧
      (f.check st snap v).ethanolOnly = (g.check st snap w).ethanolOnly := by
  obtain ⟨volume, error, rate, flowLimit, grace, overspeed, excursion, ethanolOnly⟩ := h
  have window : ethanolOnlyWindow snap.kind v = ethanolOnlyWindow snap.kind w := by
    unfold ethanolOnlyWindow
    rw [hg, he]
  unfold Figures.check overspeedCheck excursionMade excursionCheck ethanolOnlyCheck
  dsimp only
  rw [volume, error, rate, flowLimit, grace, overspeed, excursion, ethanolOnly, window]
  exact ⟨rfl, rfl, rfl, rfl⟩

theorem deliveryChecks (f : Figures) (st : ArmState) (snap : Snapshot) (w : WindowVolumes) :
    let g := f.check st snap w
    let checked := st = .delivering ∨ st = .flushing
    let fast := f.flowLimit * 105 / 100 < f.rate
    let outside := snap.params.excursion < f.error.natAbs
    let judged := st = .delivering ∧ snap.params.lowStart ≤ f.vg + f.ve ∧ snap.excursionOn = true
    let only := 0 < w.grossE ∧ (snap.kind = .blend → w.grossG = 0)
    (checked → 0 < f.grace → g.overspeed = 0 ∧ g.grace = f.grace - 1) ∧
    (checked → f.grace = 0 → g.grace = 0 ∧ (¬ fast → g.overspeed = 0) ∧
      (fast → f.overspeed < 2 → g.overspeed = f.overspeed + 1) ∧
      (fast → 2 ≤ f.overspeed → g.overspeed = 0)) ∧
    (judged → (¬ outside → g.excursion = 0) ∧
      (outside → f.excursion < 2 → g.excursion = f.excursion + 1) ∧
      (outside → 2 ≤ f.excursion → g.excursion = 0)) ∧
    (¬ judged → g.excursion = f.excursion) ∧
    (checked → (¬ only → g.ethanolOnly = 0) ∧
      (only → f.ethanolOnly < 2 → g.ethanolOnly = f.ethanolOnly + 1) ∧
      (only → 2 ≤ f.ethanolOnly → g.ethanolOnly = 0)) ∧
    (¬ checked → g.overspeed = f.overspeed ∧ g.grace = f.grace ∧ g.ethanolOnly = f.ethanolOnly) := by
  intro g checked fast outside judged only
  have hfast : decide (f.flowLimit * 105 / 100 < f.rate) = true ↔ fast := decide_eq_true_iff
  have hout : decide (snap.params.excursion < f.error.natAbs) = true ↔ outside := decide_eq_true_iff
  have honly : ethanolOnlyWindow snap.kind w = true ↔ only := ethanolOnlyWindow_iff snap.kind w
  have speed := checkCount_spec f.overspeed (decide (f.flowLimit * 105 / 100 < f.rate))
  have away := checkCount_spec f.excursion (decide (snap.params.excursion < f.error.natAbs))
  have ethanol := checkCount_spec f.ethanolOnly (ethanolOnlyWindow snap.kind w)
  rw [hfast] at speed
  rw [hout] at away
  rw [honly] at ethanol
  refine ⟨fun hc hg => ?_, fun hc hg => ?_, fun hj => ?_, fun hj => ?_, fun hc => ?_, fun hc => ?_⟩
  · have made : flowChecked st = true := (flowChecked_iff st).mpr hc
    exact ⟨by show (if flowChecked st then _ else _) = _; rw [if_pos made, if_pos hg],
      by show (if flowChecked st && decide (0 < f.grace) then _ else _) = _
         rw [made, decide_eq_true hg]; rfl⟩
  · have made : flowChecked st = true := (flowChecked_iff st).mpr hc
    have idle : ¬ 0 < f.grace := by omega
    have count : g.overspeed = (overspeedCheck f).1 := by
      show (if flowChecked st then _ else _) = _
      rw [if_pos made, if_neg idle]
    have grace : g.grace = 0 := by
      show (if flowChecked st && decide (0 < f.grace) then _ else _) = _
      rw [decide_eq_false idle, Bool.and_false, if_neg Bool.false_ne_true, hg]
    rw [count]
    exact ⟨grace, speed⟩
  · have count : g.excursion = (excursionCheck snap.params f).1 := if_pos ((excursionMade_iff st snap f).mpr hj)
    rw [count]
    exact away
  · exact if_neg (mt (excursionMade_iff st snap f).mp hj)
  · have count : g.ethanolOnly = (ethanolOnlyCheck snap.kind w f).1 := if_pos ((flowChecked_iff st).mpr hc)
    rw [count]
    exact ethanol
  · have unmade : ¬ flowChecked st = true := mt (flowChecked_iff st).mp hc
    refine ⟨if_neg unmade, ?_, if_neg unmade⟩
    show (if flowChecked st && decide (0 < f.grace) then _ else _) = _
    rw [Bool.eq_false_iff.mpr unmade]
    rfl

/-! ## Stages D and E in an arm underway -/

theorem Computed.open_eq {st : ArmState} (b : Batch) (snap : Snapshot) (fx : Fixed) (c : ArmConfig) (limit : Option Nat)
    (r : TrimRequest) (h : st ≠ .closing) :
    let m := b.figures.measure snap.params c fx r
    let w := windowVolumes b.figures snap.params c r
    let rate := flowRate (w.grossG + w.grossE) r.duration
    let flowing := (trimStage st fx snap.params m).flow snap.params c b.preset limit rate
    computeStages st b snap fx c limit r =
      { volumes := w
        figures := flowing.check st snap w
        rate := some rate
        trimmed := trims st fx m
        saturated := trims st fx m && saturationReached snap.params m
        overspeed := flowChecked st && decide (flowing.grace = 0) && (overspeedCheck flowing).2
        excursion := excursionMade st snap flowing && (excursionCheck snap.params flowing).2
        ethanolOnly := flowChecked st && (ethanolOnlyCheck snap.kind w flowing).2 } := by
  intro m w rate flowing
  unfold computeStages
  rw [if_neg h]
  rfl

theorem saturatedAt_iff (p : Params) (e : Int) (u : Nat) :
    saturatedAt p e u = true ↔ u = p.uHi ∧ e < 0 ∨ u = p.uLo ∧ 0 < e := by
  unfold saturatedAt
  simp only [Bool.or_eq_true, Bool.and_eq_true, decide_eq_true_eq]

theorem trims_iff (st : ArmState) (fx : Fixed) (f : Figures) :
    trims st fx f = true ↔ st = .delivering ∧ f.ng + f.ne < fx.flushStart ∧ 0 < fx.goal := by
  unfold trims
  rw [Bool.and_eq_true, Bool.and_eq_true, decide_eq_true_eq, decide_eq_true_eq, decide_eq_true_eq, and_assoc]

/-- Stage D changes the valve command, the saturation count and its marker alone (R10, R11). -/
theorem trimStage_same {α : Type} (f : Figures → α) (hf : ∀ g p, f (Figures.trim g p) = f g) (st : ArmState) (fx : Fixed)
    (p : Params) (m : Figures) : f (trimStage st fx p m) = f m := by
  unfold trimStage
  split
  · exact hf m p
  · rfl

theorem stageFlow_eq (p : Params) (stage : Stage) :
    stageFlow p stage = match stage with | .lowStart => p.lowFlow | .main => p.mainFlow | .topOff => p.topOffFlow := by
  cases stage <;> rfl

/-! ## What a computation leaves of an arm -/

/-- An arm that a computation has changed beyond its entered figures: its state and causes, its timers, the ending and
the valve commands of its batch, the valve, its slots and its flags. -/
structure Arm.computedFrom (x arm : Arm) (b : Batch) : Prop where
  batch : ∃ e u resume, x.batch = some { b with
    ending := e, figures := { b.figures with u := u, uResume := resume } }
  config : x.config = arm.config
  totals : x.totals = arm.totals
  opened : x.opened = arm.opened
  finalDone : x.finalDone = arm.finalDone
  meterG : x.meterG = arm.meterG
  meterE : x.meterE = arm.meterE

theorem Arm.computedFrom_refl {arm : Arm} {b : Batch} (h : arm.batch = some b) : arm.computedFrom arm b :=
  ⟨⟨b.ending, b.figures.u, b.figures.uResume, h⟩, rfl, rfl, rfl, rfl, rfl, rfl⟩

theorem Arm.computedFrom_holding {arm : Arm} {b : Batch} (h : arm.batch = some b) (o : HeldFrom) (now : Nat) (hs : HoldSet) :
    (arm.holding o now hs).computedFrom arm b := by
  cases o with
  | delivering =>
    refine ⟨⟨b.ending, 0, b.figures.u, ?_⟩, rfl, rfl, rfl, rfl, rfl, rfl⟩
    unfold Arm.holding
    rw [h]
    rfl
  | flushing => exact ⟨⟨b.ending, b.figures.u, b.figures.uResume, h⟩, rfl, rfl, rfl, rfl, rfl, rfl⟩

theorem Arm.computedFrom.trans {x y arm : Arm} {b b₁ : Batch} (h : x.computedFrom arm b) (h' : y.computedFrom x b₁)
    (hb : x.batch = some b₁) : y.computedFrom arm b := by
  obtain ⟨e, u, resume, hbatch⟩ := h.batch
  obtain ⟨e', u', resume', hbatch'⟩ := h'.batch
  obtain rfl := Option.some.inj (hb.symm.trans hbatch)
  exact ⟨⟨e', u', resume', hbatch'⟩, h'.config.trans h.config, h'.totals.trans h.totals, h'.opened.trans h.opened,
    h'.finalDone.trans h.finalDone, h'.meterG.trans h.meterG, h'.meterE.trans h.meterE⟩

theorem Arm.computedFrom_withFlags {x arm : Arm} {b : Batch} (h : x.computedFrom arm b) (flags : FlagSet) :
    (x.withFlags flags).computedFrom arm b :=
  ⟨h.batch, h.config, h.totals, h.opened, h.finalDone, h.meterG, h.meterE⟩

theorem Arm.computedFrom_withSlots {x arm : Arm} {b : Batch} (h : x.computedFrom arm b) (slots : Vector Slot 3) :
    ({ x with slots := slots } : Arm).computedFrom arm b :=
  ⟨h.batch, h.config, h.totals, h.opened, h.finalDone, h.meterG, h.meterE⟩

theorem Arm.computedFrom_checkedBy {arm : Arm} {b : Batch} (h : arm.batch = some b) (k : Computed) (now : Nat) :
    (arm.checkedBy k now).computedFrom arm b := by
  have strikes {o : HeldFrom} (hs : arm.state = o.state) : (arm.checkedBy k now).computedFrom arm b := by
    by_cases hk : k.strikes
    · rw [Arm.checkedBy_of_strikes now hs hk]
      exact Arm.computedFrom_holding h o now _
    · rw [Arm.checkedBy_of_quiet arm now hk]
      exact Arm.computedFrom_refl h
  have idle (hs : arm.state.underway = false) : (arm.checkedBy k now).computedFrom arm b := by
    rw [Arm.checkedBy_of_not_underway k now hs]
    exact Arm.computedFrom_refl h
  cases hs : arm.state with
  | delivering => exact strikes (o := .delivering) hs
  | flushing => exact strikes (o := .flushing) hs
  | held o =>
    rw [Arm.checkedBy_of_held k now hs]
    exact ⟨⟨b.ending, b.figures.u, b.figures.uResume, h⟩, rfl, rfl, rfl, rfl, rfl, rfl⟩
  | _ => exact idle (by rw [hs]; rfl)

theorem Arm.Triggered.computedFrom {x y : Arm} {b : Batch} {c : ArmConfig} {fx : Fixed} {inService : Vector Bool 6}
    {now : Nat} {releases : Bool} (h : x.Triggered b c fx inService now y releases) (hb : x.batch = some b) :
    y.computedFrom x b := by
  cases h with
  | full slots => exact ⟨⟨_, _, _, rfl⟩, rfl, rfl, rfl, rfl, rfl, rfl⟩
  | flush =>
    refine ⟨⟨b.ending, 0, b.figures.uResume, ?_⟩, rfl, rfl, rfl, rfl, rfl, rfl⟩
    show x.batch.map _ = _
    rw [hb]
    rfl
  | short => exact Arm.computedFrom_refl hb

/-! ## A computation that is not final, in one piece -/

/-- A batch with the figures that computation `k` enters on its arm. -/
def Batch.computed (b : Batch) (arm : Arm) (snap : Snapshot) (c : ArmConfig) (k : Computed) : Batch :=
  { b with figures := k.entered (lagging snap c (arm.pace snap c (k.figures.vg + k.figures.ve))) }

/-- How a computation that is not final goes: `y` is the machine with the figures entered, the checks raised and the
store asked; the triggers make arm `x` of its arm, its grant going where `releases` says so; strokes, packet and BAU
lead on to `t`. -/
structure State.Goes (s : State) (r : TrimRequest) (b : Batch) (snap : Snapshot) (c : ArmConfig) (fx : Fixed)
    (k : Computed) (y t : State) (b₁ : Batch) (x : Arm) (releases : Bool) : Prop where
  raised : s.raises y r.arm k.raised
  checked : y.arm r.arm = (((s.arm r.arm).enter k).checkedBy k s.now).withFlags (y.arm r.arm).flags
  entered : s.changesOnly y fun q => checkParts r.arm q || postParts q
  batch : (y.arm r.arm).batch = some b₁
  figures : (y.arm r.arm).computedFrom ((s.arm r.arm).enter k) (b.computed (s.arm r.arm) snap c k)
  triggered : (y.arm r.arm).Triggered b₁ c fx y.inService y.now x releases
  struck : x.startsStrokes y.inService y.now (t.arm r.arm).slots
  arm : t.arm r.arm = { x with slots := (t.arm r.arm).slots }
  bau : t.bau = y.arithmeticQueue.head?.map fun q => ⟨q, y.now⟩
  queue : t.arithmeticQueue = y.arithmeticQueue.tail
  monitor : t.monitor = ((y.withArm r.arm x releases).monitorTrim r.arm false k.rate).monitor
  rest : (y.withArm r.arm x releases).changesOnly t (endParts r.arm)

theorem State.computation_goes {s : State} {r : TrimRequest} {started : Nat} {b : Batch} {snap : Snapshot} {fx : Fixed}
    {c : ArmConfig} (h : s.bau = some ⟨r, started⟩) (ha : (s.arm r.arm).state.admitted = true)
    (hb : (s.arm r.arm).batch = some b) (hs : b.snapshot = some snap) (hf : b.fixed = some fx)
    (hc : (s.arm r.arm).config = some c) (hfinal : r.final = false) (hdone : (s.arm r.arm).finalDone = false)
    (hr : s.restartPending = false) (hq : r.arm ∉ s.header.queue.map (·.arm)) :
    ∃ t b₁ x releases, exec .computationComplete s = .next t ∧ (s.computed started).Goes r b snap c fx
      (computeStages (s.arm r.arm).state b snap fx c s.header.grants[r.arm].limit r)
      ((s.computed started).enters r b (computeStages (s.arm r.arm).state b snap fx c s.header.grants[r.arm].limit r))
      t b₁ x releases := by
  obtain ⟨k, hk⟩ : ∃ k, k = computeStages (s.arm r.arm).state b snap fx c s.header.grants[r.arm].limit r := ⟨_, rfl⟩
  have run := exec_computationComplete h ha hb hs hf hc
  rw [← hk] at run ⊢
  obtain ⟨raised, checked, entered⟩ := State.enters_spec (s := s.computed started) (r := r) (b := b) (k := k) hr
  obtain ⟨y, hy⟩ : ∃ y, y = (s.computed started).enters r b k := ⟨_, rfl⟩
  rw [← hy] at run raised checked entered ⊢
  have armEq := Arm.enter_eq k hb hs hc
  have figures : (y.arm r.arm).computedFrom ((s.arm r.arm).enter k) (b.computed (s.arm r.arm) snap c k) := by
    have batch : ((s.arm r.arm).enter k).batch = some (b.computed (s.arm r.arm) snap c k) := by rw [armEq]; rfl
    rw [checked]
    exact Arm.computedFrom_withFlags (Arm.computedFrom_checkedBy batch k _) _
  obtain ⟨e, u, resume, hbatch⟩ := figures.batch
  obtain ⟨b₁, hb₁⟩ : ∃ b₁ : Batch, b₁ = { b.computed (s.arm r.arm) snap c k with
      ending := e, figures := { (b.computed (s.arm r.arm) snap c k).figures with u := u, uResume := resume } } := ⟨_, rfl⟩
  rw [← hb₁] at hbatch
  have config : (y.arm r.arm).config = some c := figures.config.trans (by rw [armEq]; exact hc)
  obtain ⟨x, releases, triggered, ran⟩ := State.triggers_spec hbatch config (show b₁.fixed = some fx by rw [hb₁]; exact hf)
  have fromY := triggered.computedFrom hbatch
  have header : y.header = s.header := entered.2 .header rfl
  obtain ⟨armX, changed⟩ := State.withArm_spec x releases ((entered.2 .restartPending rfl).trans hr) (by rw [header]; exact hq)
  have done : x.finalDone = false := by
    rw [fromY.finalDone, figures.finalDone, armEq]
    exact hdone
  have bau : (y.withArm r.arm x releases).bau = none := (changed.2 .bau rfl).trans (entered.2 .bau rfl)
  obtain ⟨slots, starts, arm, took, queue, monitor, rest⟩ := State.ends_open (rate := k.rate) hfinal
    (by rw [armX]; exact done) bau
  rw [armX, changed.2 .inService rfl, changed.2 .clock rfl] at starts
  rw [ran] at run
  rw [armX] at arm
  have armSlots := congrArg Arm.slots arm
  refine ⟨_, b₁, x, releases, run, raised, checked, entered, hbatch, figures, triggered, ?_, ?_, ?_, ?_, monitor, rest⟩
  · rw [armSlots]; exact starts
  · rw [armSlots]; exact arm
  · rw [took, changed.2 .arithmeticQueue rfl, changed.2 .clock rfl]
  · rw [queue, changed.2 .arithmeticQueue rfl]

end Sys2Proof.Machine
end

section
/-! PROOFS. A computation of an arm underway. -/

namespace Sys2Proof.Machine
open Sys2Proof

/-! ## A computation of an arm underway -/

theorem ArmState.underway_cases {st : ArmState} (h : st.underway = true) : (∃ o : HeldFrom, st = o.state) ∨ ∃ o, st = .held o := by
  cases st with
  | delivering => exact .inl ⟨.delivering, rfl⟩
  | flushing => exact .inl ⟨.flushing, rfl⟩
  | held o => exact .inr ⟨o, rfl⟩
  | _ => cases h

theorem ArmState.ne_closing {st : ArmState} (h : st.underway = true) : st ≠ .closing := by
  rintro rfl
  cases h

theorem stageOf_congr {f g : Figures} (p : Params) (preset : Nat) (hg : f.vg + f.ve = g.vg + g.ve) (hn : f.ng + f.ne = g.ng + g.ne) :
    stageOf p preset f = stageOf p preset g := by
  unfold stageOf
  rw [hg, hn]

/-- What the measuring of a window leaves of the figures that Stages D and E go on with. -/
theorem Figures.measure_kept (f : Figures) (p : Params) (c : ArmConfig) (fx : Fixed) (r : TrimRequest) :
    (f.measure p c fx r).rate = f.rate ∧ (f.measure p c fx r).flowLimit = f.flowLimit ∧
      (f.measure p c fx r).grace = f.grace ∧ (f.measure p c fx r).overspeed = f.overspeed ∧
      (f.measure p c fx r).excursion = f.excursion ∧ (f.measure p c fx r).ethanolOnly = f.ethanolOnly ∧
      (f.measure p c fx r).u = f.u ∧ (f.measure p c fx r).saturation = f.saturation ∧
      (f.measure p c fx r).markers.trimSaturated = f.markers.trimSaturated := by
  cases f
  exact ⟨rfl, rfl, rfl, rfl, rfl, rfl, rfl, rfl, rfl⟩

theorem Arm.Triggered.flags {x arm : Arm} {b : Batch} {c : ArmConfig} {fx : Fixed} {inService : Vector Bool 6} {now : Nat}
    {releases : Bool} (h : arm.Triggered b c fx inService now x releases) : x.flags = arm.flags := by
  cases h <;> rfl

theorem Arm.Triggered.of_full {x arm : Arm} {b : Batch} {c : ArmConfig} {fx : Fixed} {inService : Vector Bool 6} {now : Nat}
    {releases : Bool} (h : arm.Triggered b c fx inService now x releases)
    (hv : b.preset ≤ b.figures.ng + b.figures.ne) (hu : arm.state.underway = true) :
    (∃ slots, x = { arm.closed b c ⟨.complete, none⟩ now with slots := slots }) ∧ releases = arm.state.holdsGrant := by
  cases h with
  | full slots => exact ⟨⟨slots, rfl⟩, rfl⟩
  | flush hlt => exact absurd hv (Nat.not_le.mpr hlt)
  | short hv' => exact absurd ⟨hv, hu⟩ hv'

theorem Arm.Triggered.of_flush {x arm : Arm} {b : Batch} {c : ArmConfig} {fx : Fixed} {inService : Vector Bool 6} {now : Nat}
    {releases : Bool} (h : arm.Triggered b c fx inService now x releases) (hv : b.figures.ng + b.figures.ne < b.preset)
    (hs : arm.state = .delivering) (hf : fx.flushStart ≤ b.figures.ng + b.figures.ne) (hpos : 0 < fx.flush) :
    x = { arm.shutValve with state := .flushing } ∧ releases = true := by
  cases h with
  | full slots hle => exact absurd hle (Nat.not_le.mpr hv)
  | flush => exact ⟨rfl, rfl⟩
  | short _ hf' => exact absurd ⟨hf, hs, hpos⟩ hf'

theorem Arm.Triggered.of_short {x arm : Arm} {b : Batch} {c : ArmConfig} {fx : Fixed} {inService : Vector Bool 6} {now : Nat}
    {releases : Bool} (h : arm.Triggered b c fx inService now x releases)
    (hv : ¬ (b.preset ≤ b.figures.ng + b.figures.ne ∧ arm.state.underway = true))
    (hf : ¬ (fx.flushStart ≤ b.figures.ng + b.figures.ne ∧ arm.state = .delivering ∧ 0 < fx.flush)) :
    x = arm ∧ releases = false := by
  cases h with
  | full slots hle hu => exact absurd ⟨hle, hu⟩ hv
  | flush _ hf' hs hpos => exact absurd ⟨hf', hs, hpos⟩ hf
  | short => exact ⟨rfl, rfl⟩

theorem Arm.Triggered.causes_of_short {x arm : Arm} {b : Batch} {c : ArmConfig} {fx : Fixed} {inService : Vector Bool 6}
    {now : Nat} {releases : Bool} (h : arm.Triggered b c fx inService now x releases)
    (hv : b.figures.ng + b.figures.ne < b.preset) : x.causes = arm.causes := by
  cases h with
  | full slots hle => exact absurd hle (Nat.not_le.mpr hv)
  | flush => rfl
  | short => rfl

/-! ## A computation that asks nothing of the store -/

theorem State.posts_of_quiet {s : State} {a : ArmId} {b : Batch} {gross : Nat}
    (h : (b.figures.vg + b.figures.ve) / 500000 = gross / 500000)
    (hfirst : ¬ (b.figures.firstLitre = false ∧ 1000 ≤ gross)) : s.posts a b gross = s := by
  unfold State.posts State.checkpointIfCrossed
  rw [h]
  dsimp only
  rw [if_neg hfirst, if_neg (Nat.lt_irrefl _)]

theorem State.enters_of_quiet {s : State} {r : TrimRequest} {b : Batch} {k : Computed}
    (h : (b.figures.vg + b.figures.ve) / 500000 = (k.figures.vg + k.figures.ve) / 500000)
    (hfirst : ¬ (b.figures.firstLitre = false ∧ 1000 ≤ k.figures.vg + k.figures.ve)) :
    s.changesOnly (s.enters r b k) (checkParts r.arm) := by
  unfold State.enters
  rw [State.posts_of_quiet h hfirst]
  exact (s.changesOnly_setArm r.arm _ (checkParts_self r.arm)).trans (State.raiseChecks_spec _ r.arm k).2.2

theorem State.changesOnly_computed (s : State) (started : Nat) {parts : Part → Bool} (hc : parts .clock = true)
    (hb : parts .bau = true) : s.changesOnly (s.computed started) parts := by
  refine ⟨rfl, fun q hout => ?_⟩
  cases q with
  | clock => exact absurd (hout.symm.trans hc) Bool.false_ne_true
  | bau => exact absurd (hout.symm.trans hb) Bool.false_ne_true
  | _ => rfl

/-- The parts that a computation may change before its triggers. -/
theorem enteredParts_mono {a : ArmId} (q : Part) : (checkParts a q || postParts q) = true →
    (q == .clock || q == .arm a || q == .header || q == .bau || q == .cache || q == .storeQueue || q == .current ||
      q == .walks || match q with | .port _ => true | _ => false) = true := by
  intro hq
  cases q with
  | arm x =>
    obtain rfl : x = a := by simpa [checkParts, postParts] using hq
    simp
  | port => simp
  | cache => rfl
  | storeQueue => rfl
  | current => rfl
  | walks => rfl
  | _ => exact absurd hq Bool.false_ne_true

theorem endParts_mono {a : ArmId} (q : Part) : endParts a q = true →
    (q == .arm a || q == .arithmeticQueue || q == .bau || q == .monitor) = true := by
  intro hq
  cases q with
  | arm x =>
    obtain rfl : x = a := by simpa [endParts] using hq
    simp
  | arithmeticQueue => rfl
  | bau => rfl
  | monitor => rfl
  | _ => exact absurd hq Bool.false_ne_true

/-! ## The states that the checks leave -/

/-- What the checks make of the state of an arm underway. -/
theorem Arm.state_checkedBy {arm : Arm} (k : Computed) (now : Nat) (h : arm.state.underway = true) :
    (arm.checkedBy k now).state.underway = true ∧
      (arm.checkedBy k now).state.holdsGrant = arm.state.holdsGrant ∧
      ((arm.checkedBy k now).state = .delivering ↔ arm.state = .delivering ∧ ¬ k.strikes) := by
  rcases ArmState.underway_cases h with ⟨o, ho⟩ | ⟨o, ho⟩
  · by_cases hk : k.strikes
    · rw [Arm.checkedBy_of_strikes now ho hk, Arm.state_holding, ho]
      exact ⟨rfl, by cases o <;> rfl, fun e => (nomatch e), fun hand => absurd hk hand.2⟩
    · rw [Arm.checkedBy_of_quiet arm now hk]
      exact ⟨h, rfl, fun e => ⟨e, hk⟩, And.left⟩
  · have same : (arm.checkedBy k now).state = .held o := by rw [Arm.checkedBy_of_held k now ho]; exact ho
    rw [same, ho]
    exact ⟨rfl, rfl, fun e => (nomatch e), fun hand => nomatch hand.1⟩

/-- Settles O50: the checks by their counts, and a computation by the case of its arm's state and of the triggers. -/
theorem deliveryChecksStrikeOnTheThirdWindow : Obligations.DeliveryChecksStrikeOnTheThirdWindow := by
  unfold Obligations.DeliveryChecksStrikeOnTheThirdWindow
  refine ⟨?_, ?_⟩
  case refine_1 =>
    intro f st snap w g checked fast outside judged only
    obtain ⟨graced, judgedSpeed, judgedRatio, unjudged, judgedEthanol, unchecked⟩ := deliveryChecks f st snap w
    exact ⟨graced, judgedSpeed, judgedRatio, unjudged, judgedEthanol, unchecked, overspeedCheck_iff f,
      excursionCheck_iff snap.params f, ethanolOnlyCheck_iff snap.kind w f⟩
  case refine_2 =>
    intro r started b snap fx config s hbau hunder hb hsnap hfixed hconfig hfinal hdone hrestart hqueue hdur p f st dvg dve
      gross ne v error trimmed u saturated reached rate stage stageLimit flowLimit grace counted checked overspeed excursion
      ethanolOnly struck released
    have admitted : (s.arm r.arm).state.admitted = true := by
      rcases ArmState.underway_cases hunder with ⟨o, ho⟩ | ⟨o, ho⟩
      · rw [ho]; cases o <;> rfl
      · rw [ho]; rfl
    have went := State.computation_goes hbau admitted hb hsnap hfixed hconfig hfinal hdone hrestart hqueue
    obtain ⟨limit, hlimit⟩ : ∃ limit, limit = s.header.grants[r.arm].limit := ⟨_, rfl⟩
    have stages := Computed.open_eq b snap fx config limit r (ArmState.ne_closing hunder)
    obtain ⟨k, hk⟩ : ∃ k, k = computeStages (s.arm r.arm).state b snap fx config limit r := ⟨_, rfl⟩
    obtain ⟨m, hm⟩ : ∃ m, m = b.figures.measure snap.params config fx r := ⟨_, rfl⟩
    obtain ⟨flowing, hflowing⟩ : ∃ flowing, flowing = (trimStage st fx p m).flow p config b.preset limit
      (flowRate (dvg + dve) r.duration) := ⟨_, rfl⟩
    obtain ⟨w, hw, hwg, hwe⟩ : ∃ w, w = windowVolumes b.figures snap.params config r ∧ w.grossG = dvg ∧ w.grossE = dve :=
      ⟨_, rfl, rfl, rfl⟩
    dsimp only at stages
    rw [← hk, ← hm, ← hw, hwg, hwe, ← hflowing] at stages
    obtain ⟨mrate, mlimit, mgrace, mspeed, mratio, methanol, mu, msaturation, mmarker⟩ :
        m.rate = f.rate ∧ m.flowLimit = f.flowLimit ∧ m.grace = f.grace ∧ m.overspeed = f.overspeed ∧
          m.excursion = f.excursion ∧ m.ethanolOnly = f.ethanolOnly ∧ m.u = f.u ∧ m.saturation = f.saturation ∧
          m.markers.trimSaturated = f.markers.trimSaturated :=
      hm ▸ Figures.measure_kept b.figures snap.params config fx r
    have hmv : m.ng + m.ne = v := by rw [hm]; rfl
    have hmg : m.vg + m.ve = gross := by
      rw [hm]
      show f.vg + dvg + (f.ve + dve) = f.vg + f.ve + dvg + dve
      omega
    have hme : m.error = error := by rw [hm]; rfl
    have trims : trims st fx m = true ↔ trimmed := by rw [hm]; exact trims_iff st fx _
    have same {α : Type} (g : Figures → α) (hg : ∀ h q, g (Figures.trim h q) = g h) : g (trimStage st fx p m) = g m :=
      trimStage_same g hg st fx p m
    have hvolume : flowing.vg + flowing.ve = gross := by
      rw [hflowing, ← hmg]
      exact same (fun f => f.vg + f.ve) fun _ _ => rfl
    have hstage : flowing.stage = stage := by
      rw [hflowing]
      show stageOf p b.preset (trimStage st fx p m) = stage
      unfold stageOf
      rw [same (·.ng) fun _ _ => rfl, same (·.ne) fun _ _ => rfl, same (·.vg) fun _ _ => rfl, same (·.ve) fun _ _ => rfl,
        hmv, hmg]
      exact if_congr (by rw [Nat.add_comm]) rfl rfl
    have hflow : flowing.flowLimit = flowLimit := by
      have stageEq : stageFlow p flowing.stage = stageLimit := by rw [hstage]; exact stageFlow_eq p stage
      have limitEq : flowing.flowLimit = withAllotment (stageFlow p flowing.stage) limit := by rw [hflowing]; rfl
      rw [limitEq, stageEq, hlimit]
      show withAllotment stageLimit s.header.grants[r.arm].limit = match s.header.grants[r.arm].limit with | none => stageLimit | some l => min stageLimit l
      cases s.header.grants[r.arm].limit <;> rfl
    have hrate : flowing.rate = rate := by
      have positive : flowRate (dvg + dve) r.duration = (dvg + dve) * 60 / r.duration := if_neg hdur.ne'
      have rateEq : flowing.rate = smoothedRate (trimStage st fx p m).rate (flowRate (dvg + dve) r.duration) config.smoothing := by
        rw [hflowing]; rfl
      rw [rateEq, positive, same (·.rate) fun _ _ => rfl, mrate]
      rfl
    have hgrace : flowing.grace = grace := by
      have graceEq : flowing.grace = if flowing.flowLimit < (trimStage st fx p m).flowLimit then 2 else (trimStage st fx p m).grace := by
        rw [hflowing]; rfl
      rw [graceEq, hflow, same (·.flowLimit) fun _ _ => rfl, same (·.grace) fun _ _ => rfl, mlimit, mgrace]
    have herror : flowing.error = error := by
      rw [hflowing, ← hme]
      exact same (·.error) fun _ _ => rfl
    have counts : flowing.overspeed = f.overspeed ∧ flowing.excursion = f.excursion ∧ flowing.ethanolOnly = f.ethanolOnly := by
      rw [← mspeed, ← mratio, ← methanol, hflowing]
      exact ⟨same (·.overspeed) fun _ _ => rfl, same (·.excursion) fun _ _ => rfl, same (·.ethanolOnly) fun _ _ => rfl⟩
    have alike : flowing.checksAlike { f with
        vg := f.vg + dvg, ve := f.ve + dve, error := error, rate := rate, flowLimit := flowLimit, grace := grace } := by
      refine ⟨?_, herror, hrate, hflow, hgrace, counts.1, counts.2.1, counts.2.2⟩
      rw [hvolume]
      show f.vg + f.ve + dvg + dve = f.vg + dvg + (f.ve + dve)
      omega
    obtain ⟨cgrace, cspeed, cratio, cethanol⟩ := Figures.check_congr (v := w) (w := ⟨dvg, dve, 0, 0⟩) st snap alike hwg hwe
    have hspeed : k.overspeed = true ↔ overspeed := by
      rw [stages]
      show (flowChecked st && decide (flowing.grace = 0) && (overspeedCheck flowing).2) = true ↔ _
      rw [Bool.and_eq_true, Bool.and_eq_true, flowChecked_iff, decide_eq_true_eq, overspeedCheck_iff, hgrace, hflow, hrate,
        counts.1, and_assoc]
    have hratio : k.excursion = true ↔ excursion := by
      rw [stages]
      show (excursionMade st snap flowing && (excursionCheck snap.params flowing).2) = true ↔ _
      rw [Bool.and_eq_true, excursionMade_iff, excursionCheck_iff, hvolume, herror, counts.2.1, and_assoc, and_assoc]
    have hethanol : k.ethanolOnly = true ↔ ethanolOnly := by
      rw [stages]
      show (flowChecked st && (ethanolOnlyCheck snap.kind w flowing).2) = true ↔ _
      rw [Bool.and_eq_true, flowChecked_iff, ethanolOnlyCheck_iff, counts.2.2, hwg, hwe]
    have hstrikes : k.strikes ↔ struck := or_congr hspeed (or_congr hratio hethanol)
    have hu : k.figures.u = u := by
      rw [hk, computeStages_u, ← hm]
      exact if_congr trims (by rw [hme]) rfl
    have hsat (htrim : trimmed) : saturatedAt p m.error (trimmedCommand p m.error m.u) = true ↔ saturated := by
      have command : u = trimmedCommand p m.error m.u := by rw [hme, mu]; exact if_pos htrim
      rw [← command, hme, saturatedAt_iff]
      exact ⟨fun h => ⟨htrim, h⟩, And.right⟩
    have hsr (htrim : trimmed) : saturationReached p m = true ↔ reached := by
      unfold saturationReached
      rw [Bool.and_eq_true, hsat htrim, decide_eq_true_eq, msaturation]
    have hsaturated : (trimStage st fx p m).saturation =
        (if trimmed then (if saturated then (if reached then 0 else f.saturation + 1) else 0) else f.saturation) := by
      unfold trimStage
      by_cases htrim : trimmed
      · rw [if_pos (trims.mpr htrim), if_pos htrim]
        show (if saturatedAt p m.error (trimmedCommand p m.error m.u) then
          (if p.nSat ≤ m.saturation + 1 then 0 else m.saturation + 1) else 0) = _
        rw [msaturation]
        by_cases hs : saturated
        · rw [if_pos ((hsat htrim).mpr hs), if_pos hs]
          exact if_congr ⟨fun hn => ⟨hs, hn⟩, And.right⟩ rfl rfl
        · rw [if_neg (mt (hsat htrim).mp hs), if_neg hs]
      · rw [if_neg (mt trims.mp htrim), if_neg htrim, msaturation]
    have hreached : k.saturated = true ↔ reached := by
      rw [stages]
      show (Machine.trims st fx m && saturationReached p m) = true ↔ _
      rw [Bool.and_eq_true, trims]
      exact ⟨fun ⟨htrim, hr⟩ => (hsr htrim).mp hr, fun hr => ⟨hr.1.1, (hsr hr.1.1).mpr hr⟩⟩
    have hmarker : (trimStage st fx p m).markers.trimSaturated = true ↔ f.markers.trimSaturated = true ∨ reached := by
      unfold trimStage
      by_cases htrim : trimmed
      · rw [if_pos (trims.mpr htrim)]
        show (m.markers.trimSaturated || saturationReached p m) = true ↔ _
        rw [Bool.or_eq_true, mmarker, hsr htrim]
      · rw [if_neg (mt trims.mp htrim), mmarker]
        exact ⟨.inl, fun h => h.resolve_right fun hr => htrim hr.1.1⟩
    rw [← hlimit, ← hk] at went
    obtain ⟨t, b₁, x, releases, run, raised, hchecked, entered, hb₁, hfigures, triggered, struck', arm, bau, queue, monitor,
      rest⟩ := went
    obtain ⟨y, hy⟩ : ∃ y, y = (s.computed started).enters r b k := ⟨_, rfl⟩
    rw [← hy] at raised hchecked entered hb₁ hfigures triggered struck' bau queue monitor rest
    obtain ⟨E, hE⟩ : ∃ E : Arm, E = (s.arm r.arm).enter k := ⟨_, rfl⟩
    obtain ⟨B, hB⟩ : ∃ B : Batch, B = b.computed (s.arm r.arm) snap config k := ⟨_, rfl⟩
    replace hfigures : (y.arm r.arm).computedFrom E B := by rw [hE, hB]; exact hfigures
    replace hchecked : y.arm r.arm = (E.checkedBy k (s.computed started).now).withFlags (y.arm r.arm).flags := by
      rw [hE]; exact hchecked
    have hEeq := Arm.enter_eq k hb hsnap hconfig
    rw [← hE] at hEeq
    have hEstate : E.state = st := by rw [hEeq]
    have hEbatch : E.batch = some B := by rw [hEeq, hB]; rfl
    have hpreset : b₁.preset = b.preset ∧ b₁.figures.ng + b₁.figures.ne = v := by
      obtain ⟨e₁, u₁, resume₁, hbatch₁⟩ := hfigures.batch
      have kv : k.figures.ng + k.figures.ne = v := by
        rw [stages, ← hmv]
        show flowing.ng + flowing.ne = _
        rw [hflowing]
        exact same (fun f => f.ng + f.ne) fun _ _ => rfl
      rw [Option.some.inj (hb₁.symm.trans hbatch₁), hB, ← kv]
      exact ⟨rfl, rfl⟩
    obtain ⟨hyunder, hygrant, hydelivers⟩ := Arm.state_checkedBy k (s.computed started).now (arm := E) (by rw [hEstate]; exact hunder)
    have hystate : (y.arm r.arm).state = (E.checkedBy k (s.computed started).now).state := by rw [hchecked]; rfl
    rw [← hystate, hEstate] at hygrant hydelivers
    rw [← hystate] at hyunder
    rw [hstrikes] at hydelivers
    have hynow : y.now = (s.computed started).now := entered.2 .clock rfl
    have running : y.restartPending = false := (entered.2 .restartPending rfl).trans hrestart
    have yheader : y.header = s.header := entered.2 .header rfl
    obtain ⟨armX, changed⟩ := State.withArm_spec x releases running (by rw [yheader]; exact hqueue)
    have tnow : t.now = y.now := (rest.2 .clock rfl).trans (changed.2 .clock rfl)
    have hreleases : releases = true ↔ released := by
      by_cases hfull : b.preset ≤ v
      · obtain ⟨-, hrel⟩ := triggered.of_full (by rw [hpreset.1, hpreset.2]; exact hfull) hyunder
        rw [hrel, hygrant, ArmState.holdsGrant_iff]
        exact ⟨fun h => .inl ⟨hfull, h⟩, fun h => h.elim And.right fun hand => absurd hfull (Nat.not_le.mpr hand.1)⟩
      · have hshort : v < b.preset := Nat.not_le.mp hfull
        by_cases hflush : fx.flushStart ≤ v ∧ (y.arm r.arm).state = .delivering ∧ 0 < fx.flush
        · obtain ⟨hreach, hdelivers, hpos⟩ := hflush
          obtain ⟨-, hrel⟩ := triggered.of_flush (by rw [hpreset.1, hpreset.2]; exact hshort) hdelivers
            (by rw [hpreset.2]; exact hreach) hpos
          obtain ⟨delivers, quiet⟩ := hydelivers.mp hdelivers
          exact iff_of_true hrel (.inr ⟨hshort, quiet, delivers, hreach, hpos⟩)
        · obtain ⟨-, hrel⟩ := triggered.of_short (by rw [hpreset.1, hpreset.2]; exact fun hand => hfull hand.1)
            (by rw [hpreset.2]; exact hflush)
          refine iff_of_false (by rw [hrel]; exact Bool.false_ne_true) fun h => h.elim (fun hand => hfull hand.1) ?_
          exact fun ⟨_, quiet, delivers, hreach, hpos⟩ => hflush ⟨hreach, hydelivers.mpr ⟨delivers, quiet⟩, hpos⟩
    have stands (hrel : releases = false) : t.header = s.header ∧ t.batchCounter = s.batchCounter := by
      have still : y.withArm r.arm x releases = y.setArm r.arm fun _ => x := by rw [hrel]; rfl
      rw [still] at rest
      exact ⟨(rest.2 .header rfl).trans yheader, (rest.2 .batchCounter rfl).trans (entered.2 .batchCounter rfl)⟩
    have examines (hrel : releases = true) :
        y.withArm r.arm x releases = ((y.setArm r.arm fun _ => x).grantGone r.arm).examine := by rw [hrel]; rfl
    have gone (hrel : releases = true) : t.header.grants[r.arm] = ⟨0, none⟩ := by
      have out : r.arm ∉ ((y.setArm r.arm fun _ => x).grantGone r.arm).header.queue.map (·.arm) := by
        show r.arm ∉ y.header.queue.map (·.arm)
        rw [yheader]
        exact hqueue
      rw [show t.header = _ from rest.2 .header rfl, examines hrel,
        (State.examine_apart (s := (y.setArm r.arm fun _ => x).grantGone r.arm) running out).2]
      exact State.grants_grantGone _ r.arm
    have hfrom := hfigures.trans (triggered.computedFrom hb₁) hb₁
    obtain ⟨e, u', resume, hbatch⟩ := (hfigures.trans (triggered.computedFrom hb₁) hb₁).batch
    obtain ⟨b', hb'⟩ : ∃ b' : Batch, b' = { B with
      ending := e, figures := { B.figures with u := u', uResume := resume } } := ⟨_, rfl⟩
    rw [← hb'] at hbatch
    have batch : (t.arm r.arm).batch = some b' := by rw [arm]; exact hbatch
    have kfigures : k.figures = flowing.check st snap w := by rw [stages]
    refine ⟨t, b', run, batch, ?_, ?_, ?_, ?_, ?_, ?_, ?_, ?_, ?_, fun z => ?_, fun hfull => ?_, fun hshort hheld => ?_,
      fun hshort hquiet hst => ?_, fun hshort hquiet hst => ?_, fun hrel => ?_, fun hrel => ?_⟩
    · rw [hb', hB]
      show k.figures.saturation = _
      rw [kfigures, ← hsaturated, hflowing]
      rfl
    · rw [hb', hB]
      show k.figures.markers.trimSaturated = true ↔ _
      rw [kfigures, ← hmarker, hflowing]
      rfl
    · rw [hb', hB]
      show k.figures.rate = _
      rw [kfigures]
      exact hrate
    · rw [hb', hB]
      show k.figures.stage = _
      rw [kfigures]
      exact hstage
    · rw [hb', hB]
      show k.figures.flowLimit = _
      rw [kfigures]
      exact hflow
    · rw [hb', hB]
      show k.figures.grace = _
      rw [kfigures]
      exact cgrace
    · rw [hb', hB]
      show k.figures.overspeed = _
      rw [kfigures]
      exact cspeed
    · rw [hb', hB]
      show k.figures.excursion = _
      rw [kfigures]
      exact cratio
    · rw [hb', hB]
      show k.figures.ethanolOnly = _
      rw [kfigures]
      exact cethanol
    · rw [arm]
      show FlagSet.has x.flags z = true ↔ _
      rw [triggered.flags, raised.flags z]
      unfold Computed.raised
      rw [hreached, hratio, hspeed, hethanol]
      rfl
    · obtain ⟨⟨slots, hx⟩, -⟩ := triggered.of_full (by rw [hpreset.1, hpreset.2]; exact hfull) hyunder
      rw [hx] at hbatch
      have ended : b' = { b₁ with ending := some ⟨.complete, none⟩, figures := { b₁.figures with u := 0 } } :=
        (Option.some.inj hbatch).symm
      rw [arm, hx, tnow]
      exact ⟨rfl, by rw [ended], rfl, by rw [ended], rfl, rfl⟩
    · have unfull : ¬ (b₁.preset ≤ b₁.figures.ng + b₁.figures.ne ∧ (y.arm r.arm).state.underway = true) := by
        rw [hpreset.1, hpreset.2]
        exact fun hand => absurd hand.1 (Nat.not_le.mpr hshort)
      have snapshot : E.snapshot = some snap := by
        unfold Arm.snapshot
        rw [hEbatch, hB]
        exact hsnap
      rcases ArmState.underway_cases hunder with ⟨o, ho⟩ | ⟨o, ho⟩
      · have hst : st = o.state := ho
        have unheld : st.isHeld = false := by rw [hst]; cases o <;> rfl
        have strikes : k.strikes := hstrikes.mpr (hheld.resolve_right (by rw [unheld]; exact Bool.false_ne_true))
        have checkedE := Arm.checkedBy_of_strikes (s.computed started).now (hEstate.trans hst) strikes
        rw [checkedE] at hchecked
        obtain ⟨hx, -⟩ := triggered.of_short unfull fun hand => by
          rw [hchecked] at hand
          exact nomatch (Arm.state_holding E o _ _).symm.trans hand.2.1
        have timer : (t.arm r.arm).holdTimer = some (t.now + p.holdLimit * 1000 * 1000) ∧
            (t.arm r.arm).causes = k.causes 0 ∧ (t.arm r.arm).state = .held o := by
          rw [arm, hx, hchecked, tnow, hynow]
          cases o <;> exact ⟨by show some (_ + (E.snapshot.map _).getD 0 * 1000 * 1000) = _; rw [snapshot]; rfl, rfl, rfl⟩
        refine ⟨?_, fun z => ?_, ?_, fun hdelivers => ?_⟩
        · rw [timer.2.2, hst]
          cases o <;> rfl
        · rw [timer.2.1, Computed.has_causes, hratio, hspeed, hethanol, unheld]
          simp [HoldSet.has]
        · rw [unheld]
          exact timer.1
        · have delivers : o = .delivering := by cases o with
            | delivering => rfl
            | flushing => cases hst.symm.trans hdelivers
          subst delivers
          have resumes : b' = { B with figures := { B.figures with uResume := B.figures.u, u := 0 } } := by
            have holds : x.batch = E.batch.map fun b => { b with figures := { b.figures with uResume := b.figures.u, u := 0 } } := by
              rw [hx, hchecked]
              rfl
            rw [hEbatch] at holds
            exact Option.some.inj (hbatch.symm.trans holds)
          refine ⟨by rw [resumes], ?_, by rw [arm, hx, hchecked]; rfl⟩
          rw [resumes, hB]
          exact hu
      · have hst : st = .held o := ho
        rw [Arm.checkedBy_of_held k _ (hEstate.trans hst)] at hchecked
        obtain ⟨hx, -⟩ := triggered.of_short unfull fun hand => by
          rw [hchecked] at hand
          exact nomatch (hEstate.trans hst).symm.trans hand.2.1
        have causes : (t.arm r.arm).causes = k.causes (s.arm r.arm).causes := by rw [arm, hx, hchecked, hEeq]; rfl
        refine ⟨?_, fun z => ?_, ?_, fun hdelivers => nomatch hst.symm.trans hdelivers⟩
        · rw [arm, hx, hchecked, hst]
          exact hEstate.trans hst
        · rw [causes, Computed.has_causes, hratio, hspeed, hethanol, hst]
          simp [ArmState.isHeld]
        · rw [arm, hx, hchecked, hst, hEeq]
          rfl
    · have quiet : E.checkedBy k (s.computed started).now = E := Arm.checkedBy_of_quiet E _ (mt hstrikes.mp hquiet)
      obtain ⟨hx, -⟩ := triggered.of_short (by rw [hpreset.1, hpreset.2]; exact fun hand => absurd hand.1 (Nat.not_le.mpr hshort))
        fun hand => by rw [hystate, quiet, hEstate, hst] at hand; cases hand.2.1
      rw [arm, hx, hchecked, quiet, hEeq]
      exact ⟨hst, rfl⟩
    · have hquietE : E.checkedBy k (s.computed started).now = E := Arm.checkedBy_of_quiet E _ (mt hstrikes.mp hquiet)
      rw [hquietE] at hchecked
      have hb₁B : b₁ = B := by
        rw [hchecked] at hb₁
        exact (Option.some.inj (hEbatch.symm.trans hb₁)).symm
      have delivers : (y.arm r.arm).state = .delivering := by rw [hchecked]; exact hEstate.trans hst
      refine ⟨?_, fun ⟨hreach, hpos⟩ => ?_, fun hstop => ?_⟩
      · rw [arm]
        show x.causes = _
        rw [triggered.causes_of_short (by rw [hpreset.1, hpreset.2]; exact hshort), hchecked, hEeq]
        rfl
      · obtain ⟨hx, hrel⟩ := triggered.of_flush (by rw [hpreset.1, hpreset.2]; exact hshort) delivers
          (by rw [hpreset.2]; exact hreach) hpos
        have shut : b' = { b₁ with figures := { b₁.figures with u := 0 } } := by
          have holds : x.batch = (y.arm r.arm).batch.map fun b => { b with figures := { b.figures with u := 0 } } := by
            rw [hx]
            rfl
          rw [hb₁] at holds
          exact Option.some.inj (hbatch.symm.trans holds)
        exact ⟨by rw [arm, hx], by rw [shut], by rw [arm, hx]; rfl, gone hrel⟩
      · obtain ⟨hx, hrel⟩ := triggered.of_short (by rw [hpreset.1, hpreset.2]; exact fun hand => absurd hand.1 (Nat.not_le.mpr hshort))
          (by rw [hpreset.2]; rintro ⟨hreach, -, hpos⟩; omega)
        have kept : b' = B := by
          rw [hx, hb₁, hb₁B] at hbatch
          exact (Option.some.inj hbatch).symm
        have valve : (t.arm r.arm).valve = E.valve := by rw [arm, hx, hchecked]; rfl
        refine ⟨by rw [arm, hx]; exact delivers, by rw [kept, hB]; exact hu, by rw [(stands hrel).1], fun htrim => ?_, fun htrim => ?_⟩
        · rw [valve, hEeq]
          show (if k.trimmed = true then _ else _ : Valve).commanded = u
          rw [if_pos (by rw [stages]; exact trims.mpr htrim)]
          exact hu
        · rw [valve, hEeq]
          show (if k.trimmed = true then _ else _ : Valve).commanded = _
          rw [if_neg (by rw [stages]; exact mt trims.mp htrim)]
    · have hrel' : releases = true := hreleases.mpr hrel
      have kgross : k.figures.vg + k.figures.ve = gross := by
        rw [stages]
        exact hvolume
      obtain ⟨m', hm'⟩ : ∃ m', m' = (y.setArm r.arm fun _ => x).grantGone r.arm := ⟨_, rfl⟩
      have armM : m'.arm r.arm = x := by rw [hm']; exact State.arm_setArm_self y r.arm fun _ => x
      refine ⟨m', m'.examine, ?_, ?_, ?_, ?_, fun hcross hfirst => ?_, ?_, rfl, ?_⟩
      · rw [hm', tnow]; rfl
      · rw [armM, hfrom.opened, hEeq]
      · rw [armM, hbatch, hb', hB]; rfl
      · rw [hm']
        unfold State.grantGone
        rw [← yheader]
        rfl
      · have still := State.enters_of_quiet (s := s.computed started) (r := r) (b := b) (k := k) (by rw [kgross]; exact hcross)
          (by rw [kgross]; rintro ⟨hno, hle⟩; exact hfirst.elim (fun h => nomatch hno.symm.trans h) fun h => absurd hle (Nat.not_le.mpr h))
        rw [hm']
        show y.storeQueue = _ ∧ y.current = _ ∧ y.walks = _
        rw [hy]
        exact ⟨still.2 .storeQueue rfl, still.2 .current rfl, still.2 .walks rfl⟩
      · rw [hm']
        refine (s.changesOnly_computed started (by simp) (by simp)).trans ((entered.mono enteredParts_mono).trans
          ((y.changesOnly_setArm r.arm _ (by simp)).trans (State.changesOnly_grantGone _ r.arm (by simp))))
      · rw [examines hrel', ← hm'] at rest
        exact rest.mono endParts_mono
    · exact stands (Bool.eq_false_iff.mpr (mt hreleases.mp hrel))

end Sys2Proof.Machine
end

section
/-! PROOFS. Operations that stay asked for, and the first litre of a batch. -/

namespace Sys2Proof.Machine
open Sys2Proof

/-! ## An operation that is asked for stays asked for -/

/-- An operation that `P` picks waits, or one that `Q` picks is current. -/
def State.hasOp (s : State) (P : StoreOp → Prop) (Q : CurrentOp → Prop) : Prop :=
  (∃ w ∈ s.storeQueue, P w.op) ∨ ∃ k, s.current = some k ∧ Q k

section
variable {s : State} {P : StoreOp → Prop} {Q : CurrentOp → Prop}

theorem State.hasOp_congr {t : State} (h : s.hasOp P Q) (hq : t.storeQueue = s.storeQueue) (hc : t.current = s.current) :
    t.hasOp P Q := by
  unfold State.hasOp at h ⊢
  rw [hq, hc]
  exact h

/-- An operation that waits may become current. -/
theorem State.hasOp_advanceStore (hr : s.restartPending = false) (starts : ∀ op, P op → Q ⟨op, s.now, none⟩)
    (h : s.hasOp P Q) : s.advanceStore.hasOp P Q := by
  rcases s.advanceStore_cases with he | ⟨hrestart, -⟩ | ⟨w, rest, hc, -, hq, -, he⟩
  · rw [he]; exact h
  · exact nomatch hr.symm.trans hrestart
  · rw [he]
    rcases h with ⟨x, hx, hp⟩ | ⟨k, hk, -⟩
    · rw [hq] at hx
      rcases List.mem_cons.mp hx with rfl | hx
      · exact .inr ⟨_, rfl, starts _ hp⟩
      · exact .inl ⟨x, hx, hp⟩
    · exact nomatch hc.symm.trans hk

theorem mem_joinCheckpoint {a : ArmId} {op : StoreOp} {queue : List QueuedOp} {w : QueuedOp} (h : w ∈ queue)
    (hw : w.op.isCheckpoint a = false) : w ∈ joinCheckpoint a op queue := by
  induction queue with
  | nil => exact absurd h List.not_mem_nil
  | cons x rest ih =>
    rw [joinCheckpoint]
    split
    · next hx =>
      have behind : w ∈ rest := (List.mem_cons.mp h).resolve_left fun e => nomatch (e ▸ hw).symm.trans hx
      split
      · exact List.mem_append_left _ behind
      · exact List.mem_cons_of_mem _ behind
    · rcases List.mem_cons.mp h with rfl | h
      · exact List.mem_cons_self
      · exact List.mem_cons_of_mem _ (ih h)

theorem exists_mem_joinCheckpoint (a : ArmId) (op : StoreOp) (queue : List QueuedOp) :
    ∃ w ∈ joinCheckpoint a op queue, w.op = op := by
  induction queue with
  | nil => exact ⟨_, List.mem_cons_self, rfl⟩
  | cons x rest ih =>
    rw [joinCheckpoint]
    split
    · split
      · exact ⟨⟨op, false⟩, List.mem_append_right _ List.mem_cons_self, rfl⟩
      · exact ⟨_, List.mem_cons_self, rfl⟩
    · obtain ⟨w, hw, hop⟩ := ih
      exact ⟨w, List.mem_cons_of_mem _ hw, hop⟩

/-- A CHECKPOINT that is asked for. -/
theorem State.hasOp_askCheckpoint (a : ArmId) (hr : s.restartPending = false)
    (starts : ∀ op, P op → Q ⟨op, s.now, none⟩) (hp : P (s.checkpoint a)) : (s.askCheckpoint a).hasOp P Q := by
  unfold State.askCheckpoint
  refine State.hasOp_advanceStore (s := { s with storeQueue := joinCheckpoint a (s.checkpoint a) s.storeQueue }) hr starts ?_
  obtain ⟨w, hw, hop⟩ := exists_mem_joinCheckpoint a (s.checkpoint a) s.storeQueue
  exact .inl ⟨w, hw, by rw [hop]; exact hp⟩

/-- A CHECKPOINT of another arm leaves the operation asked for. -/
theorem State.hasOp_askCheckpoint_of_other (a : ArmId) (hr : s.restartPending = false)
    (starts : ∀ op, P op → Q ⟨op, s.now, none⟩) (other : ∀ op, P op → op.isCheckpoint a = false) (h : s.hasOp P Q) :
    (s.askCheckpoint a).hasOp P Q := by
  unfold State.askCheckpoint
  refine State.hasOp_advanceStore (s := { s with storeQueue := joinCheckpoint a (s.checkpoint a) s.storeQueue }) hr starts ?_
  rcases h with ⟨w, hw, hp⟩ | current
  · exact .inl ⟨w, mem_joinCheckpoint hw (other _ hp), hp⟩
  · exact .inr current

theorem State.hasOp_askOp (op : StoreOp) (hr : s.restartPending = false) (starts : ∀ op, P op → Q ⟨op, s.now, none⟩)
    (h : s.hasOp P Q ∨ P op) : (s.askOp op).hasOp P Q := by
  unfold State.askOp
  refine State.hasOp_advanceStore (s := { s with storeQueue := s.storeQueue ++ [⟨op, false⟩] }) hr starts ?_
  rcases h with (⟨w, hw, hp⟩ | current) | hp
  · exact .inl ⟨w, List.mem_append_left _ hw, hp⟩
  · exact .inr current
  · exact .inl ⟨⟨op, false⟩, List.mem_append_right _ List.mem_cons_self, hp⟩

/-- A DISPENSED asked for leaves an operation of another kind asked for. -/
theorem State.hasOp_askDispensed_of_other (page package : Nat) (key : Key) (hr : s.restartPending = false)
    (starts : ∀ op, P op → Q ⟨op, s.now, none⟩) (stands : ∀ op, P op → P (op.absorb page package key))
    (stands' : ∀ k : CurrentOp, Q k → Q { k with op := k.op.absorb page package key }) (h : s.hasOp P Q) :
    (s.askDispensed page package key).hasOp P Q := by
  unfold State.askDispensed
  split
  · rcases h with ⟨w, hw, hp⟩ | ⟨k, hk, hq⟩
    · exact .inl ⟨_, List.mem_map_of_mem hw, stands _ hp⟩
    · exact .inr ⟨{ k with op := k.op.absorb page package key }, by dsimp only; rw [hk]; rfl, stands' k hq⟩
  · exact State.hasOp_askOp _ hr starts (.inl h)

/-- The admission of another arm leaves the operation asked for. -/
theorem State.hasOp_admission (x : ArmId) (g : Grant) (hr : s.restartPending = false)
    (starts : ∀ op, P op → Q ⟨op, s.now, none⟩) (other : ∀ op, P op → op.isCheckpoint x = false)
    (notes : ∀ k value, Q k → Q (k.noteCounter value s.now)) (h : s.hasOp P Q) : (s.admission x g).hasOp P Q := by
  have seated : (s.seated x g).hasOp P Q := by
    rcases h with waits | ⟨k, hk, hq⟩
    · exact .inl waits
    · refine .inr ⟨k.noteCounter s.batchCounter s.now, ?_, notes k _ hq⟩
      show s.current.map _ = _
      rw [hk]
      rfl
  have asked := State.hasOp_askCheckpoint_of_other (s := s.seated x g) x hr starts other seated
  rw [State.admission_eq, State.addCauseIf_eq]
  exact asked

theorem State.hasOp_examineFrom {a : ArmId} (fuel : Nat) (hr : s.restartPending = false)
    (ha : a ∉ s.header.queue.map (·.arm)) (starts : ∀ op, P op → Q ⟨op, s.now, none⟩)
    (other : ∀ op x, P op → x ≠ a → op.isCheckpoint x = false)
    (notes : ∀ k value, Q k → Q (k.noteCounter value s.now)) (h : s.hasOp P Q) : (s.examineFrom fuel).hasOp P Q := by
  induction fuel generalizing s with
  | zero => exact h
  | succ fuel ih =>
    unfold State.examineFrom
    split
    · exact h
    · next p rest hq =>
      split
      · exact h
      · next g _ =>
        have ne : p.arm ≠ a := fun e => ha (by rw [hq, ← e]; exact List.mem_cons_self)
        have admitted := State.hasOp_admission p.arm g hr starts (fun op hp => other op p.arm hp ne) notes h
        obtain ⟨arm, queue, current, walks, e⟩ := s.admission_frame p.arm g hr
        rw [e] at admitted ⊢
        refine ih hr ?_ starts notes admitted
        exact fun hin => ha ((List.filter_sublist.map _).subset hin)

/-- A head examination leaves the operations of an arm outside the header queue asked for. -/
theorem State.hasOp_withArm {a : ArmId} (arm : Arm) (releases : Bool) (hr : s.restartPending = false)
    (ha : a ∉ s.header.queue.map (·.arm)) (starts : ∀ op, P op → Q ⟨op, s.now, none⟩)
    (other : ∀ op x, P op → x ≠ a → op.isCheckpoint x = false)
    (notes : ∀ k value, Q k → Q (k.noteCounter value s.now)) (h : s.hasOp P Q) : (s.withArm a arm releases).hasOp P Q := by
  unfold State.withArm
  cases releases with
  | false => exact h
  | true => exact State.hasOp_examineFrom (s := (s.setArm a fun _ => arm).grantGone a) (a := a) _ hr ha starts other notes h

end

/-- An operation that has just become current keeps no value of the batch counter yet (R104). -/
theorem CurrentOp.noteCounter_of_fresh (op : StoreOp) (value now : Nat) :
    (⟨op, now, none⟩ : CurrentOp).noteCounter value now = ⟨op, now, none⟩ := by
  refine CurrentOp.noteCounter_of_before (.inl ?_)
  unfold CurrentOp.counterPast
  split
  · exact decide_eq_false (by dsimp only; omega)
  · rfl

theorem CurrentOp.op_noteCounter (k : CurrentOp) (value now : Nat) : (k.noteCounter value now).op = k.op := by
  unfold CurrentOp.noteCounter
  split <;> rfl

/-! ## The DISPENSED of a first litre (R22, R115) -/

/-- The DISPENSED of a record, with a key among those that asked. -/
def StoreOp.dispenses (page package : Nat) (key : Key) (op : StoreOp) : Prop :=
  ∃ askers, op = .dispensed page package askers ∧ key ∈ askers

theorem StoreOp.dispenses_absorb {page package : Nat} (key : Key) {op : StoreOp}
    (h : op.isDispensed page package = true) : (op.absorb page package key).dispenses page package key := by
  cases op with
  | dispensed p k askers =>
    obtain ⟨rfl, rfl⟩ : p = page ∧ k = package := by simpa [StoreOp.isDispensed] using h
    exact ⟨askers ++ [key], if_pos ⟨rfl, rfl⟩, by simp⟩
  | _ => cases h

theorem State.hasOp_askDispensed {s : State} (page package : Nat) (key : Key) (hr : s.restartPending = false) :
    (s.askDispensed page package key).hasOp (·.dispenses page package key) (·.op.dispenses page package key) := by
  unfold State.askDispensed
  split
  · next h =>
    rcases Bool.or_eq_true_iff.mp h with waits | current
    · obtain ⟨w, hw, hd⟩ := List.any_eq_true.mp waits
      exact .inl ⟨_, List.mem_map_of_mem hw, StoreOp.dispenses_absorb key hd⟩
    · obtain ⟨k, hk, hd⟩ := (Option.any_eq_true _ _).mp current
      exact .inr ⟨{ k with op := k.op.absorb page package key }, by dsimp only; rw [hk]; rfl, StoreOp.dispenses_absorb key hd⟩
  · exact State.hasOp_askOp _ hr (fun _ hop => hop) (.inr ⟨[key], rfl, by simp⟩)

theorem State.cached_setDispensedCopy (s : State) (key : Key) (b : Bool) :
    (s.setDispensedCopy key b).cached key = (s.cached key).map fun e => { e with dispensed := b } := by
  unfold State.setDispensedCopy
  cases hf : s.findEntry key with
  | none =>
    unfold State.cached
    dsimp only
    rw [hf]
    rfl
  | some i =>
    dsimp only
    have same (j : Fin 32) : holdsKey key (s.cache.set i (s.cache[i].map fun e => { e with dispensed := b }))[j] =
        holdsKey key s.cache[j] := by
      by_cases h : j = i
      · rw [h]
        simp only [Fin.getElem_fin, Vector.getElem_set_self]
        cases s.cache[i.val] <;> rfl
      · simp only [Fin.getElem_fin]
        rw [Vector.getElem_set_ne i.isLt j.isLt fun e => h (Fin.ext e.symm)]
    have found : State.findEntry { s with cache := s.cache.set i (s.cache[i].map fun e => { e with dispensed := b }) } key =
        some i := by
      rw [← hf]
      unfold State.findEntry
      exact congrArg (fun p => List.find? p (waysOf key)) (funext same)
    unfold State.cached
    rw [found, hf]
    exact Vector.getElem_set_self i.isLt

end Sys2Proof.Machine
end

section
/-! PROOFS. What a computation measures and asks for. -/

namespace Sys2Proof.Machine
open Sys2Proof

/-! ## The measuring of a window into the batch (R6 to R9, R20) -/

theorem computeStages_volumes (st : ArmState) (b : Batch) (snap : Snapshot) (fx : Fixed) (c : ArmConfig)
    (limit : Option Nat) (r : TrimRequest) :
    (computeStages st b snap fx c limit r).volumes = windowVolumes b.figures snap.params c r := by
  unfold computeStages
  dsimp only
  split <;> rfl

/-- The figures that a computation measures, in any state of the arm. -/
structure Figures.measuredFrom (g f : Figures) (p : Params) (c : ArmConfig) (fx : Fixed) (r : TrimRequest) : Prop where
  vg : g.vg = f.vg + (r.pulsesG * 1000000 + f.grossResidueG) / c.factorG
  ve : g.ve = f.ve + (r.pulsesE * 1000000 + f.grossResidueE) / c.factorE
  ng : g.ng = f.ng + r.netG f p c
  ne : g.ne = f.ne + r.netE f p c
  residueG : g.grossResidueG = (r.pulsesG * 1000000 + f.grossResidueG) % c.factorG
  residueE : g.grossResidueE = (r.pulsesE * 1000000 + f.grossResidueE) % c.factorE
  pulsesG : g.pulsesG = f.pulsesG + r.pulsesG
  pulsesE : g.pulsesE = f.pulsesE + r.pulsesE
  sumG : g.sumG = f.sumG + ((r.pulsesG * 1000000 + f.grossResidueG) / c.factorG : Nat) * r.probeG.temperature
  sumE : g.sumE = f.sumE + ((r.pulsesE * 1000000 + f.grossResidueE) / c.factorE : Nat) * r.probeE.temperature
  demand : g.demand = demandAt fx (f.ng + r.netG f p c + (f.ne + r.netE f p c))
  error : g.error = (f.ne + r.netE f p c : Nat) - (demandAt fx (f.ng + r.netG f p c + (f.ne + r.netE f p c)) : Int)
  uncorrectedG : g.markers.uncorrectedG = (f.markers.uncorrectedG || r.probeG.uncorrected)
  uncorrectedE : g.markers.uncorrectedE = (f.markers.uncorrectedE || r.probeE.uncorrected)
  additiveLag : g.markers.additiveLag = f.markers.additiveLag
  firstLitre : g.firstLitre = f.firstLitre

theorem Figures.measuredFrom_measure (f : Figures) (p : Params) (c : ArmConfig) (fx : Fixed) (r : TrimRequest) :
    (f.measure p c fx r).measuredFrom f p c fx r := by
  cases f
  exact ⟨rfl, rfl, rfl, rfl, rfl, rfl, rfl, rfl, rfl, rfl, rfl, rfl, rfl, rfl, rfl, rfl⟩

theorem computeStages_measuredFrom (st : ArmState) (b : Batch) (snap : Snapshot) (fx : Fixed) (c : ArmConfig)
    (limit : Option Nat) (r : TrimRequest) :
    (computeStages st b snap fx c limit r).figures.measuredFrom b.figures snap.params c fx r := by
  have measured := b.figures.measuredFrom_measure snap.params c fx r
  have keep {α : Type} (f : Figures → α) (ht : ∀ g p, f (Figures.trim g p) = f g)
      (hf : ∀ g p c n l r, f (Figures.flow g p c n l r) = f g) (hc : ∀ g st snap w, f (Figures.check g st snap w) = f g) :
      f (computeStages st b snap fx c limit r).figures = f (b.figures.measure snap.params c fx r) :=
    computeStages_measured f ht hf hc st b snap fx c limit r
  constructor
  · exact (keep (·.vg) (fun _ _ => rfl) (fun _ _ _ _ _ _ => rfl) fun _ _ _ _ => rfl).trans measured.vg
  · exact (keep (·.ve) (fun _ _ => rfl) (fun _ _ _ _ _ _ => rfl) fun _ _ _ _ => rfl).trans measured.ve
  · exact (keep (·.ng) (fun _ _ => rfl) (fun _ _ _ _ _ _ => rfl) fun _ _ _ _ => rfl).trans measured.ng
  · exact (keep (·.ne) (fun _ _ => rfl) (fun _ _ _ _ _ _ => rfl) fun _ _ _ _ => rfl).trans measured.ne
  · exact (keep (·.grossResidueG) (fun _ _ => rfl) (fun _ _ _ _ _ _ => rfl) fun _ _ _ _ => rfl).trans measured.residueG
  · exact (keep (·.grossResidueE) (fun _ _ => rfl) (fun _ _ _ _ _ _ => rfl) fun _ _ _ _ => rfl).trans measured.residueE
  · exact (keep (·.pulsesG) (fun _ _ => rfl) (fun _ _ _ _ _ _ => rfl) fun _ _ _ _ => rfl).trans measured.pulsesG
  · exact (keep (·.pulsesE) (fun _ _ => rfl) (fun _ _ _ _ _ _ => rfl) fun _ _ _ _ => rfl).trans measured.pulsesE
  · exact (keep (·.sumG) (fun _ _ => rfl) (fun _ _ _ _ _ _ => rfl) fun _ _ _ _ => rfl).trans measured.sumG
  · exact (keep (·.sumE) (fun _ _ => rfl) (fun _ _ _ _ _ _ => rfl) fun _ _ _ _ => rfl).trans measured.sumE
  · exact (keep (·.demand) (fun _ _ => rfl) (fun _ _ _ _ _ _ => rfl) fun _ _ _ _ => rfl).trans measured.demand
  · exact (keep (·.error) (fun _ _ => rfl) (fun _ _ _ _ _ _ => rfl) fun _ _ _ _ => rfl).trans measured.error
  · exact (keep (·.markers.uncorrectedG) (fun _ _ => rfl) (fun _ _ _ _ _ _ => rfl) fun _ _ _ _ => rfl).trans
      measured.uncorrectedG
  · exact (keep (·.markers.uncorrectedE) (fun _ _ => rfl) (fun _ _ _ _ _ _ => rfl) fun _ _ _ _ => rfl).trans
      measured.uncorrectedE
  · exact (keep (·.markers.additiveLag) (fun _ _ => rfl) (fun _ _ _ _ _ _ => rfl) fun _ _ _ _ => rfl).trans
      measured.additiveLag
  · exact (keep (·.firstLitre) (fun _ _ => rfl) (fun _ _ _ _ _ _ => rfl) fun _ _ _ _ => rfl).trans measured.firstLitre

theorem Arm.slots_checkedBy (arm : Arm) (k : Computed) (now : Nat) : (arm.checkedBy k now).slots = arm.slots := by
  unfold Arm.checkedBy
  rw [(Arm.takesCauseIf_kept _ _ _ _).2.2.2.2, (Arm.takesCauseIf_kept _ _ _ _).2.2.2.2, (Arm.takesCauseIf_kept _ _ _ _).2.2.2.2]

/-- Slots that have started their strokes start no more in the same event. -/
theorem Arm.startsStrokes_again {arm : Arm} {inService : Vector Bool 6} {now : Nat} {first second : Vector Slot 3}
    (h : arm.startsStrokes inService now first)
    (h' : ({ arm with slots := first } : Arm).startsStrokes inService now second) : second = first := by
  obtain ⟨struck, none'⟩ := h
  obtain ⟨struck', none''⟩ := h'
  cases hc : arm.config with
  | none => exact none'' (.inl hc)
  | some c =>
    cases hs : arm.snapshot with
    | none => exact none'' (.inr hs)
    | some snap =>
      have each (i : SlotId) : second[i] = first[i] := by
        refine (struck' c hc snap hs i).2 fun due => ?_
        obtain ⟨hit, miss⟩ := struck c hc snap hs i
        by_cases hd : arm.strokeDue inService c snap i
        · obtain ⟨ready, -⟩ := due
          rw [show ({ arm with slots := first } : Arm).slots[i] = first[i] from rfl, hit hd] at ready
          cases ready
        · refine hd ?_
          unfold Arm.strokeDue at due ⊢
          dsimp only at due
          rw [miss hd] at due
          exact due
      exact Vector.ext fun i hi => each ⟨i, hi⟩

/-! ## What a computation that is not final leaves -/

/-- The machine before and after the triggers, as the statements about a computation speak of it. -/
theorem State.Goes.facts {s y t : State} {r : TrimRequest} {started : Nat} {b b₁ : Batch} {snap : Snapshot}
    {c : ArmConfig} {fx : Fixed} {k : Computed} {x : Arm} {releases : Bool}
    (g : (s.computed started).Goes r b snap c fx k y t b₁ x releases) (hr : s.restartPending = false)
    (hq : r.arm ∉ s.header.queue.map (·.arm)) :
    (∃ b' e u resume, (t.arm r.arm).batch = some b' ∧ x.batch = some b' ∧
      b' = { b.computed (s.arm r.arm) snap c k with
        ending := e, figures := { (b.computed (s.arm r.arm) snap c k).figures with u := u, uResume := resume } }) ∧
      y.now = max s.now (started + 200) ∧ t.now = y.now ∧ y.restartPending = false ∧
      r.arm ∉ y.header.queue.map (·.arm) ∧ (y.withArm r.arm x releases).arm r.arm = x ∧
      (t.arm r.arm).totals = ((s.arm r.arm).enter k).totals := by
  have hfrom := g.figures.trans (g.triggered.computedFrom g.batch) g.batch
  have running : y.restartPending = false := (g.entered.2 .restartPending rfl).trans hr
  have out : r.arm ∉ y.header.queue.map (·.arm) := by rw [show y.header = s.header from g.entered.2 .header rfl]; exact hq
  obtain ⟨armX, changed⟩ := State.withArm_spec x releases running out
  obtain ⟨e, u, resume, hbatch⟩ := hfrom.batch
  refine ⟨⟨_, e, u, resume, ?_, hbatch, rfl⟩, g.entered.2 .clock rfl, (g.rest.2 .clock rfl).trans (changed.2 .clock rfl),
    running, out, armX, ?_⟩
  · rw [g.arm]
    exact hbatch
  · rw [g.arm]
    exact hfrom.totals

theorem Arm.Triggered.of_delivering {x arm : Arm} {b : Batch} {c : ArmConfig} {fx : Fixed} {inService : Vector Bool 6}
    {now : Nat} {releases : Bool} (h : arm.Triggered b c fx inService now x releases) (hs : x.state = .delivering) :
    x = arm ∧ releases = false := by
  cases h with
  | full => cases hs
  | flush => cases hs
  | short => exact ⟨rfl, rfl⟩

theorem State.Goes.volume {s y t : State} {r : TrimRequest} {b b₁ : Batch} {snap : Snapshot} {c : ArmConfig} {fx : Fixed}
    {k : Computed} {x : Arm} {releases : Bool} (g : s.Goes r b snap c fx k y t b₁ x releases) :
    b₁.preset = b.preset ∧ b₁.figures.ng + b₁.figures.ne = k.figures.ng + k.figures.ne := by
  obtain ⟨e, u, resume, hbatch⟩ := g.figures.batch
  rw [Option.some.inj (g.batch.symm.trans hbatch)]
  exact ⟨rfl, rfl⟩

theorem State.Goes.state {s y t : State} {r : TrimRequest} {b b₁ : Batch} {snap : Snapshot} {c : ArmConfig} {fx : Fixed}
    {k : Computed} {x : Arm} {releases : Bool} (g : s.Goes r b snap c fx k y t b₁ x releases) :
    (y.arm r.arm).state = (((s.arm r.arm).enter k).checkedBy k s.now).state := by
  rw [g.checked]
  rfl

theorem Arm.state_enter (arm : Arm) (k : Computed) : (arm.enter k).state = arm.state := by
  unfold Arm.enter
  split <;> rfl

/-- The strokes that a computation starts, whether in its triggers or after them, start from the slots it paced. -/
theorem Arm.Triggered.strokes {x arm : Arm} {b : Batch} {c : ArmConfig} {fx : Fixed} {inService : Vector Bool 6}
    {now : Nat} {releases : Bool} {after : Vector Slot 3} (h : arm.Triggered b c fx inService now x releases)
    (hs : x.startsStrokes inService now after) :
    ({ x with slots := arm.slots } : Arm).startsStrokes inService now after := by
  cases h with
  | full slots _ _ starts =>
    rw [Arm.startsStrokes_again starts hs]
    exact starts
  | flush => exact hs
  | short => exact hs

/-- An arm whose state stands gives up no grant in a computation. -/
theorem State.Goes.keeps {s y t : State} {r : TrimRequest} {b b₁ : Batch} {snap : Snapshot} {c : ArmConfig} {fx : Fixed}
    {k : Computed} {x : Arm} {releases : Bool} (g : s.Goes r b snap c fx k y t b₁ x releases)
    (h : (t.arm r.arm).state = (s.arm r.arm).state) : releases = false := by
  have before := g.state
  have after : x.state = (s.arm r.arm).state := by rw [← h, g.arm]
  have entered := Arm.state_enter (s.arm r.arm) k
  cases g.triggered with
  | full slots _ hu =>
    have closing : (s.arm r.arm).state = .closing := after.symm
    rw [Arm.checkedBy_of_not_underway k s.now (by rw [entered, closing]; rfl), entered, closing] at before
    rw [before] at hu
    cases hu
  | flush _ _ hs =>
    have flushing : (s.arm r.arm).state = .flushing := after.symm
    have delivers := ((Arm.state_checkedBy k s.now (arm := (s.arm r.arm).enter k) (by rw [entered, flushing]; rfl)).2.2.mp
      (before.symm.trans hs)).1
    rw [entered, flushing] at delivers
    cases delivers
  | short => rfl

/-! ## The first litre (R22) -/

theorem State.cached_congr {s t : State} (h : t.cache = s.cache) (key : Key) : t.cached key = s.cached key := by
  unfold State.cached State.findEntry
  rw [h]

theorem State.firstLitre_of_copied {s : State} {key : Key} {e : CacheEntry} (page : Nat) (h : s.cached key = some e)
    (hd : e.dispensed = true) : s.firstLitre key (some page) = s := by
  unfold State.firstLitre
  dsimp only
  rw [h]
  exact if_pos hd

theorem State.firstLitre_of_uncopied {s : State} {key : Key} (page : Nat)
    (h : ∀ e, s.cached key = some e → e.dispensed = false) :
    ∃ cache, s.firstLitre key (some page) = State.askDispensed { s with cache := cache } page key.package key ∧
      ∀ e, s.cached key = some e → State.cached { s with cache := cache } key = some { e with dispensed := true } := by
  unfold State.firstLitre
  dsimp only
  cases hc : s.cached key with
  | none => exact ⟨s.cache, rfl, fun e he => nomatch he⟩
  | some e =>
    obtain ⟨cache, copied⟩ := s.setDispensedCopy_frame key true
    refine ⟨cache, ?_, fun f hf => ?_⟩
    · dsimp only
      rw [if_neg (by rw [h e hc]; exact Bool.false_ne_true), copied]
    · rw [← copied, State.cached_setDispensedCopy, hc, Option.some.inj hf]
      rfl

/-- A first litre leaves an operation of another kind asked for. -/
theorem State.hasOp_firstLitre {s : State} {P : StoreOp → Prop} {Q : CurrentOp → Prop} (key : Key) (page : Option Nat)
    (hr : s.restartPending = false) (starts : ∀ op, P op → Q ⟨op, s.now, none⟩)
    (stands : ∀ op p k, P op → P (op.absorb p k key))
    (stands' : ∀ (c : CurrentOp) p k, Q c → Q { c with op := c.op.absorb p k key }) (h : s.hasOp P Q) :
    (s.firstLitre key page).hasOp P Q := by
  cases page with
  | none => exact h
  | some page =>
    by_cases hcopy : ∃ e, s.cached key = some e ∧ e.dispensed = true
    · obtain ⟨e, he, hd⟩ := hcopy
      rw [State.firstLitre_of_copied page he hd]
      exact h
    · obtain ⟨cache, asked, -⟩ := State.firstLitre_of_uncopied page fun e he =>
        Bool.eq_false_iff.mpr fun hd => hcopy ⟨e, he, hd⟩
      rw [asked]
      exact State.hasOp_askDispensed_of_other (s := { s with cache := cache }) page key.package key hr starts
        (fun op hp => stands op page key.package hp) (fun c hq => stands' c page key.package hq) h

/-! ## The packet of a computation (R182) -/

theorem State.monitorTrim_of_shown {s : State} {a : ArmId} {b : Batch} {snap : Snapshot} (final : Bool) (rate : Option Nat)
    (hr : s.monitor.running = true) (hs : s.monitor.selection = .trim a) (hb : (s.arm a).batch = some b)
    (hsnap : b.snapshot = some snap) :
    (s.monitorTrim a final rate).monitor = Monitor.form { s.monitor with parameter := (s.monitor.parameter + 1) % 24 }
      (.trim (trimPacket a (s.arm a).state b final rate s.monitor.parameter (parameterOf snap s.monitor.parameter))) s.now := by
  have snapshot : (s.arm a).snapshot = some snap := by
    unfold Arm.snapshot
    rw [hb]
    exact hsnap
  unfold State.monitorTrim
  rw [hr, decide_eq_true hs, hb, snapshot]
  rfl

theorem State.monitorTrim_of_hidden {s : State} {a : ArmId} (final : Bool) (rate : Option Nat)
    (h : s.monitor.running = false ∨ s.monitor.selection ≠ .trim a) : s.monitorTrim a final rate = s := by
  have hidden : (s.monitor.running && decide (s.monitor.selection = .trim a)) = false := by
    rcases h with h | h
    · rw [h]; rfl
    · rw [decide_eq_false h, Bool.and_false]
  unfold State.monitorTrim
  rw [hidden]

/-- Settles O48: what the window measures, and what the computation asks of the store and the monitor. -/
theorem computationMeasuresTheWindow : Obligations.ComputationMeasuresTheWindow := by
  unfold Obligations.ComputationMeasuresTheWindow
  refine ⟨?_, ?_⟩
  case refine_1 =>
    intro r started b snap fx config s hbau hadmitted hb hsnap hfixed hconfig hfinal hdone hrestart hqueue ng ne dvg dve demand
    obtain ⟨t, b₁, x, releases, run, goes⟩ := State.computation_goes hbau hadmitted hb hsnap hfixed hconfig hfinal hdone
      hrestart hqueue
    obtain ⟨⟨b', e, u, resume, batch, hx, hb'⟩, ynow, tnow, running, out, armX, totals⟩ := goes.facts hrestart hqueue
    have measured := computeStages_measuredFrom (s.arm r.arm).state b snap fx config s.header.grants[r.arm].limit r
    have volumes := computeStages_volumes (s.arm r.arm).state b snap fx config s.header.grants[r.arm].limit r
    have commanded := computeStages_u (s.arm r.arm).state b snap fx config s.header.grants[r.arm].limit r
    have trimmed := computeStages_trimmed (s.arm r.arm).state b snap fx config s.header.grants[r.arm].limit r
    obtain ⟨k, hk⟩ : ∃ k, k = computeStages (s.arm r.arm).state b snap fx config s.header.grants[r.arm].limit r := ⟨_, rfl⟩
    rw [← hk] at goes hb' measured volumes commanded totals trimmed
    obtain ⟨y, hy⟩ : ∃ y, y = (s.computed started).enters r b k := ⟨_, rfl⟩
    rw [← hk, ← hy] at ynow tnow running out armX
    rw [← hy] at goes
    refine ⟨t, b', run, tnow.trans ynow, ?_, ?_, batch, by rw [hb']; exact hfixed, by rw [hb']; exact hsnap, by rw [hb']; exact measured.vg,
      by rw [hb']; exact measured.ve, by rw [hb']; exact measured.ng, by rw [hb']; exact measured.ne,
      by rw [hb']; exact measured.residueG, by rw [hb']; exact measured.residueE, by rw [hb']; exact measured.pulsesG,
      by rw [hb']; exact measured.pulsesE, by rw [hb']; exact measured.sumG, by rw [hb']; exact measured.sumE,
      by rw [hb']; exact measured.demand, by rw [hb']; exact measured.error, by rw [hb']; exact measured.uncorrectedG,
      by rw [hb']; exact measured.uncorrectedE, ?_, fun hfull hunder => ?_, fun hstate hstill hshort hgoal => ?_⟩
    · rw [goes.bau, tnow, show y.arithmeticQueue = s.arithmeticQueue from goes.entered.2 .arithmeticQueue rfl]
    · rw [goes.queue, show y.arithmeticQueue = s.arithmeticQueue from goes.entered.2 .arithmeticQueue rfl]
    · rw [totals, Arm.enter_eq k hb hsnap hconfig, volumes, show ng - b.figures.ng = r.netG b.figures snap.params config from
        Nat.add_sub_cancel_left _ _, show ne - b.figures.ne = r.netE b.figures snap.params config from Nat.add_sub_cancel_left _ _]
      rfl
    · have under : (y.arm r.arm).state.underway = true := by
        rw [goes.state]
        exact (Arm.state_checkedBy k _ (by rw [Arm.state_enter]; exact hunder)).1
      obtain ⟨⟨slots, closed⟩, -⟩ := goes.triggered.of_full
        (by rw [goes.volume.1, goes.volume.2, measured.ng, measured.ne]; exact hfull) under
      rw [closed] at hx
      have ended : b' = { b₁ with ending := some ⟨.complete, none⟩, figures := { b₁.figures with u := 0 } } :=
        (Option.some.inj hx).symm
      exact ⟨by rw [goes.arm, closed]; rfl, by rw [ended], by rw [ended]⟩
    · rw [goes.arm] at hstill
      obtain ⟨same, -⟩ := goes.triggered.of_delivering hstill
      rw [same] at hx hstill
      have delivered : ((s.arm r.arm).enter k).state = .delivering := (Arm.state_enter _ k).trans hstate
      have quiet := ((Arm.state_checkedBy (arm := (s.arm r.arm).enter k) k (s.computed started).now
        (by rw [delivered]; rfl)).2.2.mp (goes.state.symm.trans hstill)).2
      have entered : y.arm r.arm = ((s.arm r.arm).enter k).withFlags (y.arm r.arm).flags := by
        have checked := goes.checked
        rw [Arm.checkedBy_of_quiet _ _ quiet] at checked
        exact checked
      have trims : Machine.trims (s.arm r.arm).state fx (b.figures.measure snap.params config fx r) = true :=
        (trims_iff _ _ _).mpr ⟨hstate, hshort, hgoal⟩
      have kept : b' = b.computed (s.arm r.arm) snap config k := by
        rw [entered, Arm.enter_eq k hb hsnap hconfig] at hx
        exact (Option.some.inj hx).symm
      have error : k.figures.error = (b.figures.measure snap.params config fx r).error :=
        measured.error.trans (b.figures.measuredFrom_measure snap.params config fx r).error.symm
      have command : b'.figures.u = trimmedCommand snap.params b'.figures.error b.figures.u := by
        rw [kept]
        show k.figures.u = trimmedCommand snap.params k.figures.error b.figures.u
        rw [commanded, if_pos trims, error]
      refine ⟨command, ?_⟩
      rw [goes.arm, same, entered, Arm.enter_eq k hb hsnap hconfig, kept]
      show (if k.trimmed = true then _ else _ : Valve).commanded = k.figures.u
      rw [if_pos (trimmed.trans trims)]
  case refine_2 =>
    intro r started b snap fx config s hbau hadmitted hb hsnap hfixed hconfig hfinal hdone hrestart hqueue a dvg dve before
      gross paced first
    obtain ⟨t, b₁, x, releases, run, goes⟩ := State.computation_goes hbau hadmitted hb hsnap hfixed hconfig hfinal hdone
      hrestart hqueue
    obtain ⟨⟨b', e, u, resume, batch, hx, hb'⟩, ynow, tnow, running, out, armX, totals⟩ := goes.facts hrestart hqueue
    have measured := computeStages_measuredFrom (s.arm r.arm).state b snap fx config s.header.grants[r.arm].limit r
    have volumes := computeStages_volumes (s.arm r.arm).state b snap fx config s.header.grants[r.arm].limit r
    obtain ⟨k, hk⟩ : ∃ k, k = computeStages (s.arm r.arm).state b snap fx config s.header.grants[r.arm].limit r := ⟨_, rfl⟩
    rw [← hk] at goes hb' measured volumes totals
    obtain ⟨y, hy⟩ : ∃ y, y = (s.computed started).enters r b k := ⟨_, rfl⟩
    rw [← hk, ← hy] at ynow tnow running out armX
    rw [← hy] at goes
    have kgross : k.figures.vg + k.figures.ve = gross := by
      rw [measured.vg, measured.ve]
      show b.figures.vg + dvg + (b.figures.ve + dve) = b.figures.vg + b.figures.ve + dvg + dve
      omega
    have hpaced : paced = (s.arm r.arm).pace snap config gross := by
      refine congrArg Vector.ofFn (funext fun i => ?_)
      unfold Slot.pace
      cases servedAdditive snap config.slots[i] <;> rfl
    have yslots : (y.arm r.arm).slots = paced := by
      rw [goes.checked]
      show (((s.arm r.arm).enter k).checkedBy k _).slots = paced
      rw [Arm.slots_checkedBy, Arm.enter_eq k hb hsnap hconfig, hpaced, kgross]
    obtain ⟨v, hv⟩ : ∃ v, v = ((s.computed started).setArm r.arm (·.enter k)).raiseChecks r.arm k := ⟨_, rfl⟩
    have yposts : y = v.posts r.arm b gross := by rw [hy, hv, ← kgross]; rfl
    have vonly : s.changesOnly v fun q => q == .clock || q == .bau || checkParts r.arm q := by
      rw [hv]
      exact (s.changesOnly_computed started rfl rfl).trans (((State.changesOnly_setArm _ r.arm _ (checkParts_self r.arm)).trans
        (State.raiseChecks_spec _ r.arm k).2.2).mono fun q hq => by simp [hq])
    have vrunning : v.restartPending = false := (vonly.2 .restartPending rfl).trans hrestart
    have posted := v.changesOnly_posts r.arm b gross vrunning
    rw [← yposts] at posted
    have tstore : t.storeQueue = (y.withArm r.arm x releases).storeQueue ∧ t.current = (y.withArm r.arm x releases).current ∧
        t.walks = (y.withArm r.arm x releases).walks ∧ t.cache = y.cache :=
      ⟨goes.rest.2 .storeQueue rfl, goes.rest.2 .current rfl, goes.rest.2 .walks rfl,
        (goes.rest.2 .cache rfl).trans ((State.withArm_spec x releases running out).2.2 .cache rfl)⟩
    have zmonitor : (y.withArm r.arm x releases).monitor = s.monitor :=
      ((State.withArm_spec x releases running out).2.2 .monitor rfl).trans (goes.entered.2 .monitor rfl)
    obtain ⟨w, hw⟩ : ∃ w, w = v.checkpointIfCrossed r.arm before gross := ⟨_, rfl⟩
    have yfirst : y = if first then w.firstLitre b.key b.page else w := by rw [yposts, hw]; rfl
    obtain ⟨queue, current, walks, wframe⟩ := v.checkpointIfCrossed_frame r.arm before gross vrunning
    rw [← hw] at wframe
    have wrunning : w.restartPending = false := by rw [wframe]; exact vrunning
    have wcache : w.cache = s.cache := by rw [wframe]; exact vonly.2 .cache rfl
    have wnow : w.now = t.now := by
      rw [wframe, tnow]
      exact (posted.2 .clock rfl).symm
    refine ⟨t, b', run, batch, ?_, ?_, ?_, fun hcross hopened => ?_, fun hfirst page hpage => ⟨fun e he hd => ?_, fun hd => ?_⟩,
      fun hquiet => ?_, fun hcross hquiet hstate => ?_, fun hrunning hselected => ?_, fun hhidden => ?_⟩
    · have struck := goes.triggered.strokes goes.struck
      rw [yslots, show y.inService = s.inService from goes.entered.2 .inService rfl, ← tnow] at struck
      have sameArm : ({ t.arm r.arm with slots := paced } : Arm) = { x with slots := paced } := by rw [goes.arm]
      rw [sameArm]
      exact struck
    · rw [hb']
      show (k.figures.markers.additiveLag || lagging snap config ((s.arm r.arm).pace snap config (k.figures.vg + k.figures.ve))) =
        true ↔ _
      rw [Bool.or_eq_true, measured.additiveLag, kgross, ← hpaced, lagging_iff]
    · rw [hb']
      show (k.figures.firstLitre || decide (1000 ≤ k.figures.vg + k.figures.ve)) = _
      rw [measured.firstLitre, kgross]
    · intro op
      have opEq : v.checkpoint r.arm = op := by
        obtain ⟨e₁, u₁, resume₁, hbatch₁⟩ := goes.figures.batch
        have enterEq := Arm.enter_eq k hb hsnap hconfig
        have yopened : (y.arm r.arm).opened = true := by
          rw [goes.figures.opened, show ((s.computed started).arm r.arm).enter k = (s.arm r.arm).enter k from rfl, enterEq]
          exact hopened
        have yfigures : (y.arm r.arm).figures =
            ⟨(t.arm r.arm).totals, (s.arm r.arm).meterG.unauthorized, (s.arm r.arm).meterE.unauthorized⟩ := by
          unfold Arm.figures
          rw [goes.figures.totals, totals, goes.figures.meterG, goes.figures.meterE,
            show ((s.computed started).arm r.arm).enter k = (s.arm r.arm).enter k from rfl, enterEq]
        have same : v.arm r.arm = y.arm r.arm := (posted.2 (.arm r.arm) rfl).symm
        unfold State.checkpoint
        rw [same, yopened, hbatch₁]
        show StoreOp.checkpointOpen r.arm ((y.arm r.arm).marker _) = _
        unfold Arm.marker
        rw [yfigures]
        show _ = StoreOp.checkpointOpen r.arm _
        rw [hb']
        rfl
      have crossed : w = v.askCheckpoint r.arm := by
        rw [hw]
        exact if_pos hcross
      have vnow : v.now = t.now := by rw [← wnow, wframe]
      have wasked : w.hasOp (· = op) (· = ⟨op, t.now, none⟩) := by
        rw [crossed]
        exact State.hasOp_askCheckpoint r.arm vrunning (fun _ h => by rw [h, vnow]) opEq
      have yasked : y.hasOp (· = op) (· = ⟨op, t.now, none⟩) := by
        rw [yfirst]
        split
        · exact State.hasOp_firstLitre b.key b.page wrunning (fun _ h => by rw [h, wnow]) (fun _ _ _ h => by rw [h]; rfl)
            (fun _ _ _ h => by rw [h]; rfl) wasked
        · exact wasked
      have zasked := State.hasOp_withArm x releases running out (fun _ h => by rw [h, tnow]) (fun _ z h hz => by
        rw [h]
        exact decide_eq_false fun e => hz e) (fun _ _ h => by rw [h, tnow]; exact CurrentOp.noteCounter_of_fresh op _ _) yasked
      rcases State.hasOp_congr zasked tstore.1 tstore.2.1 with ⟨q, hq, hop⟩ | ⟨c, hc, hcur⟩
      · exact .inl ⟨q, hq, hop⟩
      · exact .inr (hc.trans (congrArg some hcur))
    · have copied : w.firstLitre b.key b.page = w := by
        rw [hpage]
        exact State.firstLitre_of_copied page ((State.cached_congr wcache b.key).trans he) hd
      rw [tstore.2.2.2, yfirst, if_pos hfirst, copied, wcache]
    · obtain ⟨cache, asked, marked⟩ := State.firstLitre_of_uncopied (s := w) page fun e he =>
        hd e ((State.cached_congr wcache b.key).symm.trans he)
      have yasked : y = State.askDispensed { w with cache := cache } page b.key.package b.key := by
        rw [yfirst, if_pos hfirst, hpage, asked]
      obtain ⟨queue', current', walks', uframe⟩ :=
        State.askDispensed_frame { w with cache := cache } page b.key.package b.key wrunning
      refine ⟨?_, fun e he => ?_⟩
      · have dispenses := State.hasOp_askDispensed (s := { w with cache := cache }) page b.key.package b.key wrunning
        rw [← yasked] at dispenses
        have later := State.hasOp_withArm (P := (·.dispenses page b.key.package b.key))
          (Q := (·.op.dispenses page b.key.package b.key)) x releases running out (fun _ h => h)
          (fun op _ ⟨askers, hop, _⟩ _ => by rw [hop]; rfl) (fun c value h => by rw [CurrentOp.op_noteCounter]; exact h) dispenses
        rcases State.hasOp_congr later tstore.1 tstore.2.1 with ⟨q, hq, hop⟩ | ⟨⟨cop, at', n⟩, hc, askers, hop, hin⟩
        · exact .inl ⟨q, hq, hop⟩
        · exact .inr ⟨askers, at', n, hin, hc.trans (by rw [show cop = _ from hop])⟩
      · rw [State.cached_congr tstore.2.2.2, yasked, uframe]
        exact marked e ((State.cached_congr wcache b.key).trans he)
    · have still : y.cache = w.cache := by
        rw [yfirst]
        split
        · next hfirst =>
          rw [hquiet.resolve_left (not_not.mpr hfirst)]
          rfl
        · rfl
      rw [tstore.2.2.2, still, wcache]
    · have quiet : y = v := by
        have uncrossed : w = v := by
          rw [hw]
          exact if_neg (by rw [hcross]; exact Nat.lt_irrefl _)
        rw [yfirst, uncrossed]
        split
        · next hfirst =>
          rw [hquiet.resolve_left (not_not.mpr hfirst)]
          rfl
        · rfl
      have stays : y.withArm r.arm x releases = y.setArm r.arm fun _ => x := by
        rw [goes.keeps hstate]
        rfl
      rw [tstore.1, tstore.2.1, tstore.2.2.1, stays]
      show y.storeQueue = _ ∧ y.current = _ ∧ y.walks = _
      rw [quiet]
      exact ⟨vonly.2 .storeQueue rfl, vonly.2 .current rfl, vonly.2 .walks rfl⟩
    · have zarm : (y.withArm r.arm x releases).arm r.arm = x := armX
      have shown := State.monitorTrim_of_shown (s := y.withArm r.arm x releases) false k.rate (by rw [zmonitor]; exact hrunning)
        (by rw [zmonitor]; exact hselected) (by rw [zarm]; exact hx) (show b'.snapshot = some snap by rw [hb']; exact hsnap)
      refine ⟨k.rate, fun hclosing => ?_, fun hopen hpositive => ?_, ?_⟩
      · rw [hk, hclosing]
        rfl
      · rw [hk, Computed.open_eq b snap fx config _ r hopen]
        exact congrArg some (if_neg hpositive.ne')
      · rw [goes.monitor, shown, zmonitor, zarm, show (y.withArm r.arm x releases).now = t.now from (goes.rest.2 .clock rfl).symm,
          show x.state = (t.arm r.arm).state by rw [goes.arm]]
        have number : b'.number = b.number := by rw [hb']; rfl
        rw [← number]
        rfl
    · rw [goes.monitor, State.monitorTrim_of_hidden false k.rate (by rw [zmonitor]; exact hhidden), zmonitor]

end Sys2Proof.Machine
end

section
/-! PROOFS. The lowest free slot of a lane, and records in post order. -/

namespace Sys2Proof.Machine
open Sys2Proof

/-! ## The lowest free slot of a lane (R157) -/

/-- A lane with a slot to spare posts into the lowest slot that no record holds. -/
theorem Lane.freeSlot_spec (lane : Lane) (h : ∃ i, i < 6 ∧ ∀ q ∈ lane.records, q.slot ≠ i) :
    lane.freeSlot < 6 ∧ (∀ q ∈ lane.records, q.slot ≠ lane.freeSlot) ∧
      ∀ i, i < lane.freeSlot → ∃ q ∈ lane.records, q.slot = i := by
  obtain ⟨i, hi, free⟩ := h
  have found : ((List.range 6).find? fun i => !lane.records.any (·.slot == i)).isSome = true := by
    rw [List.find?_isSome]
    exact ⟨i, List.mem_range.mpr hi, by simpa using free⟩
  obtain ⟨k, hk⟩ := Option.isSome_iff_exists.mp found
  have slot : lane.freeSlot = k := congrArg (Option.getD · 0) hk
  obtain ⟨none_holds, in_range, lower_held⟩ := List.find?_range_eq_some.mp hk
  rw [slot]
  exact ⟨List.mem_range.mp in_range, by simpa using none_holds, fun j hj => by simpa using lower_held j hj⟩

/-! ## Post order (R161) -/

/-- Putting a record into its place adds that record. -/
theorem insertByPost_perm (first : Nat) (q : QueuedRecord) (rs : List QueuedRecord) :
    (insertByPost first q rs).Perm (q :: rs) := by
  induction rs with
  | nil => exact .refl _
  | cons r rest ih =>
    unfold insertByPost
    split
    · exact .refl _
    · exact (ih.cons r).trans (.swap q r rest)

/-- The records stand at rising distances from the post number `first`. -/
def risesFrom (first : Nat) (rs : List QueuedRecord) : Prop :=
  rs.Pairwise fun x y => postDistance first x.record.post < postDistance first y.record.post

/-- A record at a distance of its own goes into its place among rising ones. -/
theorem risesFrom_insertByPost {first : Nat} {q : QueuedRecord} {rs : List QueuedRecord} (h : risesFrom first rs)
    (hq : ∀ r ∈ rs, postDistance first r.record.post ≠ postDistance first q.record.post) :
    risesFrom first (insertByPost first q rs) := by
  induction rs with
  | nil => exact List.pairwise_singleton _ _
  | cons r rest ih =>
    obtain ⟨head, tail⟩ := List.pairwise_cons.mp h
    unfold insertByPost
    split
    case isTrue before =>
      refine List.pairwise_cons.mpr ⟨fun x hx => ?_, h⟩
      rcases List.mem_cons.mp hx with rfl | hx
      · exact before
      · exact before.trans (head x hx)
    case isFalse behind =>
      refine List.pairwise_cons.mpr ⟨fun x hx => ?_, ih tail fun x hx => hq x (.tail r hx)⟩
      rcases List.mem_cons.mp ((insertByPost_perm first q rest).mem_iff.mp hx) with rfl | hx
      · exact lt_of_le_of_ne (not_lt.mp behind) (hq r (.head rest))
      · exact head x hx

/-- Records put into their places one after another join those already placed, all at rising distances. -/
theorem foldl_insertByPost (first : Nat) (rs : List QueuedRecord) :
    ∀ placed : List QueuedRecord, risesFrom first placed →
      ((rs ++ placed).map fun r => postDistance first r.record.post).Nodup →
        (rs.foldl (fun done r => insertByPost first r done) placed).Perm (rs ++ placed) ∧
          risesFrom first (rs.foldl (fun done r => insertByPost first r done) placed) := by
  induction rs with
  | nil => exact fun placed h _ => ⟨.refl _, h⟩
  | cons q rest ih =>
    intro placed h apart
    have moved : (rest ++ insertByPost first q placed).Perm (q :: rest ++ placed) :=
      ((insertByPost_perm first q placed).append_left rest).trans List.perm_middle
    have own : ∀ r ∈ placed, postDistance first r.record.post ≠ postDistance first q.record.post := by
      intro r hr same
      refine (List.nodup_cons.mp apart).1 (List.mem_map.mpr ⟨r, List.mem_append_right rest hr, same⟩)
    obtain ⟨perm, rises⟩ := ih (insertByPost first q placed) (risesFrom_insertByPost h own)
      ((moved.map _).nodup_iff.mpr apart)
    exact ⟨perm.trans moved, rises⟩

/-- Two post numbers each among the 127 that follow the other are the same. -/
theorem post_eq_of_postDistance {x y : Nat} (hx : x < 256) (hy : y < 256) (hxy : postDistance x y ≤ 127)
    (hyx : postDistance y x ≤ 127) : x = y := by
  unfold postDistance at hxy hyx
  omega

/-- Post numbers at one distance are the same. -/
theorem post_eq_of_postDistance_eq {first x y : Nat} (hf : first < 256) (hx : x < 256) (hy : y < 256)
    (h : postDistance first x = postDistance first y) : x = y := by
  unfold postDistance at h
  omega

/-- The oldest record found has the post number of any record that all others follow. -/
theorem oldestOf_of_first {rs : List QueuedRecord} {first : QueuedRecord} (hf : first ∈ rs)
    (follow : ∀ r ∈ rs, postDistance first.record.post r.record.post ≤ 127)
    (posts : ∀ r ∈ rs, r.record.post < 256) :
    ∃ q, oldestOf rs = some q ∧ q.record.post = first.record.post := by
  have found : (oldestOf rs).isSome = true := by
    unfold oldestOf
    rw [List.find?_isSome]
    exact ⟨first, hf, by simpa using follow⟩
  obtain ⟨q, hq⟩ := Option.isSome_iff_exists.mp found
  have behind : ∀ r ∈ rs, postDistance q.record.post r.record.post ≤ 127 := by
    simpa using List.find?_some hq
  have mem : q ∈ rs := List.mem_of_find?_eq_some hq
  exact ⟨q, hq, post_eq_of_postDistance (posts q mem) (posts first hf) (behind first hf) (follow q mem)⟩

/-- With a first record and distinct post numbers the records come in rising distance from it. -/
theorem inPostOrder_spec {rs : List QueuedRecord} {first : QueuedRecord} (hf : first ∈ rs)
    (follow : ∀ r ∈ rs, postDistance first.record.post r.record.post ≤ 127)
    (posts : ∀ r ∈ rs, r.record.post < 256) (distinct : (rs.map (·.record.post)).Nodup) :
    (inPostOrder rs).Perm rs ∧ risesFrom first.record.post (inPostOrder rs) := by
  obtain ⟨q, hq, same⟩ := oldestOf_of_first hf follow posts
  have order : inPostOrder rs = rs.foldl (fun done r => insertByPost first.record.post r done) [] := by
    unfold inPostOrder
    rw [hq, ← same]
  have apart : (rs.map fun r => postDistance first.record.post r.record.post).Nodup := by
    rw [List.nodup_iff_pairwise_ne, List.pairwise_map] at distinct ⊢
    exact distinct.imp_of_mem fun hx hy ne same =>
      ne (post_eq_of_postDistance_eq (posts first hf) (posts _ hx) (posts _ hy) same)
  have sorted := foldl_insertByPost first.record.post rs [] List.Pairwise.nil (by rwa [List.append_nil])
  rwa [List.append_nil, ← order] at sorted

end Sys2Proof.Machine
end

section
/-! PROOFS. How the reading of a load's items ends. -/

namespace Sys2Proof.Machine
open Sys2Proof

/-! ## Items read one after another -/

/-- One read and what is read after it: a failure ends the sequence. -/
def thenRead {α β : Type} (r : Option α × Bus) (next : α → Bus → Option β × Bus) : Option β × Bus :=
  match r with
  | (some x, b) => next x b
  | (none, b) => (none, b)

theorem Bus.readAll_cons {α : Type} (view : Option StoreCell → Option α) (at' : Nat) (rest : List Nat) (b : Bus) :
    Bus.readAll view (at' :: rest) b =
      thenRead (b.read view at') fun x b => thenRead (Bus.readAll view rest b) fun xs b => (some (x :: xs), b) := by
  rw [Bus.readAll]
  unfold thenRead
  rcases b.read view at' with ⟨_ | x, b'⟩
  · rfl
  · dsimp only
    rcases Bus.readAll view rest b' with ⟨_ | xs, b''⟩ <;> rfl

/-- The items of a load lie in a row in each of its four stages (R107). -/
theorem runLoad_eq (b : Bus) :
    runLoad b =
      thenRead (b.read asCounter counterAt) fun counter b =>
      thenRead (Bus.readAll asTotals (allArms.map totalsAt) b) fun totals b =>
      thenRead (Bus.readAll asSlot ((List.range 24).map (1296 + ·)) b) fun slots b =>
      thenRead (Bus.readAll asMarker (allArms.map markerAt) b) fun markers b =>
        (some ⟨counter, totals, slots, markers⟩, b) := by
  have slots : (allLanes.flatMap fun l => slotNumbers.map (slotAt l)) = (List.range 24).map (1296 + ·) := by decide
  unfold runLoad thenRead
  rw [slots]
  rcases b.read asCounter counterAt with ⟨_ | counter, b⟩
  · rfl
  dsimp only
  rcases Bus.readAll asTotals (allArms.map totalsAt) b with ⟨_ | totals, b⟩
  · rfl
  dsimp only
  rcases Bus.readAll asSlot ((List.range 24).map (1296 + ·)) b with ⟨_ | slots, b⟩
  · rfl
  dsimp only
  rcases Bus.readAll asMarker (allArms.map markerAt) b with ⟨_ | markers, b⟩ <;> rfl

/-! ## A sound reading -/

/-- Readable items are all read on a sound bus. -/
theorem Bus.readAll_sound {α ι : Type} {view : Option StoreCell → Option α} {st : Store} (place : ι → Nat)
    (value : ι → α) (is : List ι) (n : Nat) (h : ∀ i ∈ is, view (Store.read st (place i)) = some (value i)) :
    Bus.readAll view (is.map place) ⟨st, n, none, none⟩ =
      (some (is.map value), ⟨st, n + is.length, none, none⟩) := by
  induction is generalizing n with
  | nil => rfl
  | cons i rest ih =>
    rw [List.map_cons, Bus.readAll_cons, Bus.read_sound, h i (.head rest)]
    dsimp only [thenRead]
    rw [ih (n + 1) fun j hj => h j (.tail i hj), List.length_cons, Nat.add_right_comm n 1]
    rfl

/-- A load on a sound bus whose 41 items can all be read. -/
theorem runLoad_sound {st : Store} {counter : Nat} {totals : ArmId → TotalsBlock} {slots : Nat → Option BatchRecord}
    {markers : ArmId → Option OpenMarker} (hc : asCounter (Store.read st counterAt) = some counter)
    (ht : ∀ a, asTotals (Store.read st (totalsAt a)) = some (totals a))
    (hs : ∀ n, n < 24 → asSlot (Store.read st (1296 + n)) = some (slots n))
    (hm : ∀ a, asMarker (Store.read st (markerAt a)) = some (markers a)) :
    runLoad ⟨st, 0, none, none⟩ =
      (some ⟨counter, allArms.map totals, (List.range 24).map slots, allArms.map markers⟩,
        ⟨st, 41, none, none⟩) := by
  rw [runLoad_eq, Bus.read_sound, hc]
  dsimp only [thenRead]
  rw [Bus.readAll_sound totalsAt totals allArms _ fun a _ => ht a]
  dsimp only
  rw [Bus.readAll_sound (1296 + ·) slots (List.range 24) _ fun n hn => hs n (List.mem_range.mp hn)]
  dsimp only
  rw [Bus.readAll_sound markerAt markers allArms _ fun a _ => hm a]
  rfl

/-! ## A failing reading -/

/-- How reading up to `len` items from a bus ends: with every item read, none of them the failing one and all `fine`; or
after a failing one, at the latest the one that the bus fails. -/
def Bus.endsWithin {α : Type} (b : Bus) (len : Nat) (fine : Prop) (r : Option α × Bus) : Prop :=
  (∃ x, r = (some x, { b with items := b.items + len }) ∧ fine ∧
    ∀ f, b.fault = some f → ¬ (b.items ≤ f.item ∧ f.item < b.items + len)) ∨
  ∃ m, r = (none, { b with items := m }) ∧ b.items < m ∧ m ≤ b.items + len ∧
    ∀ f, b.fault = some f → b.items ≤ f.item → m ≤ f.item + 1

theorem Bus.endsWithin_read {α : Type} {b : Bus} (live : b.power = none) (view : Option StoreCell → Option α)
    (at' : Nat) : b.endsWithin 1 ((view (Store.read b.store at')).isSome = true) (b.read view at') := by
  have alive : b.dead = false := by unfold Bus.dead; rw [live]
  have failed : b.endsWithin 1 ((view (Store.read b.store at')).isSome = true)
      ((none, { b with items := b.items + 1 }) : Option α × Bus) :=
    .inr ⟨b.items + 1, rfl, Nat.lt_succ_self _, le_rfl, fun f _ hle => Nat.succ_le_succ hle⟩
  unfold Bus.read
  rw [alive, if_neg Bool.false_ne_true]
  cases hf : b.failure with
  | some shows => exact failed
  | none =>
    cases hv : view (Store.read b.store at') with
    | none => exact hv ▸ failed
    | some x =>
      refine .inl ⟨x, rfl, rfl, fun f hfault within => ?_⟩
      unfold Bus.failure at hf
      rw [hfault] at hf
      have here : f.item = b.items := by omega
      simp [here] at hf

/-- Readings one after another. -/
theorem Bus.endsWithin_thenRead {α β : Type} {b : Bus} {len more : Nat} {fine also : Prop} {r : Option α × Bus}
    {next : α → Bus → Option β × Bus} (h : b.endsWithin len fine r)
    (hnext : ∀ x, ({ b with items := b.items + len } : Bus).endsWithin more also
      (next x { b with items := b.items + len })) :
    b.endsWithin (len + more) (fine ∧ also) (thenRead r next) := by
  rcases h with ⟨x, rfl, hfine, out⟩ | ⟨m, rfl, low, high, upto⟩
  · rcases hnext x with ⟨y, hy, halso, out'⟩ | ⟨m, hm, low, high, upto⟩
    · refine .inl ⟨y, by rw [← Nat.add_assoc]; exact hy, ⟨hfine, halso⟩, fun f hf within => ?_⟩
      have := out f hf
      have := out' f hf
      dsimp only at this
      omega
    · dsimp only at low high upto
      refine .inr ⟨m, hm, by omega, by omega, fun f hf hle => upto f hf ?_⟩
      have := out f hf
      omega
  · exact .inr ⟨m, rfl, low, by omega, upto⟩

/-- What is made of items read changes nothing about how the reading ends. -/
theorem Bus.endsWithin_then {α β : Type} {b : Bus} {len : Nat} {fine : Prop} {r : Option α × Bus} (make : α → β)
    (h : b.endsWithin len fine r) : b.endsWithin len fine (thenRead r fun x b => (some (make x), b)) := by
  rcases h with ⟨x, rfl, hx⟩ | ⟨m, rfl, hm⟩
  · exact .inl ⟨make x, rfl, hx⟩
  · exact .inr ⟨m, rfl, hm⟩

theorem Bus.endsWithin_readAll {α : Type} (view : Option StoreCell → Option α) (places : List Nat) {b : Bus}
    (live : b.power = none) :
    b.endsWithin places.length (∀ p ∈ places, (view (Store.read b.store p)).isSome = true)
      (Bus.readAll view places b) := by
  induction places generalizing b with
  | nil => exact .inl ⟨[], rfl, nofun, fun _ _ within => by simp at within; omega⟩
  | cons p rest ih =>
    rw [Bus.readAll_cons, List.length_cons, Nat.add_comm, List.forall_mem_cons]
    exact Bus.endsWithin_thenRead (Bus.endsWithin_read live view p) fun x =>
      Bus.endsWithin_then (fun xs => x :: xs) (ih (b := { b with items := b.items + 1 }) live)

/-- Every item of a load can be read. -/
def Store.loads (st : Store) : Prop :=
  (asCounter (Store.read st counterAt)).isSome = true ∧
    (∀ p ∈ allArms.map totalsAt, (asTotals (Store.read st p)).isSome = true) ∧
    (∀ p ∈ (List.range 24).map (1296 + ·), (asSlot (Store.read st p)).isSome = true) ∧
    ∀ p ∈ allArms.map markerAt, (asMarker (Store.read st p)).isSome = true

theorem Bus.endsWithin_runLoad {b : Bus} (live : b.power = none) : b.endsWithin 41 (Store.loads b.store) (runLoad b) := by
  rw [runLoad_eq]
  refine Bus.endsWithin_thenRead (len := 1) (more := 40) (Bus.endsWithin_read live asCounter counterAt) fun counter => ?_
  refine Bus.endsWithin_thenRead (len := 8) (more := 32) (Bus.endsWithin_readAll asTotals (allArms.map totalsAt) live)
    fun totals => ?_
  refine Bus.endsWithin_thenRead (len := 24) (more := 8)
    (Bus.endsWithin_readAll asSlot ((List.range 24).map (1296 + ·)) live) fun slots => ?_
  exact Bus.endsWithin_then (fun markers => (⟨counter, totals, slots, markers⟩ : Loaded))
    (Bus.endsWithin_readAll asMarker (allArms.map markerAt) live)

/-- A load that meets a failing item, or one that cannot be read, ends without a result at that item or before. -/
theorem runLoad_failing {s : State} {f : Option Nat} (bad : (∃ k, f = some k ∧ k < 41) ∨ ¬ Store.loads s.store) :
    ∃ items, 1 ≤ items ∧ items ≤ 41 ∧ (∀ k, f = some k → items ≤ k + 1) ∧
      runLoad (s.bus (loadFault f)) = (none, ⟨s.store, items, loadFault f, none⟩) := by
  rcases Bus.endsWithin_runLoad (b := s.bus (loadFault f)) rfl with ⟨x, -, fine, out⟩ | ⟨m, hm, low, high, upto⟩
  · rcases bad with ⟨k, rfl, hk⟩ | bad
    · exact absurd ⟨Nat.zero_le k, (Nat.zero_add 41).symm ▸ hk⟩ (out ⟨k, .unchanged⟩ rfl)
    · exact absurd fine bad
  · refine ⟨m, low, by rw [← Nat.zero_add 41]; exact high, fun k hk => ?_, hm⟩
    exact upto ⟨k, .unchanged⟩ (congrArg loadFault hk) (Nat.zero_le k)

end Sys2Proof.Machine
end

section
/-! PROOFS. The recovery of the open batches, lane by lane. -/

namespace Sys2Proof.Machine
open Sys2Proof

/-! ## The recovery of the open batches of a lane (R109) -/

/-- A lane after the recovery of an arm's marker: an INTERRUPTED record posted where no slot holds the batch's record. -/
def Loaded.recoverLane (d : Loaded) (a : ArmId) (lane : Lane) : Lane :=
  match d.markerOf a, (d.markerOf a).bind (d.recordOf a) with
  | some m, none => lane.post (interruptedRecord a m)
  | _, _ => lane

/-- The recovery CLOSE of an arm whose lane stands as given, if it has a marker. -/
def Loaded.closeFor (d : Loaded) (a : ArmId) (lane : Lane) (figures : TotalsBlock) : Option QueuedOp :=
  (d.markerOf a).map fun m =>
    let q := (d.recordOf a m).getD (lane.posting (interruptedRecord a m))
    ⟨.close a q.slot q.record figures, false⟩

theorem State.recoverArm_eq (d : Loaded) (s : State) {a : ArmId} {l : LaneId} {began : Nat} (hl : laneOf a = l)
    (h : s.load = .loading began) :
    State.recoverArm d s a =
      { s.setLane l (d.recoverLane a) with
        storeQueue := s.storeQueue ++ (d.closeFor a s.lanes[l] (s.arm a).figures).toList } := by
  subst hl
  rw [State.recoverArm_of_loading d s a h]
  have same : s.setLane (laneOf a) (fun lane => lane) = s := by
    simp [State.setLane]
  unfold Loaded.recoverLane Loaded.closeFor
  cases hm : d.markerOf a with
  | none =>
    dsimp only
    rw [same]
    show s = { s with storeQueue := s.storeQueue ++ [] }
    rw [List.append_nil]
  | some m =>
    simp only [Option.bind_some, Option.map_some]
    cases d.recordOf a m with
    | some q =>
      dsimp only [Option.getD_some]
      rw [same]
      rfl
    | none => rfl

/-- The first arm of a lane. -/
def evenArm (l : LaneId) : ArmId := ⟨2 * l.val, by omega⟩

/-- The second arm of a lane. -/
def oddArm (l : LaneId) : ArmId := ⟨2 * l.val + 1, by omega⟩

theorem laneOf_evenArm (l : LaneId) : laneOf (evenArm l) = l := by
  apply Fin.ext
  show 2 * l.val / 2 = l.val
  omega

theorem laneOf_oddArm (l : LaneId) : laneOf (oddArm l) = l := by
  apply Fin.ext
  show (2 * l.val + 1) / 2 = l.val
  omega

/-- The arms in order are those of the lanes in order. -/
theorem allArms_eq : allArms = allLanes.flatMap fun l => [evenArm l, oddArm l] := by decide

/-- A lane after the recovery of both its arms. -/
def Loaded.recoverBoth (d : Loaded) (l : LaneId) (lane : Lane) : Lane :=
  d.recoverLane (oddArm l) (d.recoverLane (evenArm l) lane)

/-- The recovery CLOSEs of a lane's arms, in arm order. -/
def Loaded.closesOf (d : Loaded) (figures : ArmId → TotalsBlock) (l : LaneId) (lane : Lane) : List QueuedOp :=
  (d.closeFor (evenArm l) lane (figures (evenArm l))).toList ++
    (d.closeFor (oddArm l) (d.recoverLane (evenArm l) lane) (figures (oddArm l))).toList

/-- The recovery of a lane's two arms. -/
theorem State.recoverPair_eq (d : Loaded) (s : State) (l : LaneId) {began : Nat} (h : s.load = .loading began) :
    State.recoverArm d (State.recoverArm d s (evenArm l)) (oddArm l) =
      { s.setLane l (d.recoverBoth l) with
        storeQueue := s.storeQueue ++ d.closesOf (fun a => (s.arm a).figures) l s.lanes[l] } := by
  rw [State.recoverArm_eq d _ (laneOf_oddArm l) (State.load_recoverArm d s (evenArm l) h),
    State.recoverArm_eq d s (laneOf_evenArm l) h]
  unfold State.setLane Loaded.closesOf Loaded.recoverBoth State.arm
  dsimp only
  simp only [Fin.getElem_fin, Vector.getElem_set_self, Vector.set_set, List.append_assoc]

/-- The recovery of the arms of some lanes: what their lanes and the store queue become. -/
theorem State.recoverLanes_spec (d : Loaded) {ls : List LaneId} (distinct : ls.Nodup) {began : Nat} :
    ∀ s : State, s.load = .loading began →
      ∃ lanes : Vector Lane 4,
        (ls.flatMap fun l => [evenArm l, oddArm l]).foldl (State.recoverArm d) s =
          { s with
            lanes := lanes
            storeQueue := s.storeQueue ++
              ls.flatMap fun l => d.closesOf (fun a => (s.arm a).figures) l s.lanes[l] } ∧
        ∀ l : LaneId, lanes[l] = if l ∈ ls then d.recoverBoth l s.lanes[l] else s.lanes[l] := by
  induction ls with
  | nil =>
    intro s _
    have unchanged : s = { s with storeQueue := s.storeQueue ++ [] } := by rw [List.append_nil]
    exact ⟨s.lanes, unchanged, fun l => rfl⟩
  | cons k rest ih =>
    intro s h
    obtain ⟨fresh, distinct⟩ := List.nodup_cons.mp distinct
    obtain ⟨lanes, run, each⟩ := ih distinct
      { s.setLane k (d.recoverBoth k) with
        storeQueue := s.storeQueue ++ d.closesOf (fun a => (s.arm a).figures) k s.lanes[k] } h
    have other : ∀ l : LaneId, l ≠ k → (s.setLane k (d.recoverBoth k)).lanes[l] = s.lanes[l] := fun l hl =>
      State.lane_setLane_of_ne s (d.recoverBoth k) hl
    refine ⟨lanes, ?_, fun l => ?_⟩
    · rw [List.flatMap_cons, List.foldl_append]
      show (rest.flatMap fun l => [evenArm l, oddArm l]).foldl (State.recoverArm d)
        (State.recoverArm d (State.recoverArm d s (evenArm k)) (oddArm k)) = _
      rw [State.recoverPair_eq d s k h, run, List.flatMap_cons, ← List.append_assoc]
      have later : (rest.flatMap fun l =>
            d.closesOf (fun a => (s.arm a).figures) l (s.setLane k (d.recoverBoth k)).lanes[l]) =
          rest.flatMap fun l => d.closesOf (fun a => (s.arm a).figures) l s.lanes[l] :=
        List.flatMap_congr fun l hl => by rw [other l fun e => fresh (e ▸ hl)]
      exact congrArg (fun closes => { s with
        lanes := lanes
        storeQueue := s.storeQueue ++ d.closesOf (fun a => (s.arm a).figures) k s.lanes[k] ++ closes }) later
    · rw [each l]
      show (if l ∈ rest then d.recoverBoth l (s.setLane k (d.recoverBoth k)).lanes[l]
        else (s.setLane k (d.recoverBoth k)).lanes[l]) = _
      by_cases hl : l = k
      · subst hl
        rw [if_neg fresh, if_pos (.head rest)]
        exact State.lane_setLane_self s l _
      · rw [other l hl]
        simp [hl]

/-- The recovery of every arm's marker. -/
theorem State.recoverAll_spec (d : Loaded) {s : State} {began : Nat} (h : s.load = .loading began) :
    ∃ lanes : Vector Lane 4,
      allArms.foldl (State.recoverArm d) s =
        { s with
          lanes := lanes
          storeQueue := s.storeQueue ++
            allLanes.flatMap fun l => d.closesOf (fun a => (s.arm a).figures) l s.lanes[l] } ∧
      ∀ l : LaneId, lanes[l] = d.recoverBoth l s.lanes[l] := by
  obtain ⟨lanes, run, each⟩ := State.recoverLanes_spec d (ls := allLanes) (by decide) s h
  exact ⟨lanes, allArms_eq ▸ run, fun l => by rw [each l, if_pos (by revert l; decide)]⟩

end Sys2Proof.Machine
end

section
/-! PROOFS. What a load read, arm by arm and lane by lane. -/

namespace Sys2Proof.Machine
open Sys2Proof

/-! ## What a load read, arm by arm and lane by lane -/

/-- The items of a load: counter, totals blocks, record slots and markers. -/
def loadedOf (counter : Nat) (totals : ArmId → TotalsBlock) (slots : Nat → Option BatchRecord)
    (markers : ArmId → Option OpenMarker) : Loaded :=
  ⟨counter, allArms.map totals, (List.range 24).map slots, allArms.map markers⟩

/-- The records found in a lane's six slots. -/
def recordsFound (slots : Nat → Option BatchRecord) (l : LaneId) : List QueuedRecord :=
  ([0, 1, 2, 3, 4, 5] : List Nat).filterMap fun i =>
    (slots (l.val * 6 + i)).map fun r => ⟨{ r with unsaved := false }, i⟩

section
variable {counter : Nat} {totals : ArmId → TotalsBlock} {slots : Nat → Option BatchRecord}
  {markers : ArmId → Option OpenMarker} {written : ArmId → Option QueuedRecord}

theorem getElem?_map_allArms {α : Type} (f : ArmId → α) (a : ArmId) : (allArms.map f)[a.val]? = some (f a) := by
  have place : allArms[a.val]? = some a := by revert a; decide
  rw [List.getElem?_map, place, Option.map_some]

theorem markerOf_loadedOf (a : ArmId) : (loadedOf counter totals slots markers).markerOf a = markers a :=
  congrArg (Option.getD · none) (getElem?_map_allArms markers a)

theorem recordsOf_loadedOf (l : LaneId) :
    (loadedOf counter totals slots markers).recordsOf l = recordsFound slots l := by
  unfold Loaded.recordsOf recordsFound
  refine List.filterMap_congr fun i hi => ?_
  have inside : l.val * 6 + i < 24 := by
    have : i ∈ List.range 6 := hi
    have := List.mem_range.mp this
    omega
  have read : (loadedOf counter totals slots markers).slots[l.val * 6 + i]? = some (slots (l.val * 6 + i)) := by
    show ((List.range 24).map slots)[l.val * 6 + i]? = _
    rw [List.getElem?_map, List.getElem?_range inside, Option.map_some]
  rw [read, Option.getD_some]
  cases slots (l.val * 6 + i) <;> rfl

/-- The record of each marker's batch is the one in the slots of the arm's lane, if any. -/
def slotsHold (slots : Nat → Option BatchRecord) (markers : ArmId → Option OpenMarker)
    (written : ArmId → Option QueuedRecord) : Prop :=
  ∀ a m, markers a = some m →
    (∀ q, written a = some q → q ∈ recordsFound slots (laneOf a) ∧ q.record.number = m.number) ∧
      ∀ q ∈ recordsFound slots (laneOf a), q.record.number = m.number → written a = some q

theorem recordOf_loadedOf (h : slotsHold slots markers written) {a : ArmId} {m : OpenMarker} (hm : markers a = some m) :
    (loadedOf counter totals slots markers).recordOf a m = written a := by
  obtain ⟨held, only⟩ := h a m hm
  unfold Loaded.recordOf
  rw [recordsOf_loadedOf]
  cases hf : (recordsFound slots (laneOf a)).find? fun q => q.record.number == m.number with
  | none =>
    cases hw : written a with
    | none => rfl
    | some q =>
      obtain ⟨mem, number⟩ := held q hw
      exact absurd (beq_iff_eq.mpr number) (List.find?_eq_none.mp hf q mem)
  | some q =>
    exact (only q (List.mem_of_find?_eq_some hf) (by simpa using List.find?_some hf)).symm

/-- The figures an arm takes: its marker's when no slot holds the record, and its totals block's otherwise. -/
def figuresTaken (totals : ArmId → TotalsBlock) (markers : ArmId → Option OpenMarker)
    (written : ArmId → Option QueuedRecord) (a : ArmId) : TotalsBlock :=
  match markers a, written a with
  | some m, none => m.figures
  | _, _ => totals a

theorem figuresOf_loadedOf (h : slotsHold slots markers written) (a : ArmId) :
    (loadedOf counter totals slots markers).figuresOf a = figuresTaken totals markers written a := by
  have block : ((loadedOf counter totals slots markers).totals[a.val]?).getD blankTotals = totals a :=
    congrArg (Option.getD · blankTotals) (getElem?_map_allArms totals a)
  unfold Loaded.figuresOf figuresTaken
  rw [block, markerOf_loadedOf]
  cases hm : markers a with
  | none => rfl
  | some m =>
    dsimp only
    rw [recordOf_loadedOf h hm]
    cases written a <;> rfl

/-- A lane after the recovery of an arm: an INTERRUPTED record posted behind the others in the lowest free slot. -/
def laneRecovered (markers : ArmId → Option OpenMarker) (written : ArmId → Option QueuedRecord) (lane : Lane)
    (a : ArmId) : Lane :=
  match markers a, written a with
  | some m, none => lane.post (interruptedRecord a m)
  | _, _ => lane

theorem recoverLane_loadedOf (h : slotsHold slots markers written) (a : ArmId) (lane : Lane) :
    (loadedOf counter totals slots markers).recoverLane a lane = laneRecovered markers written lane a := by
  unfold Loaded.recoverLane laneRecovered
  rw [markerOf_loadedOf]
  cases hm : markers a with
  | none => rfl
  | some m =>
    rw [Option.bind_some, recordOf_loadedOf h hm] <;> cases written a <;> rfl

/-- The CLOSE of an arm's recovered batch: of the record in its slot or of the one posted. -/
def recoveryClose (markers : ArmId → Option OpenMarker) (written : ArmId → Option QueuedRecord) (lane : Lane)
    (figures : TotalsBlock) (a : ArmId) : Option QueuedOp :=
  (markers a).map fun m =>
    let carried := (written a).getD (lane.posting (interruptedRecord a m))
    ⟨.close a carried.slot carried.record figures, false⟩

theorem closeFor_loadedOf (h : slotsHold slots markers written) (a : ArmId) (lane : Lane) (figures : TotalsBlock) :
    (loadedOf counter totals slots markers).closeFor a lane figures =
      recoveryClose markers written lane figures a := by
  unfold Loaded.closeFor recoveryClose
  rw [markerOf_loadedOf]
  cases hm : markers a with
  | none => rfl
  | some m =>
    rw [Option.map_some, Option.map_some, recordOf_loadedOf h hm]

end

end Sys2Proof.Machine
end

section
/-! PROOFS. The custody state taken from a load. -/

namespace Sys2Proof.Machine
open Sys2Proof

/-! ## The custody state taken from a load -/

/-- An arm, a lane and the waiting operations after a load, and the recovery of the open batches. -/
theorem State.takeLoad_spec (d : Loaded) {s : State} {began : Nat} (h : s.load = .loading began) :
    ∃ lanes : Vector Lane 4,
      s.takeLoad d =
        { s with
          batchCounter := d.counter
          arms := Vector.ofFn fun a => s.arms[a].load (d.figuresOf a)
          lanes := lanes
          storeQueue := (s.storeQueue.map fun w => { w with op := d.addTo w.op }) ++
            allLanes.flatMap fun l =>
              d.closesOf (fun a => ((s.arm a).load (d.figuresOf a)).figures) l (d.laneOf l s.lanes[l]) } ∧
      ∀ l : LaneId, lanes[l] = d.recoverBoth l (d.laneOf l s.lanes[l]) := by
  obtain ⟨lanes, run, each⟩ := State.recoverAll_spec d (s := { s with
    batchCounter := d.counter
    arms := Vector.ofFn fun a => s.arms[a].load (d.figuresOf a)
    lanes := Vector.ofFn fun l => d.laneOf l s.lanes[l]
    storeQueue := s.storeQueue.map fun w => { w with op := d.addTo w.op } }) h
  have lane : ∀ l : LaneId, (Vector.ofFn fun l : LaneId => d.laneOf l s.lanes[l])[l] = d.laneOf l s.lanes[l] :=
    fun l => Vector.getElem_ofFn l.isLt
  have arm : ∀ a : ArmId, (Vector.ofFn fun a : ArmId => s.arms[a].load (d.figuresOf a))[a] =
      (s.arm a).load (d.figuresOf a) := fun a => Vector.getElem_ofFn a.isLt
  refine ⟨lanes, run.trans ?_, fun l => by rw [each l]; exact congrArg _ (lane l)⟩
  have figures : (fun a : ArmId => ((Vector.ofFn fun a : ArmId => s.arms[a].load (d.figuresOf a))[a]).figures) =
      fun a => ((s.arm a).load (d.figuresOf a)).figures := funext fun a => congrArg Arm.figures (arm a)
  have closes : (allLanes.flatMap fun l =>
        d.closesOf (fun a : ArmId => ((Vector.ofFn fun a : ArmId => s.arms[a].load (d.figuresOf a))[a]).figures) l
          ((Vector.ofFn fun l : LaneId => d.laneOf l s.lanes[l])[l])) =
      allLanes.flatMap fun l =>
        d.closesOf (fun a => ((s.arm a).load (d.figuresOf a)).figures) l (d.laneOf l s.lanes[l]) :=
    List.flatMap_congr fun l _ => by rw [figures, lane l]
  exact congrArg (fun q => ({ s with
    batchCounter := d.counter
    arms := Vector.ofFn fun a => s.arms[a].load (d.figuresOf a)
    lanes := lanes
    storeQueue := (s.storeQueue.map fun w => { w with op := d.addTo w.op }) ++ q } : State)) closes

/-- The CLOSEs of all lanes' arms are those of the arms in order. -/
theorem filterMap_allArms (f : ArmId → Option QueuedOp) :
    allArms.filterMap f = allLanes.flatMap fun l => (f (evenArm l)).toList ++ (f (oddArm l)).toList := by
  rw [allArms_eq, List.filterMap_flatMap]
  refine List.flatMap_congr fun l _ => ?_
  cases he : f (evenArm l) <;> cases ho : f (oddArm l) <;> simp [he, ho]

/-- The end of a load whose reading of `n` items came to `d`. -/
theorem exec_storeLoadEnd_of_run {s : State} {f : Option Nat} {started n ms : Nat} {d : Option Loaded} {st : Store}
    {fault : Option StoreFault} (h : s.load = .loading started)
    (run : runLoad (s.bus (loadFault f)) = (d, ⟨st, n, fault, none⟩)) (hn : n * 1000 = ms) :
    exec (.storeLoadEnd f) s = .next (State.endLoad { s with now := max s.now (started + ms) } d) := by
  subst hn
  show execStoreLoadEnd f s = _
  unfold execStoreLoadEnd
  conv_lhs => rw [h]
  dsimp only
  rw [run]
  rfl

/-- What a sound load leaves: counter, arms, lanes and waiting operations as loaded and recovered. -/
theorem exec_storeLoadEnd_sound {s : State} {started counter : Nat} {totals : ArmId → TotalsBlock}
    {slots : Nat → Option BatchRecord} {markers : ArmId → Option OpenMarker} {written : ArmId → Option QueuedRecord}
    (h : s.load = .loading started) (hc : asCounter (Store.read s.store counterAt) = some counter)
    (ht : ∀ a, asTotals (Store.read s.store (totalsAt a)) = some (totals a))
    (hs : ∀ n, n < 24 → asSlot (Store.read s.store (1296 + n)) = some (slots n))
    (hm : ∀ a, asMarker (Store.read s.store (markerAt a)) = some (markers a))
    (hw : slotsHold slots markers written) :
    let d := loadedOf counter totals slots markers
    let figures := figuresTaken totals markers written
    let lane := fun l : LaneId => d.laneOf l s.lanes[l]
    let close := fun (lane : Lane) (a : ArmId) =>
      recoveryClose markers written lane ((s.arm a).load (figures a)).figures a
    ∃ lanes : Vector Lane 4,
      exec (.storeLoadEnd none) s = .next ((State.settle { s with
        now := max s.now (started + 41000)
        load := .ready
        batchCounter := counter
        arms := Vector.ofFn fun a => s.arms[a].load (d.figuresOf a)
        lanes := lanes
        storeQueue := (s.storeQueue.map fun w => { w with op := d.addTo w.op }) ++
          allLanes.flatMap fun l => (close (lane l) (evenArm l)).toList ++
            (close (laneRecovered markers written (lane l) (evenArm l)) (oddArm l)).toList }
        .supervisor .restart .ok .nothing).advanceStore) ∧
      ∀ l : LaneId, lanes[l] =
        laneRecovered markers written (laneRecovered markers written (lane l) (evenArm l)) (oddArm l) := by
  intro d figures lane close
  have taken : (fun a => ((s.arm a).load (d.figuresOf a)).figures) = fun a => ((s.arm a).load (figures a)).figures :=
    funext fun a => congrArg (fun x => ((s.arm a).load x).figures) (figuresOf_loadedOf hw a)
  obtain ⟨lanes, run, each⟩ := State.takeLoad_spec d (s := { s with now := max s.now (started + 41000) }) h
  have closes : (allLanes.flatMap fun l =>
        d.closesOf (fun a => ((s.arm a).load (d.figuresOf a)).figures) l (lane l)) =
      allLanes.flatMap fun l => (close (lane l) (evenArm l)).toList ++
        (close (laneRecovered markers written (lane l) (evenArm l)) (oddArm l)).toList := by
    refine List.flatMap_congr fun l _ => ?_
    unfold Loaded.closesOf
    rw [taken, closeFor_loadedOf hw, closeFor_loadedOf hw, recoverLane_loadedOf hw]
  refine ⟨lanes, ?_, fun l => (each l).trans ?_⟩
  · have read : runLoad (s.bus (loadFault none)) = (some d, ⟨s.store, 41, none, none⟩) := runLoad_sound hc ht hs hm
    rw [exec_storeLoadEnd_of_run (ms := 41000) h read rfl, ← closes]
    exact congrArg (fun t : State => (Host.Outcome.next ((State.settle { t with load := .ready }
      .supervisor .restart .ok .nothing).advanceStore) : Host.Outcome State Fault Refusal)) run
  · unfold Loaded.recoverBoth
    rw [recoverLane_loadedOf hw, recoverLane_loadedOf hw]

/-- What a failing load leaves. -/
theorem exec_storeLoadEnd_failing {s : State} {f : Option Nat} {started : Nat} (h : s.load = .loading started)
    (bad : (∃ k, f = some k ∧ k < 41) ∨ ¬ Store.loads s.store) :
    ∃ items, 1 ≤ items ∧ items ≤ 41 ∧ (∀ k, f = some k → items ≤ k + 1) ∧
      exec (.storeLoadEnd f) s = .next (State.advanceStore (State.settle { s with
        now := max s.now (started + items * 1000)
        load := .loadFailed } .supervisor .restart .storeFault .nothing)) := by
  obtain ⟨items, low, high, upto, run⟩ := runLoad_failing bad
  exact ⟨items, low, high, upto, exec_storeLoadEnd_of_run h run rfl⟩

end Sys2Proof.Machine
end

section
/-! PROOFS. The end of a load. -/

namespace Sys2Proof.Machine
open Sys2Proof

/-! ## The end of a load (R107 to R110) -/

/-- The slots, totals blocks and markers of a store that loads, at the addresses of Table 6-1. -/
theorem Store.loads_items {st : Store} (h : Store.loads st) :
    asCounter (Store.read st counterAt) ≠ none ∧ (∀ a, asTotals (Store.read st (totalsAt a)) ≠ none) ∧
      (∀ n, n < 24 → asSlot (Store.read st (1296 + n)) ≠ none) ∧ ∀ a, asMarker (Store.read st (markerAt a)) ≠ none := by
  obtain ⟨counter, totals, slots, markers⟩ := h
  refine ⟨Option.isSome_iff_ne_none.mp counter, fun a => ?_, fun n hn => ?_, fun a => ?_⟩
  · exact Option.isSome_iff_ne_none.mp (totals _ (List.mem_map_of_mem (mem_allArms a)))
  · exact Option.isSome_iff_ne_none.mp (slots _ (List.mem_map_of_mem (List.mem_range.mpr hn)))
  · exact Option.isSome_iff_ne_none.mp (markers _ (List.mem_map_of_mem (mem_allArms a)))

/-- The parts that a load replaces. -/
def loadParts : Part → Bool := fun q =>
  q == .clock || q == .load || q == .batchCounter || q == .storeQueue ||
    match q with | .arm _ => true | .lane _ => true | _ => false

theorem State.changesOnly_load (s : State) (now counter : Nat) (load : LoadState) (arms : Vector Arm 8)
    (lanes : Vector Lane 4) (queue : List QueuedOp) :
    s.changesOnly { s with
      now := now, load := load, batchCounter := counter, arms := arms, lanes := lanes, storeQueue := queue }
      loadParts := by
  refine ⟨rfl, fun q hq => ?_⟩
  cases q with
  | clock | load | batchCounter | storeQueue => exact absurd hq (by decide)
  | arm a => exact absurd hq (by simp [loadParts])
  | lane l => exact absurd hq (by simp [loadParts])
  | _ => rfl

/-- Settles O58: a failing load by the item it ends at, a sound one by what the recovery of every arm's marker leaves
(`State.recoverAll_spec`), the post order by insertion and the free slot as the lowest not held. -/
theorem loadEndRestoresTheCustody : Obligations.LoadEndRestoresTheCustody := by
  unfold Obligations.LoadEndRestoresTheCustody
  intro foundIn plus interrupted
  refine ⟨⟨?failing, ?sound⟩, ?order, fun lane h => lane.freeSlot_spec h⟩
  case failing =>
    intro started f s h bad
    refine exec_storeLoadEnd_failing h (bad.imp_right fun unreadable loads => ?_)
    obtain ⟨counter, totals, slots, markers⟩ := Store.loads_items loads
    rcases unreadable with hc | ⟨a, ha⟩ | ⟨n, hn, hs⟩ | ⟨a, ha⟩
    · exact counter hc
    · exact totals a ha
    · exact slots n hn hs
    · exact markers a ha
  case order =>
    intro rs first hf follow posts distinct
    exact inPostOrder_spec hf follow posts distinct
  case sound =>
    intro started counter totals slots markers written s h hc ht hs hm hw figures loadedArm loadedLane recovered before
      closing
    obtain ⟨lanes, run, each⟩ := exec_storeLoadEnd_sound h hc ht hs hm hw
    have taken : ∀ a, (loadedOf counter totals slots markers).figuresOf a = figures a := figuresOf_loadedOf hw
    have arm : ∀ a, (s.arm a).load (figures a) = loadedArm a := fun a => rfl
    have lane : ∀ l, (loadedOf counter totals slots markers).laneOf l s.lanes[l] = loadedLane l := fun l => by
      unfold Loaded.laneOf
      rw [recordsOf_loadedOf]
      rfl
    have posts : ∀ lane a, laneRecovered markers written lane a = recovered lane a := fun lane a => rfl
    have sum : ∀ x y, addFigures x y = plus x y := fun _ _ => rfl
    have closes : ∀ a lane, before a = lane →
        recoveryClose markers written lane ((s.arm a).load (figures a)).figures a = closing a := fun a lane hl => by
      subst hl
      rfl
    have even : ∀ l, before (evenArm l) = loadedLane l := fun l =>
      (if_pos (Nat.mul_mod_right 2 l.val)).trans (congrArg loadedLane (laneOf_evenArm l))
    have odd : ∀ l, before (oddArm l) = recovered (loadedLane l) (evenArm l) := fun l =>
      (if_neg (by show ¬ (2 * l.val + 1) % 2 = 0; omega)).trans
        (congrArg (fun k => recovered (loadedLane k) (evenArm l)) (laneOf_oddArm l))
    refine ⟨_, run, rfl, rfl, rfl, fun a => ?_, fun l => ?_, ?_, State.changesOnly_load s _ _ _ _ _ _⟩
    · rw [← arm, ← taken]
      exact Vector.getElem_ofFn a.isLt
    · rw [← lane, ← posts, ← posts]
      exact each l
    · refine congrArg₂ (· ++ ·) (List.map_congr_left fun w _ => ?_) ?_
      · obtain ⟨op, carried⟩ := w
        cases op with
        | checkpointIdle a x =>
          exact congrArg (fun y => (⟨.checkpointIdle a y, carried⟩ : QueuedOp))
            ((sum x _).trans (congrArg (plus x) (taken a)))
        | checkpointOpen a m =>
          exact congrArg (fun y => (⟨.checkpointOpen a { m with figures := y }, carried⟩ : QueuedOp))
            ((sum m.figures _).trans (congrArg (plus m.figures) (taken a)))
        | _ => rfl
      · refine (List.flatMap_congr fun l _ => ?_).trans (filterMap_allArms closing).symm
        rw [← closes _ _ (even l), ← closes _ _ (odd l), ← lane, ← posts]
        rfl

end Sys2Proof.Machine
end
